-- ==== Sys2Proof/Word.lean ====
section
/-! DEFINITION. The byte: what the host link and the tap bus carry, and what the manual numbers bit by bit.
Counts, volumes, temperatures and times are whole numbers (section 4.3 of the Introduction), so they are `Nat` or
`Int` and not words. -/

namespace Sys2Proof

/-- One byte of the host link or of the tap bus (chapter 11). -/
abbrev Byte := BitVec 8

end Sys2Proof
end

