-- ==== Sys2Proof/Syntax.lean ====
section
/-! DEFINITION. The commands of the DC-48: one constructor of `Instr` for each row of spec/opcode_table.json, with the
operands its rule gives it. A host request carries its frame's tag first (R175). A coded operand of a request (a circuit,
a map, a scope, a target, a condition, a meter kind, a step kind) is the code the frame carries, a `Nat`, because the
owning rule refuses an undefined code with RANGE (R175, R192). An event of the plant names its line, trunk or stage by
`Fin`, because a signal arrives only on an input that exists. -/

namespace Sys2Proof

/-- A product label: 16 bytes, one for each character, padded at the end with 0 (section 11.1). -/
abbrev Label := Vector Byte 16

/-- The cleaning circuits (section 8.1). -/
inductive Circuit where
  | a
  | b
  deriving DecidableEq, Repr

/-- The two supplies of a cleaning circuit (section 8.1). -/
inductive Supply where
  | water
  | solution
  deriving DecidableEq, Repr

/-- What cuts a start in the middle: main power is lost, or the reset input is asserted (R190). -/
inductive StartCut where
  | powerLost
  | resetAsserted
  deriving DecidableEq, Repr

/-- A subset of the hold causes (section 1.4), in the order of their bits on the link (section 11.1). -/
structure HoldSet where
  host : Bool
  keg : Bool
  temp : Bool
  watch : Bool
  overdue : Bool
  deriving DecidableEq, Repr

/-- The configuration fields of a line, as LINE SET writes them (R2). Volumes in tenths, temperatures in 0.1 °C, ages in hours. -/
structure LineConfig where
  trunk : Nat
  product : Nat
  fillVolume : Nat
  primeMargin : Nat
  serveLimit : Int
  hardLimit : Int
  lowThreshold : Nat
  criticalThreshold : Nat
  ration : Bool
  softAge : Nat
  hardAge : Nat
  softVolume : Nat
  hardVolume : Nat
  deriving DecidableEq, Repr

/-- One portion size: target T (0 is undefined) and tolerance, in tenths (section 2.5). -/
structure Size where
  target : Nat
  tolerance : Nat
  deriving DecidableEq, Repr

/-- A size set: sizes 1 to 4 in order (section 2.5). -/
abbrev SizeSet := Vector Size 4

/-- One entry of a ROUTE WRITE as it is carried: line 0–47, or 255 for DARK (section 11.1). -/
structure RouteEntry where
  line : Nat
  portionOnly : Bool
  sizeSet : Nat
  deriving DecidableEq, Repr

/-- One step of a PROGRAM LOAD as it is carried: the kind's code, its amount, VERIFY's limit amount and the notify flag. -/
structure StepEntry where
  kind : Nat
  amount : Nat
  limit : Nat
  notify : Bool
  deriving DecidableEq, Repr

/-- The fields of a WATCH SET as they are carried (R113). -/
structure WatchEntry where
  targetKind : Nat
  targetNumber : Nat
  condition : Nat
  threshold : Nat
  action : Nat
  deriving DecidableEq, Repr

/-- The levels of the two rate straps: `true` is tied to 0 V (section 11.5). -/
structure Straps where
  tied1 : Bool
  tied2 : Bool
  deriving DecidableEq, Repr

/-- What a command that can begin a start brings with it: the straps the start reads (R172) and what cuts the start in the
middle, if anything does (R190, assumption 6). -/
structure StartInputs where
  straps : Straps
  cut : Option StartCut
  deriving DecidableEq, Repr

/-- A frame as it arrives at the receiver: its bytes, and whether the byte after them arrives with a framing error (R173). -/
structure FrameArrival where
  bytes : List Byte
  framingError : Bool
  deriving DecidableEq, Repr

/-- The kinds of host request, in the order of section 11.2. -/
inductive RequestKind where
  | status | noticePace | timeSet | timeGet | restart | factoryClear
  | productSet | lineSet | lineGet | lineClear | lineHold | kegAdd | kegRemove | kegSwitch | kegList
  | tapSet | tapGet | sizeSet | freeLimits | routeWrite | routeRead | routeSwap | routeCheck | barState
  | trunkSet | chillerSet | surgeAdd | surgeRemove | coolingGet
  | programLoad | programRead | cleanRequest | cleanWithdraw | cleanStop | cleanContinue | cleanAbort | circuitGet
  | returnToService
  | journalRead | journalRelease | totalsRead | histogramRead | totalsClear | reconcile | watchSet | watchClear | watchGet
  | calOpen | calWrite | calRead
  deriving DecidableEq, Repr

/-- The commands: the host requests in the table's order, then the events of the link, the clock and the supplies, the
tap bus, the cellar plant, the cooling and the cleaning circuits. FRAME_DISCARDED carries the frame as it arrives, so that the
receiver itself tests length and CRC (R173). A command that can begin a start carries that start's inputs. -/
inductive Instr where
  -- system requests
  | status (tag : Byte)
  | noticePace (tag : Byte) (pace : Option Nat)
  | timeSet (tag : Byte) (reading : Nat)
  | timeGet (tag : Byte)
  | restart (tag : Byte)
  | factoryClear (tag : Byte)
  -- lines and kegs
  | productRegister (tag : Byte) (code : Nat) (label : Label)
  | productRemove (tag : Byte) (code : Nat)
  | productRead (tag : Byte) (code : Nat)
  | lineSet (tag : Byte) (line : Nat) (config : LineConfig)
  | lineGet (tag : Byte) (line : Nat)
  | lineClear (tag : Byte) (line : Nat)
  | lineHoldApply (tag : Byte) (line : Nat) (stop : Bool)
  | lineHoldRelease (tag : Byte) (line : Nat) (causes : HoldSet)
  | kegAdd (tag : Byte) (line kegId product nominal : Nat) (holdAfterSwitch : Bool)
  | kegRemove (tag : Byte) (line kegId : Nat)
  | kegSwitch (tag : Byte) (line : Nat)
  | kegList (tag : Byte) (line : Nat)
  -- taps, sizes, limits, routes and bars
  | tapSetAssign (tag : Byte) (tap bar : Nat)
  | tapSetUnassign (tag : Byte) (tap bar : Nat)
  | tapSetCloseOrphan (tag : Byte) (tap bar : Nat)
  | tapGet (tag : Byte) (tap : Nat)
  | sizeSetWrite (tag : Byte) (set : Nat) (sizes : SizeSet)
  | sizeSetRead (tag : Byte) (set : Nat)
  | freeLimitsWrite (tag : Byte) (vfree seconds foam : Nat)
  | freeLimitsRead (tag : Byte)
  | routeWrite (tag : Byte) (map first : Nat) (entries : List RouteEntry)
  | routeRead (tag : Byte) (map first count : Nat)
  | routeSwap (tag : Byte)
  | routeCheck (tag : Byte) (tap : Nat)
  | barStateSet (tag : Byte) (mask : BitVec 16)
  | barStateClear (tag : Byte) (mask : BitVec 16)
  | barStateToggle (tag : Byte) (mask : BitVec 16)
  -- cooling
  | trunkSet (tag : Byte) (trunk : Nat) (setpoint : Int) (kp cls : Nat) (alarm : Int)
  | chillerSet (tag : Byte) (count points : Nat)
  | surgeAdd (tag : Byte) (start duration lead boost : Nat)
  | surgeRemove (tag : Byte) (start : Nat)
  | coolingGet (tag : Byte) (scope trunk : Nat)
  -- cleaning
  | programLoad (tag : Byte) (program threshold : Nat) (steps : List StepEntry)
  | programRead (tag : Byte) (program : Nat)
  | cleanRequest (tag : Byte) (line program : Nat)
  | cleanWithdraw (tag : Byte) (line : Nat)
  | cleanStop (tag : Byte) (circuit : Nat)
  | cleanContinue (tag : Byte) (circuit : Nat)
  | cleanAbort (tag : Byte) (circuit : Nat)
  | circuitGet (tag : Byte) (circuit : Nat)
  | returnToService (tag : Byte) (line : Nat)
  -- accounting
  | journalRead (tag : Byte) (first : Nat)
  | journalRelease (tag : Byte) (through : Nat)
  | totalsRead (tag : Byte) (scope number : Nat)
  | histogramRead (tag : Byte) (code : Nat)
  | totalsClear (tag : Byte)
  | reconcile (tag : Byte) (line : Nat)
  | watchSet (tag : Byte) (watch : Nat) (entry : WatchEntry)
  | watchClear (tag : Byte) (watch : Nat)
  | watchGet (tag : Byte) (watch : Option Nat)
  | calOpen (tag : Byte)
  | calWrite (tag : Byte) (meter number gain offset : Nat) (rReset : Bool)
  | calRead (tag : Byte) (meter number : Nat)
  -- frames that are no request above, and the events of the link
  | unknownRequest (kind tag : Byte) (body : List Byte)
  | busyReply (kind tag : Byte) (body : List Byte)
  | frameDiscarded (frame : FrameArrival)
  | interByteTimeout
  | startMarkerReceived
  | replyTransmitted (start : StartInputs)
  | noticeTransmitted
  | noticePaceWaitEnd
  -- the clock, the supplies and the reset input
  | clockSecond
  | cleaningDueAgeCheck
  | mainPowerFail
  | backupSupplyBelowMinimum
  | powerUp (checkPasses : Bool) (start : StartInputs)
  | resetAsserted
  | resetReleased (start : StartInputs)
  -- the tap bus
  | replyWindowExpiry
  | replyByteGapTimeout
  | replyFormatBroken
  | replyReceived (bytes : List Byte)
  | emptyRoundExpiry
  -- the cellar lines
  | foamOnBeerTrip (line : Fin 48)
  | detectorRearm (line : Fin 48)
  | cellarMeterPulse (line : Fin 48)
  -- cooling
  | sensorSample (returns : Vector (Option Int) 12) (bath : Option Int)
  | alarmTimerExpiry (trunk : Fin 12)
  | releaseTimerExpiry (trunk : Fin 12)
  | controlPeriodExpiry
  | dutyWindowStart
  | valveDutyExpiry (trunk : Fin 12)
  | stageFault (stage : Fin 4)
  | stageRestored (stage : Fin 4)
  -- the cleaning circuits
  | circuitMeterPulse (circuit : Circuit)
  | conductivityReading (circuit : Circuit) (reading : Option Int)
  | supplyLow (circuit : Circuit) (supply : Supply) (active : Bool)
  | flowTimerExpiry (circuit : Circuit)
  | timedStepExpiry (circuit : Circuit)
  -- the calibration switch and window
  | calSwitchOff (off : Bool)
  | calWindowTimeout
  deriving DecidableEq, Repr

end Sys2Proof
end

