-- ==== Sys2Proof/Decode.lean ====
section
/-! DEFINITION. The command a word of the opcode table spells. The table gives no row of this block any bits: its commands are frames,
replies, inputs and timers, and the bytes of frames and replies are read in Machine/Bodies.lean and Machine/Wire.lean. -/

namespace Sys2Proof

/-- No row of the table has bits, so no word spells a command. -/
def decodeTableWord (_nbits _w : Nat) : Option Instr := none

end Sys2Proof
end

