-- ==== Sys2Proof/Config.lean ====
section
/-! DEFINITION. The figures the manual fixes for the part. Nothing here is a choice of the model's: each constant cites
the rule that states it. The manual leaves no value of the part open, so there is no free value here. -/

namespace Sys2Proof.Config

/-- A 32-bit figure saturates here (R104, R20, R157). -/
def max32 : Nat := 4294967295
/-- A 48-bit volume saturates here (R27, R104). -/
def max48 : Nat := 281474976710655
/-- The clock's reading has 32 bits: it passes from 4,294,967,295 to 0 (R189). -/
def clockModulus : Nat := 4294967296

/-- Places of the product table (R1). -/
def productPlaces : Nat := 32
/-- Places of a keg chain (R18). -/
def chainPlaces : Nat := 6
/-- Places of a node's outgoing item list (R78). -/
def itemPlaces : Nat := 8
/-- Items a POLL carries at most, a SETUP among them (R77). -/
def pollPlaces : Nat := 4
/-- Places of the surge plan list (R133). -/
def surgePlaces : Nat := 4
/-- Lines a batch holds at most (R155). -/
def batchPlaces : Nat := 4

/-- Records the journal holds at most (R93). -/
def journalPlaces : Nat := 4096
/-- POUR and PURGE records the journal holds at most (R93). -/
def pourPurgePlaces : Nat := 4032
/-- Held records at which a HIGH notice is posted (R101). -/
def highWater : Nat := 3584
/-- Records one JOURNAL READ returns at most (R98). -/
def readPlaces : Nat := 8

/-- Further requests a calibration window admits (R121). -/
def windowRequests : Nat := 4
/-- Seconds a calibration window stays open (R122). -/
def windowSeconds : Nat := 30

/-- Largest budget a grant carries (R54). -/
def maxBudget : Nat := 65535
/-- Maximum seconds of a pour that asked for a size (R54). -/
def portionSeconds : Nat := 60
/-- Bound of the learned overrun (R65). -/
def maxOverrun : Nat := 300
/-- Foam count at which the foam alert is set (R25). -/
def foamLimit : Nat := 3

/-- Consecutive misses that make a PRESENT node LOST (R85). -/
def missLimit : Nat := 3
/-- Poll rounds from one probe round to the next (R76). -/
def probeEvery : Nat := 8

/-- Seconds above the threshold that enter ALARM (R141). -/
def alarmSeconds : Nat := 300
/-- Seconds at or below the setpoint that make a release report (R142). -/
def releaseSeconds : Nat := 120
/-- Degrees (0.1 °C) below the threshold at which an ALARM ends (R141). -/
def alarmMargin : Int := 10
/-- Seconds a stage stays off before it may switch on (R137). -/
def stageOffSeconds : Nat := 300
/-- Seconds a stage stays on before staging may switch it off (R137). -/
def stageOnSeconds : Nat := 180
/-- A stage's time in condition saturates here (section 7.5). -/
def maxStageTime : Nat := 65535
/-- Stages allowed while the bath sensor is faulty (R140). -/
def bathFaultStages : Nat := 2
/-- A bath sample at or below this trips the freeze guard (R139). -/
def freezeTrip : Int := -60
/-- A bath sample at or above this clears the freeze hold (R139). -/
def freezeClear : Int := -40
/-- Seconds of one control period (R130). -/
def controlSeconds : Nat := 10
/-- Seconds of one duty window (R135). -/
def dutySeconds : Nat := 60

/-- Seconds without a circuit pulse that raise FLOW (R167). -/
def flowSeconds : Nat := 10
/-- Largest conductivity reading that is no SENSOR fault, in µS/cm (R167). -/
def maxConductivity : Int := 20000

end Sys2Proof.Config
end

