-- ==== Sys2Proof/Machine/Arith.lean ====
section
/-! DEFINITION. The arithmetic words of section 4.3 of the Introduction, and the two formulas built on them that more than one
block uses. -/

namespace Sys2Proof.Machine

open Sys2Proof

/-- `a / b` rounded up (section 4.3). -/
def divUp (a b : Nat) : Nat := (a + b - 1) / b

/-- `a / b` rounded half up (section 4.3). -/
def divHalfUp (a b : Nat) : Nat := (2 * a + b) / (2 * b)

/-- `a / b` rounded half away from zero (section 4.3). -/
def divHalfAway (a : Int) (b : Nat) : Int :=
  if 0 ≤ a then (divHalfUp a.toNat b : Nat) else -((divHalfUp (-a).toNat b : Nat) : Int)

/-- `x` clamped to `lo..hi` (section 4.3). -/
def clampNat (lo hi x : Nat) : Nat := max lo (min hi x)

/-- Saturating addition with the maximum `top` (section 4.3). -/
def satAdd (top a b : Nat) : Nat := min top (a + b)

/-- The volume of `n` pulses at gain `g` and offset `o`: `(n + o) × g / 1,000`, rounded half up, and 0 when `n` is 0 (R59, R159). -/
def pulseVolume (g o n : Nat) : Nat := if n = 0 then 0 else divHalfUp ((n + o) * g) 1000

end Sys2Proof.Machine
end

