-- ==== Sys2Proof/Machine/Records.lean ====
section
/-! DEFINITION. The records the blocks of the part keep (chapters 1 to 10), as plain data. Each structure is one record
table of the manual; each enumeration is one list of names of the manual, in the manual's order. -/

namespace Sys2Proof.Machine

open Sys2Proof

/-! ### Lines and kegs (chapter 1) -/

/-- The nine service states of a line, in the order of the table of R4. -/
inductive ServiceState where
  | offline | foul | draining | queued | cleaning | rinsed | priming | serving | dry
  deriving DecidableEq, Repr

/-- The stock level of a line (R24). -/
inductive StockLevel where
  | normal | low | critical
  deriving DecidableEq, Repr

/-- One keg record (section 1.5). Volumes in tenths. -/
structure Keg where
  id : Nat
  coupler : Nat
  product : Nat
  nominal : Nat
  pulses : Nat
  frozen : Nat
  poured : Nat
  holdAfterSwitch : Bool
  deriving DecidableEq, Repr

/-- One line record (section 1.1). The detector armed flag, which is not retained and which LINE GET does not return, stands
in the Line Manager's block. -/
structure Line where
  config : LineConfig
  stock : StockLevel
  lastClean : Option Nat
  volumeSinceClean : Nat
  softAgeNoted : Bool
  softVolumeNoted : Bool
  state : ServiceState
  preDrain : Option ServiceState
  holds : HoldSet
  mark : Bool
  inFlight : Nat
  foamCount : Nat
  foamAlert : Bool
  primeProgress : Nat
  chain : List Keg
  gain : Nat
  cellarDrawn : Nat
  tapPoured : Nat
  deriving DecidableEq, Repr

/-- A count and a volume kept together (section 5.5). -/
structure Tally where
  count : Nat
  volume : Nat
  deriving DecidableEq, Repr

/-- One entry of the product table with its per-product totals (R1, section 5.5). -/
structure Product where
  code : Nat
  label : Label
  sales : Tally
  histogram : Vector Nat 8
  deriving DecidableEq, Repr

/-- Why a keg left its chain (R95). -/
inductive KegCause where
  | empty | switched | removed
  deriving DecidableEq, Repr

/-! ### Taps, routes and pours (chapters 2 and 3) -/

/-- A route: a map entry or a route in use; `none` is DARK (section 2.3). -/
structure Route where
  line : Option Nat
  portionOnly : Bool
  sizeSet : Nat
  deriving DecidableEq, Repr

/-- The two route maps (section 2.3). -/
inductive MapSel where
  | a
  | b
  deriving DecidableEq, Repr

/-- A tap's presence (R32). -/
inductive Presence where
  | absent | present | offline
  deriving DecidableEq, Repr

/-- The class of a granted pour (R53). -/
inductive PourClass where
  | portion | free | prime
  deriving DecidableEq, Repr

/-- The pour phases other than IDLE; a tap with no pour is IDLE (R48). -/
inductive PourPhase where
  | granted | pouring | orphaned
  deriving DecidableEq, Repr

/-- The size asked for, with target and tolerance of the grant (R49). -/
structure AskedSize where
  index : Nat
  target : Nat
  tolerance : Nat
  deriving DecidableEq, Repr

/-- The in-flight pour record (R49). -/
structure InFlight where
  token : Nat
  cls : PourClass
  size : Option AskedSize
  budget : Nat
  clamped : Bool
  maxSeconds : Nat
  grantTime : Nat
  line : Nat
  kegId : Nat
  lastRunning : Nat
  stopSent : Bool
  deriving DecidableEq, Repr

/-- A pour in flight: its phase and its record stand together, so an IDLE tap has no record and any other has one (R48). -/
structure Pour where
  phase : PourPhase
  record : InFlight
  deriving DecidableEq, Repr

/-- One tap record (section 2.1); presence is computed (R32). -/
structure Tap where
  configured : Bool
  bar : Nat
  lockout : Bool
  watchBarred : Bool
  route : Route
  deferred : Bool
  withheld : Bool
  pour : Option Pour
  gain : Nat
  offset : Nat
  overrun : Nat
  nextToken : Nat
  portion : Tally
  free : Tally
  prime : Tally
  released : Tally
  unjournalled : Tally
  deriving DecidableEq, Repr

/-- The reasons a REFUSE item carries, in the order of their codes (section 11.4). -/
inductive Reason where
  | offline | dark | closed | locked | barred | notReady | dry | busy | portionOnly | rationed | noSize
  deriving DecidableEq, Repr

/-- The end causes of a DONE event (section 3.6). -/
inductive EndCause where
  | budget | handle | timeout | forced | expired
  deriving DecidableEq, Repr

/-- The flag set of a POUR record (R63), in the order of its bits (section 11.3). -/
structure PourFlags where
  short : Bool
  overTarget : Bool
  foamy : Bool
  warm : Bool
  timeout : Bool
  forced : Bool
  clamped : Bool
  cut : Bool
  lost : Bool
  recovered : Bool
  deriving DecidableEq, Repr

/-! ### The tap bus (chapter 4) -/

/-- The state of a node (section 4.2). -/
inductive NodeState where
  | absent | present | lost
  deriving DecidableEq, Repr

/-- An item carried to a node, other than a SETUP (R78). -/
inductive Item where
  | grant (loc token budget seconds : Nat)
  | refuse (loc : Nat) (reason : Reason)
  | stop (loc token : Nat)
  deriving DecidableEq, Repr

/-- An entry of an outgoing item list. `carried` marks the items of the poll now awaiting its reply, so that a valid reply
removes exactly these (R79). -/
structure QueuedItem where
  item : Item
  carried : Bool
  deriving DecidableEq, Repr

/-- One node record (section 4.2); whether the node is configured is derived from its taps. -/
structure Node where
  state : NodeState
  misses : Nat
  tapCount : Option Nat
  lastTaken : Option Nat
  freshDue : Bool
  setupDue : Bool
  threshold : Nat
  items : List QueuedItem
  deriving DecidableEq, Repr

/-- A POLL as it was formed (R77). -/
structure Poll where
  address : Nat
  fresh : Bool
  takenThrough : Option Nat
  setup : Option Nat
  items : List Item
  deriving DecidableEq, Repr

/-- What the bus is doing: nothing (the part is stopped), an empty round (R76), or an exchange awaiting its reply (R74). -/
inductive BusPhase where
  | stopped
  | emptyRound
  | exchange (poll : Poll)
  deriving DecidableEq, Repr

/-! ### Journal records (chapter 5) -/

/-- The step kinds of a cleaning program (section 8.2). -/
inductive StepKind where
  | purge | rinse | fill | soak | circulate | pause | verify
  deriving DecidableEq, Repr

/-- The fault kinds of a batch, in the order of their codes 1 to 5 (section 11.3). -/
inductive FaultKind where
  | flow | sensor | supply | lockout | rinse
  deriving DecidableEq, Repr

/-- How a batch ended (R169). -/
inductive BatchEnd where
  | completed
  | aborted
  | fault (kind : FaultKind)
  deriving DecidableEq, Repr

/-- The kinds of meter (R123). -/
inductive MeterKind where
  | tap | line | circuit
  deriving DecidableEq, Repr

/-- Which pours a watch looks at (section 6.3). -/
inductive WatchTarget where
  | tap (n : Nat)
  | line (n : Nat)
  | bar (n : Nat)
  | all
  deriving DecidableEq, Repr

/-- Which of those pours match (section 6.3). -/
inductive WatchCondition where
  | anyPour | volumeOver | warm | foamy | shortOrOver
  deriving DecidableEq, Repr

/-- What a trip does beyond recording it (section 6.3). -/
inductive WatchAction where
  | note | hold
  deriving DecidableEq, Repr

/-- The state of a watch entry (section 6.3). -/
inductive WatchState where
  | off | armed | tripped
  deriving DecidableEq, Repr

/-- One entry of the watch table (section 6.3). -/
structure Watch where
  target : WatchTarget
  condition : WatchCondition
  threshold : Nat
  action : WatchAction
  state : WatchState
  count : Nat
  deriving DecidableEq, Repr

/-- The fields of a POUR record (R94). -/
structure PourRecord where
  tap : Nat
  line : Nat
  product : Nat
  kegId : Nat
  cls : PourClass
  sizeIndex : Option Nat
  target : Option Nat
  volume : Nat
  pulses : Nat
  foamRatio : Nat
  temperature : Option Int
  flags : PourFlags
  deriving DecidableEq, Repr

/-- The kinds of journal record with their fields (R94 to R96). -/
inductive RecordBody where
  | pour (pour : PourRecord)
  | purge (line : Nat) (circuit : Circuit) (program volume : Nat)
  | keg (line kegId product nominal drawn poured : Nat) (variance : Int) (cause : KegCause)
  | clean (line : Nat) (circuit : Circuit) (program stepsDone stepsTotal : Nat) (ending : BatchEnd) (mark : Bool)
      (water solution : Nat)
  | cal (meter : MeterKind) (number oldGain newGain oldOffset newOffset : Nat) (rReset : Bool)
  | watch (number : Nat) (target : WatchTarget) (condition : WatchCondition) (threshold : Nat) (tripping : Option Nat)
  deriving DecidableEq, Repr

/-- A stored record with its common fields (R92). -/
structure Record where
  seq : Nat
  time : Option Nat
  body : RecordBody
  deriving DecidableEq, Repr

/-- The calibration window (section 6.4). -/
structure Window where
  isOpen : Bool
  remaining : Nat
  openTime : Nat
  deriving DecidableEq, Repr

/-- The journal status every journal reply carries (R98). -/
structure JournalStatus where
  held : Nat
  pourPurge : Nat
  oldest : Nat
  newest : Nat
  next : Nat
  unstoredKeg : Nat
  unstoredClean : Nat
  unstoredCal : Nat
  unstoredWatch : Nat
  deriving DecidableEq, Repr

/-! ### Cooling (chapter 7) -/

/-- One trunk record (section 7.1). The valve duty follows the allocation (R135), so it is not stored beside it. `allocCls` is
the class as the last period took it, by which the allocation is shared until the next one (R127, assumption 43); `needed` is
whether the trunk needed cold at the last period (R143); `valveOpen` is the valve's drive. -/
structure Trunk where
  setpoint : Int
  kp : Nat
  cls : Nat
  alarmThreshold : Int
  reading : Int
  sensorFault : Bool
  warm : Nat
  demand : Nat
  allocCls : Nat
  allocation : Nat
  dutyInForce : Nat
  alarm : Bool
  alarmTimer : Nat
  releaseTimer : Nat
  needed : Bool
  valveOpen : Bool
  deriving DecidableEq, Repr

/-- One chiller stage (section 7.5); availability is derived from the configured count and the fault input. -/
structure Stage where
  running : Bool
  time : Nat
  deriving DecidableEq, Repr

/-- One surge plan entry (section 7.3), with its active flag as tested at the last period (R143). -/
structure Surge where
  start : Nat
  duration : Nat
  lead : Nat
  boost : Nat
  active : Bool
  deriving DecidableEq, Repr

/-! ### Cleaning (chapter 8) -/

/-- One step of a stored program: `amount` is tenths per line or seconds, VERIFY's settle volume; `limit` is VERIFY's limit
volume and 0 for every other kind. -/
structure Step where
  kind : StepKind
  amount : Nat
  limit : Nat
  notify : Bool
  deriving DecidableEq, Repr

/-- A cleaning program (section 8.2). -/
structure Program where
  threshold : Nat
  steps : List Step
  deriving DecidableEq, Repr

/-- One entry of the clean queue (section 8.3). -/
structure QueueEntry where
  line : Nat
  program : Nat
  ready : Bool
  deriving DecidableEq, Repr

/-- The state of a cleaning circuit (section 8.5). -/
inductive CircuitState where
  | idle | running | stopping | paused
  deriving DecidableEq, Repr

/-- Why a circuit is PAUSED (R163). -/
inductive PauseCause where
  | pauseStep | stop
  deriving DecidableEq, Repr

/-- One circuit record (section 8.5). `pulses` is the step's pulse count (R159); `settling` says that the latest reading of
the running VERIFY step is below the threshold (R161); `lastEnd` is `none` for the end status NONE. -/
structure CircuitRec where
  state : CircuitState
  batch : List Nat
  program : Option Nat
  stepIndex : Option Nat
  progress : Nat
  target : Nat
  pulses : Nat
  settle : Nat
  settling : Bool
  stepsDone : Nat
  pauseCause : Option PauseCause
  water : Nat
  solution : Nat
  flowTimer : Nat
  lastEnd : Option BatchEnd
  unstoredPurge : Nat
  gain : Nat
  offset : Nat
  conductivity : Int
  deriving DecidableEq, Repr

/-- One value for each of the two circuits. -/
structure PerCircuit (α : Type) where
  a : α
  b : α
  deriving DecidableEq, Repr

/-! ### Notices and replies (chapter 9) -/

/-- A notice's kind and subject (section 9.5); a node is named by its address 1 to 32. -/
inductive NoticeKey where
  | line (n : Nat)
  | keg (n : Nat)
  | stock (n : Nat)
  | node (address : Nat)
  | circuit (c : Circuit)
  | trunk (n : Nat)
  | chiller
  | journal
  | watch (n : Nat)
  | system
  deriving DecidableEq, Repr

/-- Why a part started (section 10.4). -/
inductive StartCause where
  | restart | retentionLost | factoryClear
  deriving DecidableEq, Repr

/-- The causes of notices, each kind's in the order of their codes. -/
inductive NoticeCause where
  | lineState | lineHold | lineFoam | lineDue | lineConfig
  | kegAdded | kegRemoved | kegEmpty | kegSwitched
  | stockNormal | stockLow | stockCritical
  | nodePresent | nodeLost | nodeTaps | nodeAbsent
  | circuitStarted | circuitStep | circuitPaused | circuitCompleted | circuitAborted | circuitFault
  | trunkConfig | trunkSensorFault | trunkSensorRestored | trunkAlarm | trunkAlarmClear
  | stageFault | stageRestored | freeze | freezeClear | bathFault | bathRestored
  | journalHigh | journalFull
  | watchTripped
  | start (cause : StartCause)
  deriving DecidableEq, Repr

/-- One entry of the pending notice list (R181). -/
structure Notice where
  key : NoticeKey
  cause : NoticeCause
  deriving DecidableEq, Repr

/-- The subject's state that a notice carries, read at sending (R182, R184). -/
inductive NoticeState where
  | line (state : ServiceState) (preDrain : Option ServiceState) (holds : HoldSet) (mark foamAlert : Bool) (inFlight : Nat)
      (primeProgress : Option Nat) (softAgeNoted softVolumeNoted : Bool)
  | keg (count id coupler drawn poured : Nat)
  | stock (level : StockLevel) (remaining : Nat) (rationed : Bool)
  | node (state : NodeState) (tapCount : Option Nat) (misses items : Nat)
  | circuit (state : CircuitState) (batch : List Nat) (program stepIndex : Option Nat) (stepsDone : Nat)
      (pauseCause : Option PauseCause) (water solution : Nat) (lastEnd : Option BatchEnd)
  | trunk (reading : Int) (sensorFault : Bool) (demand allocation dutyInForce : Nat) (alarm : Bool)
  | chiller (running available : Vector Bool 4) (bath : Int) (bathFault freezeHold : Bool)
  | journal (status : JournalStatus)
  | watch (state : WatchState) (target : WatchTarget) (condition : WatchCondition) (action : WatchAction) (count : Nat)
  | system (cause : StartCause) (clock : Nat) (unset : Bool)
  deriving DecidableEq, Repr

/-- The statuses of a reply, in the order of the table of R175. -/
inductive Status where
  | ok | busy | unknown | format | range | state | locked | tapBusy | lineBusy | full | duplicate | notFound
  | invalidProgram | programCannotClear
  deriving DecidableEq, Repr

/-- What STATUS returns (R178). -/
structure Summary where
  clock : Nat
  unset : Bool
  lastStart : StartCause
  linesIn : Vector Nat 9
  linesHeld : Nat
  nodesIn : Vector Nat 3
  circuits : PerCircuit CircuitState
  queueLength : Nat
  stagesRunning : Nat
  freezeHold : Bool
  trunksInAlarm : Nat
  held : Nat
  nextSeq : Nat
  notices : Nat
  pace : Nat
  calSwitch : Bool
  windowOpen : Bool
  discarded : Nat
  deriving DecidableEq, Repr

/-- The calibration window as CAL OPEN and CAL READ report it (R121, R126). -/
structure WindowView where
  isOpen : Bool
  remaining : Nat
  secondsLeft : Nat
  deriving DecidableEq, Repr

/-- The chiller as COOLING GET and CHILLER SET report it (R143). -/
structure ChillerView where
  count : Nat
  points : Nat
  running : Vector Bool 4
  available : Vector Bool 4
  times : Vector Nat 4
  stagesRunning : Nat
  capacity : Nat
  sumOfDemands : Nat
  target : Nat
  bath : Int
  bathFault : Bool
  freezeHold : Bool
  deriving DecidableEq, Repr

/-- A circuit as CIRCUIT GET reports it (R157): its record, its supply-low inputs and the current step. -/
structure CircuitView where
  record : CircuitRec
  waterLow : Bool
  solutionLow : Bool
  step : Option Step
  deriving DecidableEq, Repr

/-- The fields of a reply after its status, as the owning rule names them. TRUNK SET answers `trunk` and COOLING GET
`trunkState`, which adds whether the trunk needed cold; SURGE ADD and SURGE REMOVE answer `surgePlan` and COOLING GET `surges`,
which adds the active flags (R127, R133, R143). `journalStatus` is what a refused JOURNAL RELEASE carries (R98). -/
inductive ReplyBody where
  | none
  | summary (s : Summary)
  | pace (n : Nat)
  | clock (reading : Nat) (unset : Bool)
  | product (code : Nat) (label : Label)
  | line (l : Line)
  | kegs (kegs : List (Keg × Nat))
  | holds (h : HoldSet)
  | coupler (n : Nat)
  | tap (presence : Presence) (t : Tap)
  | sizes (sizes : SizeSet)
  | limits (vfree seconds foam : Nat)
  | routes (active : MapSel) (entries : List Route)
  | swapped (active : MapSel) (deferred : Nat)
  | unsafeTap (tap line : Nat)
  | routing (activeEntry inactiveEntry inUse : Route) (deferred withheld : Bool) (active : MapSel)
  | bars (barOpen : BitVec 16)
  | trunk (t : Trunk)
  | trunkState (t : Trunk)
  | trunks (ts : Vector Trunk 12)
  | chiller (c : ChillerView)
  | surgePlan (entries : List Surge)
  | surges (entries : List Surge)
  | program (p : Option Program)
  | cleanPlace (state : ServiceState) (place : Option Nat) (circuit : Option Circuit)
  | lineState (state : ServiceState)
  | circuitState (state : CircuitState)
  | circuit (c : CircuitView)
  | records (first : Nat) (records : List Record) (status : JournalStatus)
  | released (removed : Nat) (status : JournalStatus)
  | journalStatus (status : JournalStatus)
  | tapTotals (portion free prime released unjournalled : Tally)
  | sales (sales : Tally)
  | lineVariance (cellarDrawn tapPoured : Nat)
  | histogram (buckets : Vector Nat 8)
  | reconciled (line cellarDrawn tapPoured : Nat) (difference : Int) (kegId drawn poured : Nat)
  | watch (w : Watch)
  | watches (ws : Vector Watch 8)
  | window (w : WindowView)
  | meter (gain offset : Nat) (overrun : Option Nat)
  | meterAndWindow (gain offset : Nat) (overrun : Option Nat) (w : WindowView)
  deriving DecidableEq, Repr

/-- The request slot with its reply (R174): the request's kind and tag, the status and body of the reply, and the start that
an accepted RESTART or FACTORY CLEAR calls for (R180). -/
structure Slot where
  kind : Byte
  tag : Byte
  status : Status
  body : ReplyBody
  start : Option StartCause
  deriving DecidableEq, Repr

/-- A BUSY reply in its place (R174). -/
structure BusyReply where
  kind : Byte
  tag : Byte
  deriving DecidableEq, Repr

/-- A notice in transmission, its subject's state read at sending (R182). -/
structure SentNotice where
  notice : Notice
  state : NoticeState
  deriving DecidableEq, Repr

/-- What the transmitter is sending (R177). -/
inductive Transmission where
  | idle
  | reply
  | busyReply
  | notice (n : SentNotice)
  deriving DecidableEq, Repr

/-- The condition of the receiver (R173): hunting; reading the length, its first byte perhaps arrived; reading the frame of a
known length, with the bytes of kind, tag, body and CRC that have arrived. -/
inductive Receiver where
  | hunting
  | readingLength (first : Option Byte)
  | readingFrame (length : Nat) (got : List Byte)
  deriving DecidableEq, Repr

end Sys2Proof.Machine
end

