-- ==== Sys2Proof/Machine/Cold.lean ====
section
/-! DEFINITION. The values of each record after cold start, as the tables of R29, R47, R89, R109, R120, R145, R146, R171 and
R172 give them. -/

namespace Sys2Proof.Machine

open Sys2Proof

/-- The empty hold set (R29). -/
def HoldSet.empty : HoldSet := { host := false, keg := false, temp := false, watch := false, overdue := false }

/-- The configuration fields of a line after cold start (R29). -/
def coldLineConfig : LineConfig :=
  { trunk := 0, product := 0, fillVolume := 100, primeMargin := 0, serveLimit := 60, hardLimit := 90, lowThreshold := 0,
    criticalThreshold := 0, ration := false, softAge := 168, hardAge := 336, softVolume := 0, hardVolume := 0 }

/-- A line after cold start (R29). -/
def coldLine : Line :=
  { config := coldLineConfig, stock := .normal, lastClean := none, volumeSinceClean := 0, softAgeNoted := false,
    softVolumeNoted := false, state := .offline, preDrain := none, holds := HoldSet.empty, mark := true, inFlight := 0,
    foamCount := 0, foamAlert := false, primeProgress := 0, chain := [], gain := 2000, cellarDrawn := 0, tapPoured := 0 }

/-- A count and a volume of 0 (R109). -/
def Tally.zero : Tally := { count := 0, volume := 0 }

/-- The DARK route, portion-only clear, size set 0 (R41, R47). -/
def Route.dark : Route := { line := none, portionOnly := false, sizeSet := 0 }

/-- A tap after cold start (R47). -/
def coldTap : Tap :=
  { configured := false, bar := 0, lockout := false, watchBarred := false, route := Route.dark, deferred := false,
    withheld := false, pour := none, gain := 2000, offset := 0, overrun := 0, nextToken := 0, portion := Tally.zero,
    free := Tally.zero, prime := Tally.zero, released := Tally.zero, unjournalled := Tally.zero }

/-- An undefined size (R47). -/
def coldSize : Size := { target := 0, tolerance := 0 }

/-- A node record after a start, with the threshold computed from its taps (R75, R89). -/
def freshNode (threshold : Nat) : Node :=
  { state := .absent, misses := 0, tapCount := none, lastTaken := none, freshDue := true, setupDue := true,
    threshold := threshold, items := [] }

/-- A watch entry after cold start (R120). -/
def coldWatch : Watch := { target := .all, condition := .anyPour, threshold := 0, action := .note, state := .off, count := 0 }

/-- The closed calibration window, of a start and of every closing: the open flag clear and the requests remaining 0 (R122). The
open time 0 is the model's DESIGN CHOICE (assumption 37): R122 gives a closed window none. -/
def closedWindow : Window := { isOpen := false, remaining := 0, openTime := 0 }

/-- The figures of a trunk that are not retained, beside the given settings, after a start (R145). -/
def startTrunk (setpoint : Int) (kp cls : Nat) (alarmThreshold : Int) : Trunk :=
  { setpoint := setpoint, kp := kp, cls := cls, alarmThreshold := alarmThreshold, reading := setpoint, sensorFault := false,
    warm := 0, demand := 0, allocCls := cls, allocation := 0, dutyInForce := 0, alarm := false, alarmTimer := 0, releaseTimer := 0,
    needed := false, valveOpen := false }

/-- A trunk after cold start (R146). -/
def coldTrunk : Trunk := startTrunk 40 10 2 70

/-- A chiller stage after a start (R145). -/
def startStage : Stage := { running := false, time := 0 }

/-- A circuit record after a start, with the retained figures given (R171). R171's list does not name the step target; 0 is the
model's DESIGN CHOICE (assumption 45). -/
def startCircuit (gain offset unstoredPurge : Nat) : CircuitRec :=
  { state := .idle, batch := [], program := none, stepIndex := none, progress := 0, target := 0, pulses := 0, settle := 0,
    settling := false, stepsDone := 0, pauseCause := none, water := 0, solution := 0, flowTimer := 0, lastEnd := none,
    unstoredPurge := unstoredPurge, gain := gain, offset := offset, conductivity := 0 }

/-- A circuit record after cold start (R172). -/
def coldCircuit : CircuitRec := startCircuit 2000 0 0

end Sys2Proof.Machine
end

