-- ==== Sys2Proof/Machine/State.lean ====
section
/-! DEFINITION. The state of the part: every record, list, counter, flag, mode and input the manual gives it, block by block
(section 2 of the Introduction), with the queue of commands that wait; the state right after a cold start; and the reasons
a step can stop. -/

namespace Sys2Proof.Machine

open Sys2Proof

/-- The Line Manager (chapter 1): the product table in the order of registration, the 48 line records, and the detector armed
flags, which are not retained (R22). -/
structure LineBlock where
  products : List Product
  lines : Vector Line 48
  detectorArmed : Vector Bool 48
  deriving DecidableEq, Repr

/-- The Pour Engine (chapters 2 and 3): the 128 tap records, both route maps and the selector, the bar open set (bit 0 for bar
0), the size table, and the free-pour limits with the foam threshold. -/
structure PourBlock where
  taps : Vector Tap 128
  mapA : Vector Route 128
  mapB : Vector Route 128
  active : MapSel
  barOpen : BitVec 16
  sizes : Vector SizeSet 4
  vfree : Nat
  freeSeconds : Nat
  foamThreshold : Nat
  deriving DecidableEq, Repr

/-- The Tap Bus Controller (chapter 4): the node records of addresses 1 to 32, the round number, what the bus is doing, and the
address of an abandoned exchange whose reply may still arrive (R75, R89). -/
structure BusBlock where
  nodes : Vector Node 32
  round : Nat
  phase : BusPhase
  abandoned : Option Nat
  deriving DecidableEq, Repr

/-- The Accounting Unit (chapters 5 and 6): the journal, oldest record first, with its counts and flags, the unstored counts,
the watch table and the calibration window. `nextSeq` is 2³² when no further number exists (R92). -/
structure Accounts where
  journal : List Record
  nextSeq : Nat
  pourPurge : Nat
  highNoted : Bool
  fullNoted : Bool
  unstoredKeg : Nat
  unstoredClean : Nat
  unstoredCal : Nat
  unstoredWatch : Nat
  watches : Vector Watch 8
  window : Window
  deriving DecidableEq, Repr

/-- The Cooling Controller (chapter 7): trunks, stages 1 to 4, the chiller's settings and flags, the surge plan, the capacity
of the last period, the control period and duty window timers, and the configured stages whose fault input was active at the
start and has not been reported or become inactive since (R138). -/
structure Cooling where
  trunks : Vector Trunk 12
  stages : Vector Stage 4
  count : Nat
  points : Nat
  target : Nat
  bath : Int
  bathFault : Bool
  freezeHold : Bool
  surges : List Surge
  capacity : Nat
  controlTimer : Nat
  dutyTimer : Nat
  startFaults : Vector Bool 4
  deriving DecidableEq, Repr

/-- The Cleaning Sequencer (chapter 8): the program table, the clean queue oldest first, and both circuits. -/
structure Cleaning where
  programs : Vector (Option Program) 8
  queue : List QueueEntry
  circuits : PerCircuit CircuitRec
  deriving DecidableEq, Repr

/-- The Host Link Interface (chapter 9): the slot, the BUSY place, the transmitter, the pending notice list oldest first, the
number of notice starts in the last 1,000 ms, the pace, the receiver, the discarded-frame count and the link rate in baud. -/
structure Link where
  slot : Option Slot
  busy : Option BusyReply
  tx : Transmission
  notices : List Notice
  starts : Nat
  pace : Nat
  receiver : Receiver
  discarded : Nat
  rate : Nat
  deriving DecidableEq, Repr

/-- The Retained Store and Clock (chapter 10): the clock with its unset flag, whether counting has just reached a whole minute
(R189), the cause of the last start, whether main power is present and the reset input asserted, the retention lost latch
(R188), and whether a power-up under an asserted reset input called for a cold start (R190). The check word of R188 and the level of the
backup supply are not held (assumptions 64 and 63). -/
structure Store where
  clock : Nat
  unset : Bool
  minuteReached : Bool
  lastStart : StartCause
  mainPower : Bool
  resetHeld : Bool
  retentionLost : Bool
  heldColdStart : Bool
  deriving DecidableEq, Repr

/-- The levels of the inputs the part reads: detectors reading full, stage faults active, the calibration switch on, the
supply-low inputs active, and the rate straps. -/
structure Pins where
  detectorFull : Vector Bool 48
  stageFault : Vector Bool 4
  calSwitch : Bool
  waterLow : PerCircuit Bool
  solutionLow : PerCircuit Bool
  straps : Straps
  deriving DecidableEq, Repr

/-- The whole part, and the commands that wait, first in, first out. -/
structure State where
  cellar : LineBlock
  pour : PourBlock
  bus : BusBlock
  acct : Accounts
  cool : Cooling
  clean : Cleaning
  link : Link
  store : Store
  pins : Pins
  pending : List Instr
  deriving DecidableEq, Repr

/-- Nothing stops the part with a fault: the manual gives every command an effect in every condition, and where it names a
fault (a batch fault, a sensor fault) that is a change of state. The type has no constructor, which is safe: no claim can
rest on a fault that the part does not have. -/
inductive Fault where
  deriving DecidableEq, Repr

/-- Why a command has no meaning. -/
inductive Refusal where
  /-- Raised by `exec` alone, for a command with no meaning yet; safe, because the run stops there. -/
  | notModelled (mnemonic : String)
  deriving DecidableEq, Repr

/-- What a step answers. -/
abbrev Result := Host.Outcome State Fault Refusal

/-! ### The blocks after cold start -/

/-- The Line Manager after cold start (R1, R29), with the detector flags read from the inputs (R22). -/
def coldCellar (pins : Pins) : LineBlock :=
  { products := [], lines := Vector.replicate 48 coldLine, detectorArmed := pins.detectorFull }

/-- The Pour Engine after cold start (R47, R50). -/
def coldPour : PourBlock :=
  { taps := Vector.replicate 128 coldTap, mapA := Vector.replicate 128 Route.dark, mapB := Vector.replicate 128 Route.dark,
    active := .a, barOpen := 0#16, sizes := Vector.replicate 4 (Vector.replicate 4 coldSize), vfree := 10000,
    freeSeconds := 30, foamThreshold := 64 }

/-- The Tap Bus Controller after cold start: no node is configured, so the first round is empty (R76, R89). -/
def coldBus (abandoned : Option Nat) : BusBlock :=
  { nodes := Vector.replicate 32 (freshNode 3333), round := 0, phase := .emptyRound, abandoned := abandoned }

/-- The Accounting Unit after cold start (R109, R120, R122). -/
def coldAccounts : Accounts :=
  { journal := [], nextSeq := 1, pourPurge := 0, highNoted := false, fullNoted := false, unstoredKeg := 0,
    unstoredClean := 0, unstoredCal := 0, unstoredWatch := 0, watches := Vector.replicate 8 coldWatch,
    window := closedWindow }

/-- The stages of a count of `count` whose fault input is active at a start (R138). -/
def startFaultsOf (count : Nat) (pins : Pins) : Vector Bool 4 :=
  Vector.ofFn fun i => decide (i.val < count) && pins.stageFault[i]

/-- The Cooling Controller after cold start (R138, R145, R146). -/
def coldCooling (pins : Pins) : Cooling :=
  { trunks := Vector.replicate 12 coldTrunk, stages := Vector.replicate 4 startStage, count := 2, points := 100, target := 0,
    bath := 0, bathFault := false, freezeHold := false, surges := [], capacity := 0, controlTimer := 0, dutyTimer := 0,
    startFaults := startFaultsOf 2 pins }

/-- The Cleaning Sequencer after cold start (R172). -/
def coldCleaning : Cleaning :=
  { programs := Vector.replicate 8 none, queue := [], circuits := { a := coldCircuit, b := coldCircuit } }

/-- The link rate the straps set, in baud (R195). -/
def linkRate (s : Straps) : Nat :=
  match s.tied1, s.tied2 with
  | false, false => 57600
  | true, false => 115200
  | false, true => 230400
  | true, true => 115200

/-- The Host Link Interface after a start (R185): the one SYSTEM notice has been posted, and the free transmitter has begun it. -/
def startLink (pace : Nat) (straps : Straps) (cause : StartCause) (clock : Nat) (unset : Bool) : Link :=
  { slot := none, busy := none,
    tx := .notice { notice := { key := .system, cause := .start cause }, state := .system cause clock unset },
    notices := [], starts := 1, pace := pace, receiver := .hunting, discarded := 0, rate := linkRate straps }

/-- The Retained Store and Clock after a cold start: clock 0, unset, the latch cleared (R188, R189, R190). -/
def coldStore (cause : StartCause) : Store :=
  { clock := 0, unset := true, minuteReached := false, lastStart := cause, mainPower := true, resetHeld := false,
    retentionLost := false, heldColdStart := false }

/-- The inputs as the model takes them before any command has changed one (assumption 3). -/
def quietPins : Pins :=
  { detectorFull := Vector.replicate 48 false, stageFault := Vector.replicate 4 false, calSwitch := false,
    waterLow := { a := false, b := false }, solutionLow := { a := false, b := false },
    straps := { tied1 := false, tied2 := false } }

/-- The part right after a cold start with cause RETENTION LOST, no command waiting (R190, assumption 1). -/
def State.reset : State :=
  { cellar := coldCellar quietPins, pour := coldPour, bus := coldBus none, acct := coldAccounts, cool := coldCooling quietPins,
    clean := coldCleaning, link := startLink 20 quietPins.straps .retentionLost 0 true, store := coldStore .retentionLost,
    pins := quietPins, pending := [] }

end Sys2Proof.Machine
end

