-- ==== Sys2Proof/Machine/Ops.lean ====
section
/-! DEFINITION. The named operations every block's rules are written over: reading and changing one record of a table, posting
a notice, taking a journal record, and the few figures computed from a line, a tap or a circuit. -/

namespace Sys2Proof.Machine

open Sys2Proof

/-! ### Reading and changing one record -/

/-- Line `n`'s record; a number above 47 names no line and reads as an unconfigured one. -/
def State.line (s : State) (n : Nat) : Line := (s.cellar.lines[n]?).getD coldLine

/-- Replaces line `n`'s record. -/
def State.setLine (n : Nat) (l : Line) (s : State) : State :=
  { s with cellar := { s.cellar with lines := s.cellar.lines.setIfInBounds n l } }

/-- Changes line `n`'s record by `f`. -/
def State.modLine (n : Nat) (f : Line → Line) (s : State) : State := s.setLine n (f (s.line n))

/-- Tap `t`'s record. -/
def State.tap (s : State) (t : Nat) : Tap := (s.pour.taps[t]?).getD coldTap

/-- Replaces tap `t`'s record. -/
def State.setTap (t : Nat) (r : Tap) (s : State) : State :=
  { s with pour := { s.pour with taps := s.pour.taps.setIfInBounds t r } }

/-- Changes tap `t`'s record by `f`. -/
def State.modTap (t : Nat) (f : Tap → Tap) (s : State) : State := s.setTap t (f (s.tap t))

/-- The node record of address `a`, 1 to 32. -/
def State.node (s : State) (a : Nat) : Node := (s.bus.nodes[a - 1]?).getD (freshNode 3333)

/-- Replaces the node record of address `a`. -/
def State.setNode (a : Nat) (n : Node) (s : State) : State :=
  { s with bus := { s.bus with nodes := s.bus.nodes.setIfInBounds (a - 1) n } }

/-- Changes the node record of address `a` by `f`. -/
def State.modNode (a : Nat) (f : Node → Node) (s : State) : State := s.setNode a (f (s.node a))

/-- Trunk `n`'s record. -/
def State.trunk (s : State) (n : Nat) : Trunk := (s.cool.trunks[n]?).getD coldTrunk

/-- Replaces trunk `n`'s record. -/
def State.setTrunk (n : Nat) (t : Trunk) (s : State) : State :=
  { s with cool := { s.cool with trunks := s.cool.trunks.setIfInBounds n t } }

/-- Changes trunk `n`'s record by `f`. -/
def State.modTrunk (n : Nat) (f : Trunk → Trunk) (s : State) : State := s.setTrunk n (f (s.trunk n))

/-- Stage record `i`; stage number `i + 1` of the manual. -/
def State.stage (s : State) (i : Nat) : Stage := (s.cool.stages[i]?).getD startStage

/-- Replaces stage record `i`. -/
def State.setStage (i : Nat) (g : Stage) (s : State) : State :=
  { s with cool := { s.cool with stages := s.cool.stages.setIfInBounds i g } }

/-- The value of one circuit. -/
def PerCircuit.sel {α : Type} (p : PerCircuit α) : Circuit → α
  | .a => p.a
  | .b => p.b

/-- Replaces the value of one circuit. -/
def PerCircuit.put {α : Type} (p : PerCircuit α) (c : Circuit) (x : α) : PerCircuit α :=
  match c with
  | .a => { p with a := x }
  | .b => { p with b := x }

/-- Circuit `c`'s record. -/
def State.circuit (s : State) (c : Circuit) : CircuitRec := s.clean.circuits.sel c

/-- Replaces circuit `c`'s record. -/
def State.setCircuit (c : Circuit) (r : CircuitRec) (s : State) : State :=
  { s with clean := { s.clean with circuits := s.clean.circuits.put c r } }

/-- Changes circuit `c`'s record by `f`. -/
def State.modCircuit (c : Circuit) (f : CircuitRec → CircuitRec) (s : State) : State := s.setCircuit c (f (s.circuit c))

/-- Watch entry `w`. -/
def State.watch (s : State) (w : Nat) : Watch := (s.acct.watches[w]?).getD coldWatch

/-- Replaces watch entry `w`. -/
def State.setWatch (w : Nat) (e : Watch) (s : State) : State :=
  { s with acct := { s.acct with watches := s.acct.watches.setIfInBounds w e } }

/-- Program slot `p` (section 8.2). -/
def State.programSlot (s : State) (p : Nat) : Option Program := (s.clean.programs[p]?).getD none

/-- Does the part take events: main power is present and the reset input is not asserted (R187, R190). -/
def State.takesEvents (s : State) : Bool := s.store.mainPower && !s.store.resetHeld

/-- The clock reading as a stored time, absent while the clock is unset (R92, R8). -/
def State.time (s : State) : Option Nat := if s.store.unset then none else some s.store.clock

/-! ### Numbers of taps and nodes (section 4.1 of the Introduction) -/

/-- The node that carries tap `t`. -/
def nodeOfTap (t : Nat) : Nat := t / 4 + 1

/-- The local index of tap `t` on its node. -/
def localOfTap (t : Nat) : Nat := t % 4

/-- The tap of local index `i` on the node of address `a`. -/
def tapOf (a i : Nat) : Nat := 4 * (a - 1) + i

/-! ### Notices (R181) -/

/-- The list after a posting: an entry of the same kind and subject keeps its place and takes the new cause, otherwise a new
entry joins the tail (R181). -/
def mergeNotice (key : NoticeKey) (cause : NoticeCause) : List Notice → List Notice
  | [] => [{ key := key, cause := cause }]
  | n :: rest => if n.key = key then { key := key, cause := cause } :: rest else n :: mergeNotice key cause rest

/-- Posts a notice (R181). -/
def post (key : NoticeKey) (cause : NoticeCause) (s : State) : State :=
  { s with link := { s.link with notices := mergeNotice key cause s.link.notices } }

/-! ### Figures of a line (chapter 1) -/

/-- A keg's drawn volume: its frozen drawn volume plus its pulses at the line's gain, rounded half up (R20). -/
def drawnVolume (gain : Nat) (k : Keg) : Nat := k.frozen + divHalfUp (k.pulses * gain) 1000

/-- The remaining stock of a line; a keg drawn beyond its nominal volume counts 0 (R24). -/
def remainingStock (l : Line) : Nat := (l.chain.map fun k => k.nominal - drawnVolume l.gain k).sum

/-- The stock level of a configured line (R24). -/
def stockLevelOf (l : Line) : StockLevel :=
  if remainingStock l < l.config.criticalThreshold then .critical
  else if remainingStock l < l.config.lowThreshold then .low
  else .normal

/-- A line is rationed while its level is CRITICAL and its ration flag is set (R24). -/
def rationed (l : Line) : Bool := l.stock = .critical && l.config.ration

/-- A line is servable (R16). -/
def servable (l : Line) : Bool :=
  (l.state = .serving || l.state = .priming) && l.holds = HoldSet.empty && !l.chain.isEmpty && !l.mark

/-- The reason the Line Manager gives for a line that is not servable (R16). -/
def notServableReason (l : Line) : Reason := if l.state = .dry || l.chain.isEmpty then .dry else .notReady

/-- The state calls for an open head valve: SERVING, PRIMING, or DRAINING from one of them (R4). -/
def headOpen (l : Line) : Bool :=
  match l.state with
  | .serving => true
  | .priming => true
  | .draining => l.preDrain = some .serving || l.preDrain = some .priming
  | _ => false

/-- The notice cause of a stock level (section 1.11). -/
def stockCause : StockLevel → NoticeCause
  | .normal => .stockNormal
  | .low => .stockLow
  | .critical => .stockCritical

/-- Recomputes the stock level of a configured line and posts a STOCK notice where it changes (R24). -/
def recomputeStock (n : Nat) (s : State) : State :=
  let l := s.line n
  if l.state = .offline || stockLevelOf l = l.stock then s
  else post (.stock n) (stockCause (stockLevelOf l)) (s.setLine n { l with stock := stockLevelOf l })

/-- Gives line `n` the hold set `h`; a change posts a LINE notice (R12). -/
def changeHolds (n : Nat) (h : HoldSet) (s : State) : State :=
  if h = (s.line n).holds then s
  else post (.line n) .lineHold (s.modLine n fun l => { l with holds := h })

/-- Moves line `n` to a service state; a change posts a LINE notice (section 1.11). -/
def moveLine (n : Nat) (st : ServiceState) (s : State) : State :=
  if (s.line n).state = st then s
  else post (.line n) .lineState (s.modLine n fun l => { l with state := st })

/-- Sets the foam count of line `n` to 0 and clears its alert; the clearing of a set alert posts a LINE notice (R25). -/
def clearFoam (n : Nat) (s : State) : State :=
  let l := s.line n
  let s1 := s.setLine n { l with foamCount := 0, foamAlert := false }
  if l.foamAlert then post (.line n) .lineFoam s1 else s1

/-! ### Figures of a tap (chapter 2) -/

/-- An entry of a map (section 2.3). -/
def mapEntry (m : Vector Route 128) (t : Nat) : Route := (m[t]?).getD Route.dark

/-- The map a selector names. -/
def PourBlock.map (p : PourBlock) : MapSel → Vector Route 128
  | .a => p.mapA
  | .b => p.mapB

/-- The other map. -/
def MapSel.other : MapSel → MapSel
  | .a => .b
  | .b => .a

/-- Tap `t`'s entry in the active map (section 2.3). -/
def State.activeEntry (s : State) (t : Nat) : Route := mapEntry (s.pour.map s.pour.active) t

/-- Local index `i` is below the tap count the node last reported (R32). -/
def covered (n : Node) (i : Nat) : Bool :=
  match n.tapCount with
  | some c => i < c
  | none => false

/-- A tap's presence, from its configured flag, its node's state and the reported tap count (R32). -/
def presence (s : State) (t : Nat) : Presence :=
  let n := s.node (nodeOfTap t)
  if (s.tap t).configured && covered n (localOfTap t) then
    match n.state with
    | .absent => .absent
    | .present => .present
    | .lost => .offline
  else .absent

/-- Some tap's route in use names line `n` (R10). -/
def isRouted (s : State) (n : Nat) : Bool := s.pour.taps.any fun t => t.route.line = some n

/-- Every tap routed to line `n` has lockout on as last reported (R6). -/
def tapsLocked (s : State) (n : Nat) : Bool := s.pour.taps.all fun t => t.route.line ≠ some n || t.lockout

/-- The drain condition of line `n` (R6). -/
def drainHolds (s : State) (n : Nat) : Bool := (s.line n).inFlight = 0 && tapsLocked s n

/-- The node of address `a` is configured: one of its four taps is (R75). -/
def nodeConfigured (s : State) (a : Nat) : Bool := (List.range 4).any fun i => (s.tap (tapOf a i)).configured

/-! ### Figures of a circuit (chapter 8) -/

/-- The step the circuit is at (section 8.5). -/
def currentStep (s : State) (c : Circuit) : Option Step :=
  match (s.circuit c).program, (s.circuit c).stepIndex with
  | some p, some i =>
    match s.programSlot p with
    | some g => g.steps[i - 1]?
    | none => none
  | _, _ => none

/-- The step kinds that have the pump on (R147). -/
def StepKind.pumps : StepKind → Bool
  | .purge => true
  | .rinse => true
  | .fill => true
  | .circulate => true
  | .verify => true
  | .soak => false
  | .pause => false

/-- The step kinds that draw water (R147). -/
def StepKind.drawsWater : StepKind → Bool
  | .purge => true
  | .rinse => true
  | .verify => true
  | .fill => false
  | .soak => false
  | .circulate => false
  | .pause => false

/-- The step kinds that run for a time (R160). -/
def StepKind.timed : StepKind → Bool
  | .soak => true
  | .circulate => true
  | .purge => false
  | .rinse => false
  | .fill => false
  | .verify => false
  | .pause => false

/-- The circuit runs its step: it is RUNNING or STOPPING (R147, R164). -/
def CircuitRec.runs (r : CircuitRec) : Bool := r.state = .running || r.state = .stopping

/-- The step of a circuit that runs one; none while it is IDLE or PAUSED. -/
def runningStep (s : State) (c : Circuit) : Option Step := if (s.circuit c).runs then currentStep s c else none

/-- The pump of circuit `c` is on (R147). -/
def pumpOn (s : State) (c : Circuit) : Bool :=
  match runningStep s c with
  | some st => st.kind.pumps
  | none => false

end Sys2Proof.Machine
end

