-- ==== Sys2Proof/Machine/CoolingOps.lean ====
section
/-! DEFINITION. The Cooling Controller: samples, demand, allocation, staging, the freeze guard, alarms and releases (chapter 7). -/

namespace Sys2Proof.Machine

open Sys2Proof

/-! ### Stages and capacity (R134, R136) -/

/-- Stage record `i` is configured with its fault input inactive (section 7.5). -/
def stageAvailable (s : State) (i : Nat) : Bool := i < s.cool.count && !((s.pins.stageFault[i]?).getD false)

/-- Number of stages running. -/
def Cooling.running (c : Cooling) : Nat := c.stages.toList.countP (·.running)

/-- Number of stages available. -/
def stagesAvailable (s : State) : Nat := (List.range 4).countP fun i => stageAvailable s i

/-- The capacity: stages running times S (R134). -/
def Cooling.capacityNow (c : Cooling) : Nat := c.running * c.points

/-- The sum of all trunk demands. -/
def Cooling.sumOfDemands (c : Cooling) : Nat := (c.trunks.toList.map (·.demand)).sum

/-- The total demand of one priority class, each trunk in the class that the last period took (R127, R134). -/
def classTotal (ts : List Trunk) (k : Nat) : Nat := ((ts.filter fun t => t.allocCls = k).map (·.demand)).sum

/-- What a class leaves of the remaining capacity (R134). -/
def leaveOf (remaining total : Nat) : Nat := if total ≤ remaining then remaining - total else 0

/-- The remaining capacity at which class `k` is served, classes in the order 1, 2, 3 (R134). -/
def remainingFor (ts : List Trunk) (capacity k : Nat) : Nat :=
  if k ≤ 1 then capacity
  else if k = 2 then leaveOf capacity (classTotal ts 1)
  else leaveOf (leaveOf capacity (classTotal ts 1)) (classTotal ts 2)

/-- The allocation of a trunk of demand `demand`, its class's total and the remaining capacity given (R134). -/
def shareOf (demand total remaining : Nat) : Nat := if total ≤ remaining then demand else demand * remaining / total

/-- The allocation of one trunk among all, capacity `capacity`, in the class that the last period took (R127, R134). -/
def allocationOf (ts : List Trunk) (capacity : Nat) (t : Trunk) : Nat :=
  if (ts.map (·.demand)).sum ≤ capacity then t.demand
  else shareOf t.demand (classTotal ts t.allocCls) (remainingFor ts capacity t.allocCls)

/-- Computes the allocation of every trunk from the demands of the last period (R134). -/
def allocate (s : State) : State :=
  { s with cool := { s.cool with
    trunks := s.cool.trunks.map fun t =>
      { t with allocation := allocationOf s.cool.trunks.toList s.cool.capacityNow t } } }

/-- Switches stage record `i`; its time in condition becomes 0 (R137). -/
def switchStage (i : Nat) (on : Bool) (s : State) : State := s.setStage i { running := on, time := 0 }

/-! ### Demand (R129 to R132) -/

/-- The states in which a line makes its trunk need cold (R129). -/
def ServiceState.wantsCold : ServiceState → Bool
  | .serving => true
  | .priming => true
  | .dry => true
  | .draining => true
  | .queued => true
  | .offline => false
  | .foul => false
  | .cleaning => false
  | .rinsed => false

/-- A trunk needs cold (R129). -/
def needsCold (s : State) (n : Nat) : Bool := s.cellar.lines.any fun l => l.config.trunk = n && l.state.wantsCold

/-- Some line of the trunk has its foam alert set (R131). -/
def foamOnTrunk (s : State) (n : Nat) : Bool := s.cellar.lines.any fun l => l.config.trunk = n && l.foamAlert

/-- The base part of a trunk's demand (R131). -/
def basePart (t : Trunk) : Nat := (t.reading - t.setpoint).toNat * t.kp / 10

/-- The surge part: the largest boost among the active entries (R131, R132). -/
def surgePart (s : State) : Nat := ((s.cool.surges.filter (·.active)).map (·.boost)).foldl max 0

/-- The demand of trunk `n` (R131). -/
def demandOf (s : State) (n : Nat) (t : Trunk) : Nat :=
  if !needsCold s n then 0
  else if t.sensorFault then 100
  else min 100 (basePart t + min 30 (5 * t.warm) + (if foamOnTrunk s n then 10 else 0) + surgePart s)

/-- A surge entry has ended at a clock reading (R132). -/
def Surge.ended (e : Surge) (clock : Nat) : Bool := e.start + e.duration ≤ clock

/-- A surge entry is active at a clock reading (R132). -/
def Surge.isActive (e : Surge) (clock : Nat) : Bool := e.start - e.lead ≤ clock && clock < e.start + e.duration

/-- Removes the ended surge entries and tests the others; while the clock is unset none is removed and none is active (R132). -/
def updateSurges (s : State) : State :=
  { s with cool := { s.cool with surges :=
    if s.store.unset then s.cool.surges.map fun e => { e with active := false }
    else (s.cool.surges.filter fun e => !e.ended s.store.clock).map fun e =>
      { e with active := e.isActive s.store.clock } } }

/-- Computes every trunk's demand and takes up its class, then resets every warm counter (R127, R130 steps 2 and 3). -/
def computeDemands (s : State) : State :=
  { s with cool := { s.cool with
    trunks := s.cool.trunks.mapIdx fun n t =>
      { t with demand := demandOf s n t, allocCls := t.cls, needed := needsCold s n, warm := 0 } } }

/-! ### Staging (R137) -/

/-- The stage target of a period (R137, R139, R140). -/
def stageTarget (s : State) : Nat :=
  let wanted := min (divUp s.cool.sumOfDemands s.cool.points) (stagesAvailable s)
  let limited := if s.cool.bathFault then min wanted Config.bathFaultStages else wanted
  if s.cool.freezeHold then 0 else limited

/-- The lowest-numbered available stage that is not running (R137). -/
def candidateOn (s : State) : Option Nat := (List.range 4).find? fun i => stageAvailable s i && !(s.stage i).running

/-- The highest-numbered running stage (R137). -/
def candidateOff (s : State) : Option Nat := ([3, 2, 1, 0] : List Nat).find? fun i => (s.stage i).running

/-- Records the capacity the allocation was computed from in this period (R143). -/
def recordCapacity (s : State) : State := { s with cool := { s.cool with capacity := s.cool.capacityNow } }

/-- Computes the allocation within a control period. -/
def allocateInPeriod (s : State) : State := allocate (recordCapacity s)

/-- Stores the stage target and makes at most one stage change (R137). -/
def stageStep (s : State) : State :=
  let target := stageTarget s
  let s1 := { s with cool := { s.cool with target := target } }
  if s.cool.running < target then
    match candidateOn s with
    | some i => if Config.stageOffSeconds ≤ (s.stage i).time then switchStage i true s1 else s1
    | none => s1
  else if target < s.cool.running then
    match candidateOff s with
    | some i => if Config.stageOnSeconds ≤ (s.stage i).time then allocateInPeriod (switchStage i false s1) else s1
    | none => s1
  else s1

/-- `n` seconds pass in the stages' times in condition (section 7.5). -/
def ageStages (n : Nat) (s : State) : State :=
  { s with cool := { s.cool with
    stages := s.cool.stages.map fun g => { g with time := satAdd Config.maxStageTime g.time n } } }

/-- The control period expires (R130). The seconds of the period that no sample has counted pass with it (assumption 9). -/
def controlPeriod (s : State) : State :=
  let s1 := ageStages (Config.controlSeconds - s.cool.controlTimer) s
  let s2 := { s1 with cool := { s1.cool with controlTimer := 0 } }
  stageStep (allocateInPeriod (computeDemands (updateSurges s2)))

/-! ### Duty windows (R135) -/

/-- A duty window starts: every trunk takes its valve duty as its duty in force and opens its valve for it (R135). -/
def dutyWindow (s : State) : State :=
  { s with cool := { s.cool with
    dutyTimer := 0
    trunks := s.cool.trunks.map fun t => { t with dutyInForce := t.allocation, valveOpen := t.allocation ≠ 0 } } }

/-- The duty in force of trunk `n` has passed in the window: its valve shuts; a duty of 100 keeps it open (R135). -/
def dutyExpiry (n : Nat) (s : State) : State :=
  if (s.trunk n).dutyInForce < 100 then s.modTrunk n fun t => { t with valveOpen := false } else s

/-! ### Samples (R128, R139 to R142) -/

/-- A return reading that is valid (R128). -/
def validReturn : Option Int → Option Int
  | some v => if v < -100 || 400 < v then none else some v
  | none => none

/-- A bath reading that is valid (R140). -/
def validBath : Option Int → Option Int
  | some v => if v < -200 || 200 < v then none else some v
  | none => none

/-- The trunk record after a valid sample `v` (R128, R141, R142). The alarm timer counts in ALARM too, as R141's text has it; the Trunk
conditions table of section 7.8 gives no count there. Taking the text is the model's DESIGN CHOICE (assumption 41). -/
def Trunk.sampled (t : Trunk) (v : Int) : Trunk :=
  let clears := t.alarm && v ≤ t.alarmThreshold - Config.alarmMargin
  { t with
    reading := v
    sensorFault := false
    alarm := if clears then false else t.alarm
    alarmTimer := if t.alarmThreshold < v then min Config.alarmSeconds (t.alarmTimer + 1) else 0
    releaseTimer := if v ≤ t.setpoint then min Config.releaseSeconds (t.releaseTimer + 1) else 0 }

/-- One sample of trunk `n`'s return sensor (R128, R141, R142). -/
def sampleTrunk (n : Nat) (reading : Option Int) (s : State) : State :=
  let t := s.trunk n
  match validReturn reading with
  | none =>
    let s1 := s.setTrunk n { t with sensorFault := true, alarmTimer := 0, releaseTimer := 0 }
    if t.sensorFault then s1 else post (.trunk n) .trunkSensorFault s1
  | some v =>
    let t1 := t.sampled v
    let s1 := s.setTrunk n t1
    let s2 := if t.sensorFault then post (.trunk n) .trunkSensorRestored s1 else s1
    if t.alarm && !t1.alarm then post (.trunk n) .trunkAlarmClear s2 else s2

/-- Switches every running stage off (R139). -/
def stopStages (s : State) : State :=
  { s with cool := { s.cool with
    stages := s.cool.stages.map fun g => if g.running then { running := false, time := 0 } else g } }

/-- The freeze guard acts on a valid bath sample (R139). -/
def freezeGuard (v : Int) (s : State) : State :=
  if s.cool.freezeHold then
    if Config.freezeClear ≤ v then post .chiller .freezeClear { s with cool := { s.cool with freezeHold := false } } else s
  else if v ≤ Config.freezeTrip then
    post .chiller .freeze (allocate (stopStages { s with cool := { s.cool with freezeHold := true } }))
  else s

/-- One sample of the bath sensor (R139, R140). A valid sample that ends a bath fault posts BATH RESTORED before the freeze guard acts,
so that a FREEZE or FREEZE CLEAR of the same sample replaces its cause: the model's DESIGN CHOICE (assumption 61). -/
def sampleBath (reading : Option Int) (s : State) : State :=
  match validBath reading with
  | none =>
    if s.cool.bathFault then s else post .chiller .bathFault { s with cool := { s.cool with bathFault := true } }
  | some v =>
    let s1 := { s with cool := { s.cool with bath := v, bathFault := false } }
    freezeGuard v (if s.cool.bathFault then post .chiller .bathRestored s1 else s1)

/-- The faults that were active at the start are reported at the first reading after it, and none of them later (R138, R145). -/
def firstFaultReading (s : State) : State :=
  let s1 := { s with cool := { s.cool with startFaults := Vector.replicate 4 false } }
  if s.cool.startFaults.any id then post .chiller .stageFault s1 else s1

/-- One second of the Cooling Controller's own timers; the control period counts at most its 10 s and the duty window its 60 s. -/
def coolingSecond (s : State) : State :=
  let s1 := if s.cool.controlTimer < Config.controlSeconds then ageStages 1 s else s
  { s1 with cool := { s1.cool with
    controlTimer := min Config.controlSeconds (s1.cool.controlTimer + 1)
    dutyTimer := min Config.dutySeconds (s1.cool.dutyTimer + 1) } }

/-- The once-per-second sample of the twelve return sensors and the bath sensor (R128, R140). That the trunks are read in ascending
number, and the bath after them, is the model's DESIGN CHOICE (assumption 46), and so is that a STAGE FAULT of R138 is posted before
the samples, so that a CHILLER notice of the bath's sample replaces its cause (assumption 23). -/
def sampleAll (returns : Vector (Option Int) 12) (bath : Option Int) (s : State) : State :=
  let s1 := firstFaultReading (coolingSecond s)
  let s2 := (List.range 12).foldl (fun s n => sampleTrunk n ((returns[n]?).getD none) s) s1
  sampleBath bath s2

/-! ### Alarms, releases and stage faults (R138, R141, R142) -/

/-- The alarm timer of trunk `n` stands at 300 s (R141). -/
def alarmExpiry (n : Nat) (s : State) : State :=
  let t := s.trunk n
  if t.alarmTimer = Config.alarmSeconds && !t.alarm then
    post (.trunk n) .trunkAlarm (s.setTrunk n { t with alarm := true })
  else s

/-- Releases TEMP on every line of trunk `n` that holds it (R14); the order of the lines, ascending, is the model's DESIGN CHOICE
(assumption 46). -/
def releaseTemp (n : Nat) (s : State) : State :=
  (List.range 48).foldl
    (fun s i => if (s.line i).config.trunk = n then changeHolds i { (s.line i).holds with temp := false } s else s) s

/-- The release timer of trunk `n` stands at 120 s: the report is made and the timer returns to 0 (R142). -/
def releaseExpiry (n : Nat) (s : State) : State :=
  if (s.trunk n).releaseTimer = Config.releaseSeconds then
    releaseTemp n (s.modTrunk n fun t => { t with releaseTimer := 0 })
  else s

/-- Sets the level of stage fault input `i`. -/
def setStagePin (i : Nat) (active : Bool) (s : State) : State :=
  { s with pins := { s.pins with stageFault := s.pins.stageFault.setIfInBounds i active } }

/-- Stage fault input `i` has become active (R138). -/
def stageFails (i : Nat) (s : State) : State :=
  if s.cool.count ≤ i then s
  else
    let s1 := if (s.stage i).running then allocate (switchStage i false s) else s
    post .chiller .stageFault s1

/-- Stage fault input `i` has become inactive; a fault of the start that ends before the first reading is not reported there (R138). -/
def stageReturns (i : Nat) (s : State) : State :=
  if s.cool.count ≤ i then s
  else
    post .chiller .stageRestored
      { s with cool := { s.cool with startFaults := s.cool.startFaults.setIfInBounds i false } }

end Sys2Proof.Machine
end

