-- ==== Sys2Proof/Machine/Journal.lean ====
section
/-! DEFINITION. The Accounting Unit's shared operations: taking a journal record, the per-tap and per-product totals, and the
watch table (chapters 5 and 6). -/

namespace Sys2Proof.Machine

open Sys2Proof

/-! ### The journal ring (R91 to R101) -/

/-- Records of kind POUR or PURGE (R93). -/
def RecordBody.isPourPurge : RecordBody → Bool
  | .pour _ => true
  | .purge _ _ _ _ => true
  | .keg _ _ _ _ _ _ _ _ => false
  | .clean _ _ _ _ _ _ _ _ _ => false
  | .cal _ _ _ _ _ _ _ => false
  | .watch _ _ _ _ _ => false

/-- Sequence number of the oldest held record; the next number when none is held (R91). -/
def Accounts.oldest (a : Accounts) : Nat := a.nextSeq - a.journal.length

/-- Sequence number of the newest held record; one below the next number when none is held (R91). -/
def Accounts.newest (a : Accounts) : Nat := a.nextSeq - 1

/-- The journal status (R98). -/
def Accounts.status (a : Accounts) : JournalStatus :=
  { held := a.journal.length, pourPurge := a.pourPurge, oldest := a.oldest, newest := a.newest, next := a.nextSeq,
    unstoredKeg := a.unstoredKeg, unstoredClean := a.unstoredClean, unstoredCal := a.unstoredCal,
    unstoredWatch := a.unstoredWatch }

/-- The store test (R93); no record is stored once no further sequence number exists (R92). -/
def Accounts.stores (a : Accounts) (b : RecordBody) : Bool :=
  a.journal.length < Config.journalPlaces && a.nextSeq ≤ Config.max32
    && (!b.isPourPurge || a.pourPurge < Config.pourPurgePlaces)

/-- The record as it is stored: the next sequence number and the present time (R92). -/
def State.recordOf (s : State) (b : RecordBody) : Record := { seq := s.acct.nextSeq, time := s.time, body := b }

/-- Posts HIGH where the held count has reached the high-water mark and it is not noted (R101). R101 leaves one pending notice with
cause FULL where a HIGH and a FULL are posted before it is sent, R181 lets the later cause replace the earlier; a HIGH that follows a
FULL, which takes a release between them, leaves HIGH here, the model's DESIGN CHOICE (assumption 54). -/
def noteHigh (s : State) : State :=
  if Config.highWater ≤ s.acct.journal.length && !s.acct.highNoted then
    post .journal .journalHigh { s with acct := { s.acct with highNoted := true } }
  else s

/-- Posts FULL where a record is not stored and it is not noted (R101). -/
def noteFull (s : State) : State :=
  if s.acct.fullNoted then s else post .journal .journalFull { s with acct := { s.acct with fullNoted := true } }

/-- Stores a record at the newest end (R91 to R93). -/
def storeRecord (b : RecordBody) (s : State) : State :=
  noteHigh { s with acct := { s.acct with
    journal := s.acct.journal ++ [s.recordOf b]
    nextSeq := s.acct.nextSeq + 1
    pourPurge := if b.isPourPurge then s.acct.pourPurge + 1 else s.acct.pourPurge } }

/-- Counts a record that is not stored by its kind; a POUR and a PURGE are counted by their own blocks (R99, R100). -/
def Accounts.countUnstored (a : Accounts) : RecordBody → Accounts
  | .pour _ => a
  | .purge _ _ _ _ => a
  | .keg _ _ _ _ _ _ _ _ => { a with unstoredKeg := satAdd Config.max32 a.unstoredKeg 1 }
  | .clean _ _ _ _ _ _ _ _ _ => { a with unstoredClean := satAdd Config.max32 a.unstoredClean 1 }
  | .cal _ _ _ _ _ _ _ => { a with unstoredCal := satAdd Config.max32 a.unstoredCal 1 }
  | .watch _ _ _ _ _ => { a with unstoredWatch := satAdd Config.max32 a.unstoredWatch 1 }

/-- Takes a record: stores it, or counts it and notes the full journal (R93, R99 to R101). -/
def takeRecord (b : RecordBody) (s : State) : State :=
  if s.acct.stores b then storeRecord b s else noteFull { s with acct := s.acct.countUnstored b }

/-- The sequence number a record takes, absent where it is not stored (R92, R96). -/
def Accounts.seqIfStored (a : Accounts) (b : RecordBody) : Option Nat := if a.stores b then some a.nextSeq else none

/-! ### Totals (R102 to R104) -/

/-- A tally with one more of volume `v`, saturating (R104). -/
def Tally.plus (t : Tally) (v : Nat) : Tally :=
  { count := satAdd Config.max32 t.count 1, volume := satAdd Config.max48 t.volume v }

/-- Adds a POUR record to its class's total of the tap (R102). -/
def Tap.addClass (t : Tap) (c : PourClass) (v : Nat) : Tap :=
  match c with
  | .portion => { t with portion := t.portion.plus v }
  | .free => { t with free := t.free.plus v }
  | .prime => { t with prime := t.prime.plus v }

/-- The histogram bucket that contains a volume (R103). -/
def bucketOf (v : Nat) : Nat := if v < 6000 then v / 1000 else if v < 8000 then 6 else 7

/-- Adds a sale of volume `v` to a product entry (R103). -/
def Product.sell (p : Product) (v : Nat) : Product :=
  { p with
    sales := p.sales.plus v
    histogram := p.histogram.setIfInBounds (bucketOf v) (satAdd Config.max32 ((p.histogram[bucketOf v]?).getD 0) 1) }

/-- Adds a PORTION or FREE pour to the entry that holds its product code, if one does (R103). -/
def sellProduct (r : PourRecord) (s : State) : State :=
  if r.cls = .prime then s
  else { s with cellar := { s.cellar with
    products := s.cellar.products.map fun p => if p.code = r.product then p.sell r.volume else p } }

/-- Adds a POUR record to the totals (R102, R103). -/
def addTotals (r : PourRecord) (s : State) : State :=
  sellProduct r (s.modTap r.tap fun t => t.addClass r.cls r.volume)

/-- Folds a POUR record into the tap's unjournalled accumulator (R99). -/
def foldPour (r : PourRecord) (s : State) : State :=
  s.modTap r.tap fun t => { t with unjournalled := t.unjournalled.plus r.volume }

/-! ### The watch table (R114 to R118) -/

/-- The target of a watch matches a POUR record (R114). -/
def targetMatches (s : State) (r : PourRecord) : WatchTarget → Bool
  | .tap n => r.tap = n
  | .line n => r.line = n
  | .bar n => (s.tap r.tap).bar = n
  | .all => true

/-- The condition of a watch matches a POUR record (R114). -/
def conditionMatches (r : PourRecord) (threshold : Nat) : WatchCondition → Bool
  | .anyPour => true
  | .volumeOver => r.volume > threshold
  | .warm => r.flags.warm
  | .foamy => r.flags.foamy
  | .shortOrOver => r.flags.short || r.flags.overTarget

/-- Adds or removes the WATCH cause of a line (R15). -/
def setWatchHold (n : Nat) (on : Bool) (s : State) : State := changeHolds n { (s.line n).holds with watch := on } s

/-- A bar mask with the one member `n`. -/
def barBit (n : Nat) : BitVec 16 := BitVec.ofNat 16 (2 ^ n)

/-- Applies the HOLD action of a tripping entry to its target (R116). The order of the lines under ALL, ascending, is the model's
DESIGN CHOICE (assumption 46). -/
def applyHold (target : WatchTarget) (s : State) : State :=
  match target with
  | .tap n => s.modTap n fun t => { t with watchBarred := true }
  | .line n => setWatchHold n true s
  | .bar n => { s with pour := { s.pour with barOpen := s.pour.barOpen &&& ~~~ barBit n } }
  | .all => (List.range 48).foldl (fun s n => setWatchHold n true s) s

/-- Some entry is TRIPPED with action HOLD and target `target` (R118). -/
def holdStands (s : State) (target : WatchTarget) : Bool :=
  s.acct.watches.any fun e => e.state = .tripped && e.action = .hold && e.target = target

/-- Releases WATCH on each line that no TRIPPED HOLD entry targets by its number or as ALL (R15, R118); the order of the lines,
ascending, is the model's DESIGN CHOICE (assumption 46). -/
def releaseLines (s : State) : State :=
  (List.range 48).foldl
    (fun s n => if holdStands s (.line n) || holdStands s .all then s else setWatchHold n false s) s

/-- Withdraws the effect of a tripped HOLD entry that is no longer TRIPPED; a closed bar stays closed (R118). -/
def withdrawHold (target : WatchTarget) (s : State) : State :=
  match target with
  | .tap n => if holdStands s (.tap n) then s else s.modTap n fun t => { t with watchBarred := false }
  | .line _ => releaseLines s
  | .bar _ => s
  | .all => releaseLines s

/-- Gives entry `w` the value `e`, first withdrawing the effects of a TRIPPED HOLD entry (R113, R118). -/
def replaceWatch (w : Nat) (e : Watch) (s : State) : State :=
  let old := s.watch w
  let s1 := s.setWatch w { old with state := .off }
  let s2 := if old.state = .tripped && old.action = .hold then withdrawHold old.target s1 else s1
  s2.setWatch w e

/-- Entry `w` trips on a POUR record whose sequence number is `seq` (R115). The WATCH record carries the entry's threshold whatever its
condition, the model's DESIGN CHOICE (R96, R193, assumption 60). -/
def tripWatch (w : Nat) (seq : Option Nat) (s : State) : State :=
  let e := s.watch w
  let s1 := s.setWatch w { e with state := .tripped, count := 1 }
  let s2 := takeRecord (.watch w e.target e.condition e.threshold seq) s1
  let s3 := post (.watch w) .watchTripped s2
  if e.action = .hold then applyHold e.target s3 else s3

/-- Evaluates entry `w` against a POUR record (R114). -/
def visitWatch (r : PourRecord) (seq : Option Nat) (w : Nat) (s : State) : State :=
  let e := s.watch w
  if targetMatches s r e.target && conditionMatches r e.threshold e.condition then
    match e.state with
    | .off => s
    | .armed => tripWatch w seq s
    | .tripped => s.setWatch w { e with count := satAdd Config.max32 e.count 1 }
  else s

/-- Evaluates the watch table, entries 0 to 7 in order (R114). -/
def evaluateWatches (r : PourRecord) (seq : Option Nat) (s : State) : State :=
  (List.range 8).foldl (fun s w => visitWatch r seq w s) s

/-- Takes a POUR record: stored or folded, then the totals, then the watches (R99, R102, R103, R114). -/
def takePour (r : PourRecord) (s : State) : State :=
  let seq := s.acct.seqIfStored (.pour r)
  let s1 := takeRecord (.pour r) s
  let s2 := if seq.isSome then s1 else foldPour r s1
  evaluateWatches r seq (addTotals r s2)

/-- Takes a PURGE record of circuit `c`; one that is not stored adds 1 to the circuit's unstored-purge count (R99, R162). -/
def takePurge (c : Circuit) (line program volume : Nat) (s : State) : State :=
  let b := RecordBody.purge line c program volume
  let s1 := takeRecord b s
  if s.acct.stores b then s1
  else s1.modCircuit c fun r => { r with unstoredPurge := satAdd Config.max32 r.unstoredPurge 1 }

end Sys2Proof.Machine
end

