-- ==== Sys2Proof/Machine/Link.lean ====
section
/-! DEFINITION. The Host Link Interface: the state a notice carries, the transmitter, the request slot with its replies, and the
receiver (chapter 9). -/

namespace Sys2Proof.Machine

open Sys2Proof

/-! ### Request kinds (section 11.2) -/

/-- The kind code of a request (section 11.2). -/
def kindCode : RequestKind → Byte
  | .status => 0x01#8
  | .noticePace => 0x02#8
  | .timeSet => 0x03#8
  | .timeGet => 0x04#8
  | .restart => 0x05#8
  | .factoryClear => 0x06#8
  | .productSet => 0x10#8
  | .lineSet => 0x11#8
  | .lineGet => 0x12#8
  | .lineClear => 0x13#8
  | .lineHold => 0x14#8
  | .kegAdd => 0x15#8
  | .kegRemove => 0x16#8
  | .kegSwitch => 0x17#8
  | .kegList => 0x18#8
  | .tapSet => 0x20#8
  | .tapGet => 0x21#8
  | .sizeSet => 0x22#8
  | .freeLimits => 0x23#8
  | .routeWrite => 0x24#8
  | .routeRead => 0x25#8
  | .routeSwap => 0x26#8
  | .routeCheck => 0x27#8
  | .barState => 0x28#8
  | .trunkSet => 0x30#8
  | .chillerSet => 0x31#8
  | .surgeAdd => 0x32#8
  | .surgeRemove => 0x33#8
  | .coolingGet => 0x34#8
  | .programLoad => 0x40#8
  | .programRead => 0x41#8
  | .cleanRequest => 0x42#8
  | .cleanWithdraw => 0x43#8
  | .cleanStop => 0x44#8
  | .cleanContinue => 0x45#8
  | .cleanAbort => 0x46#8
  | .circuitGet => 0x47#8
  | .returnToService => 0x48#8
  | .journalRead => 0x50#8
  | .journalRelease => 0x51#8
  | .totalsRead => 0x52#8
  | .histogramRead => 0x53#8
  | .totalsClear => 0x54#8
  | .reconcile => 0x55#8
  | .watchSet => 0x56#8
  | .watchClear => 0x57#8
  | .watchGet => 0x58#8
  | .calOpen => 0x59#8
  | .calWrite => 0x5A#8
  | .calRead => 0x5B#8

/-! ### What a notice carries (R182, R184) -/

/-- What a LINE notice carries (R184). -/
def lineNoticeState (l : Line) : NoticeState :=
  .line l.state (if l.state = .draining || l.state = .queued then l.preDrain else none) l.holds l.mark l.foamAlert l.inFlight
    (if l.state = .priming then some l.primeProgress else none) l.softAgeNoted l.softVolumeNoted

/-- What a KEG notice carries: the head keg, or id 0 and zeros (R184). -/
def kegNoticeState (l : Line) : NoticeState :=
  match l.chain with
  | [] => .keg 0 0 0 0 0
  | k :: _ => .keg l.chain.length k.id k.coupler (drawnVolume l.gain k) k.poured

/-- What a CIRCUIT notice carries (R170). -/
def circuitNoticeState (r : CircuitRec) : NoticeState :=
  .circuit r.state r.batch r.program r.stepIndex r.stepsDone r.pauseCause r.water r.solution r.lastEnd

/-- The stages running as a CHILLER notice carries them: the set of stages, stage 1 first. That R144 means a set and not a number is
the model's DESIGN CHOICE (assumption 44). -/
def stagesRunningOf (s : State) : Vector Bool 4 := s.cool.stages.map (·.running)

/-- The stages available, as a set in the same way (R144, assumption 44). -/
def stagesAvailableOf (s : State) : Vector Bool 4 := Vector.ofFn fun i => stageAvailable s i.val

/-- The subject's state a notice carries, read at sending (R182). A CHILLER notice carries the stages running and available as two
sets, the model's DESIGN CHOICE (R144, assumption 44). -/
def noticeState (s : State) (n : Notice) : NoticeState :=
  match n.key with
  | .line i => lineNoticeState (s.line i)
  | .keg i => kegNoticeState (s.line i)
  | .stock i => .stock (s.line i).stock (remainingStock (s.line i)) (rationed (s.line i))
  | .node a => .node (s.node a).state (s.node a).tapCount (s.node a).misses (s.node a).items.length
  | .circuit c => circuitNoticeState (s.circuit c)
  | .trunk i =>
    .trunk (s.trunk i).reading (s.trunk i).sensorFault (s.trunk i).demand (s.trunk i).allocation (s.trunk i).dutyInForce
      (s.trunk i).alarm
  | .chiller => .chiller (stagesRunningOf s) (stagesAvailableOf s) s.cool.bath s.cool.bathFault s.cool.freezeHold
  | .journal => .journal s.acct.status
  | .watch w => .watch (s.watch w).state (s.watch w).target (s.watch w).condition (s.watch w).action (s.watch w).count
  | .system => .system s.store.lastStart s.store.clock s.store.unset

/-! ### The transmitter (R177, R182, R183) -/

/-- Replaces the Host Link Interface's records. -/
def State.setLink (l : Link) (s : State) : State := { s with link := l }

/-- The oldest notice begins where the pace allows it: it leaves the list and its start is counted (R182, R183). -/
def sendNotice (s : State) : State :=
  match s.link.notices with
  | [] => s
  | n :: rest =>
    if s.link.starts < s.link.pace then
      s.setLink { s.link with
        notices := rest
        starts := s.link.starts + 1
        tx := .notice { notice := n, state := noticeState s n } }
    else s

/-- A free transmitter chooses the next frame: the slot's reply, a BUSY reply, the oldest notice (R177). -/
def transmit (s : State) : State :=
  if s.link.tx = .idle then
    if s.link.slot.isSome then s.setLink { s.link with tx := .reply }
    else if s.link.busy.isSome then s.setLink { s.link with tx := .busyReply }
    else sendNotice s
  else s

/-- An event of the part other than a request: taken only while the part takes events (R187, R190), after which a free
transmitter looks for a notice to send (R177). -/
def event (f : State → State) (s : State) : State := if s.takesEvents then transmit (f s) else s

/-! ### Requests and replies (R174 to R176) -/

/-- How an owner decided a request: the state after it, the reply's status and body, and the start it calls for. -/
structure Decision where
  state : State
  status : Status
  body : ReplyBody
  start : Option StartCause

/-- The request was accepted and carried out; the reply carries `body` (R175). -/
def acceptWith (body : ReplyBody) (s : State) : Decision := { state := s, status := .ok, body := body, start := none }

/-- The request was accepted; the owning rule names no field of the reply (R175). -/
def accept (s : State) : Decision := acceptWith .none s

/-- The request was refused: nothing changes, and the reply carries the contents its rule names beside the status (R175). -/
def refuseWith (status : Status) (body : ReplyBody) (s : State) : Decision :=
  { state := s, status := status, body := body, start := none }

/-- The request was refused and its rule names no further contents: the reply carries the status alone (R175). -/
def refuse (status : Status) (s : State) : Decision := refuseWith status .none s

/-- Counts a further request of the calibration window where it was open when the request came and the answer is not BUSY; the
fourth closes it (R122). -/
def countFurther (wasOpen : Bool) (status : Status) (s : State) : State :=
  if wasOpen && s.acct.window.isOpen && status ≠ .busy then
    let left := s.acct.window.remaining - 1
    { s with acct := { s.acct with
      window := if left = 0 then closedWindow else { s.acct.window with remaining := left } } }
  else s

/-- The frame of a request takes the slot: its owner decides it and the reply is formed (R174, R175). -/
def answer (kind tag : Byte) (f : State → Decision) (s : State) : State :=
  let d := f s
  let s1 := countFurther s.acct.window.isOpen d.status d.state
  s1.setLink { s1.link with
    slot := some { kind := kind, tag := tag, status := d.status, body := d.body, start := d.start } }

/-- A discarded frame is counted (R173). -/
def countDiscarded (s : State) : State :=
  s.setLink { s.link with discarded := satAdd Config.max32 s.link.discarded 1 }

/-- The receiver returns to hunting (R173). -/
def huntAgain (s : State) : State := s.setLink { s.link with receiver := .hunting }

/-- A frame is discarded: it is counted and the receiver hunts again (R173). -/
def discardFrame (s : State) : State := countDiscarded (huntAgain s)

/-- A pause or a byte with a framing error breaks the frame in progress; while hunting either is ignored (R173). -/
def breakFrame (s : State) : State := if s.link.receiver = .hunting then s else discardFrame s

/-- A frame that finds the slot held takes the BUSY reply place, or is discarded where that is occupied (R174). -/
def answerBusy (kind tag : Byte) (s : State) : State :=
  if s.link.busy.isSome then countDiscarded s else s.setLink { s.link with busy := some { kind := kind, tag := tag } }

/-- A received frame (R174). -/
def receiveFrame (kind tag : Byte) (f : State → Decision) (s : State) : State :=
  if s.link.slot.isSome then answerBusy kind tag (huntAgain s) else answer kind tag f (huntAgain s)

/-- A received frame of a request kind whose body matches it (R174, R175, R177). -/
def request (kind : RequestKind) (tag : Byte) (f : State → Decision) (s : State) : State :=
  event (receiveFrame (kindCode kind) tag f) s

/-! ### The calibration window (R121, R122) -/

/-- The window as it is reported: open flag, requests remaining, seconds left before the 30 s limit (R121, R126). The manual gives
a closed window no seconds left; 0 is the model's DESIGN CHOICE (assumption 38). -/
def windowView (s : State) : WindowView :=
  { isOpen := s.acct.window.isOpen, remaining := s.acct.window.remaining,
    secondsLeft := if s.acct.window.isOpen then Config.windowSeconds - s.acct.window.openTime else 0 }

/-- Closes the window (R122). -/
def closeWindow (s : State) : State := { s with acct := { s.acct with window := closedWindow } }

end Sys2Proof.Machine
end

