-- ==== Sys2Proof/Machine/AccountEvents.lean ====
section
/-! DEFINITION. The events of the Accounting Unit: the calibration switch and the window's time limit (R122). -/

namespace Sys2Proof.Machine

open Sys2Proof

/-- The level of the calibration switch, which changes whether or not the part takes events. -/
def setCalSwitch (on : Bool) (s : State) : State := { s with pins := { s.pins with calSwitch := on } }

/-- CAL_SWITCH_OFF: turning off closes the window at once; turning on again does not reopen it (R122). -/
def execCalSwitchOff (off : Bool) (s : State) : Result :=
  .next (event (fun s => if off then closeWindow s else s) (setCalSwitch (!off) s))

/-- CAL_WINDOW_TIMEOUT: 30 s have passed since the window opened (R122). -/
def execCalWindowTimeout (s : State) : Result := .next (event closeWindow s)

end Sys2Proof.Machine
end

