-- ==== Sys2Proof/Machine/Circuits.lean ====
section
/-! DEFINITION. The Cleaning Sequencer's shared operations: taking a batch, starting and completing a step, ending a batch
(chapter 8), and what the Line Manager and the Pour Engine do on its orders (R8, R11, R41). -/

namespace Sys2Proof.Machine

open Sys2Proof

/-! ### What the end of a batch does to lines and taps -/

/-- Resolves the withheld route of tap `t` by copying its active entry (R41). -/
def takeActiveRoute (t : Nat) (s : State) : State :=
  s.modTap t fun r => { r with route := s.activeEntry t, withheld := false }

/-- Line `n` has left CLEANING: every tap withheld from it resolves its route (R41). The tap's route was DARK and the line is
no longer in the clean queue's states, so no line's drain condition changes, and the order of the taps shows nowhere. -/
def resolveWithheld (n : Nat) (s : State) : State :=
  (List.range 128).foldl
    (fun s t => if (s.tap t).withheld && (s.activeEntry t).line = some n then takeActiveRoute t s else s) s

/-- A clean of line `n` has ended COMPLETED (R8). -/
def recordClean (n : Nat) (s : State) : State :=
  let s1 := s.modLine n fun l =>
    { l with lastClean := s.time, volumeSinceClean := 0, softAgeNoted := false, softVolumeNoted := false }
  changeHolds n { (s1.line n).holds with overdue := false } s1

/-- Takes line `n` out of CLEANING: RINSED or FOUL by its mark, and after COMPLETED the clean is recorded (R8). -/
def leaveCleaning (n : Nat) (completed : Bool) (s : State) : State :=
  let s1 := moveLine n (if (s.line n).mark then .foul else .rinsed) s
  resolveWithheld n (if completed then recordClean n s1 else s1)

/-- The notice cause of a batch's end (R170). -/
def endCauseOf : BatchEnd → NoticeCause
  | .completed => .circuitCompleted
  | .aborted => .circuitAborted
  | .fault _ => .circuitFault

/-- Steps of a program slot, 0 for an empty one. -/
def stepsIn (s : State) (p : Nat) : Nat :=
  match s.programSlot p with
  | some g => g.steps.length
  | none => 0

/-- Posts the CLEAN record of one line of the batch and takes the line out of CLEANING (R169 step 2). -/
def endLine (c : Circuit) (ending : BatchEnd) (n : Nat) (s : State) : State :=
  let r := s.circuit c
  let p := r.program.getD 0
  leaveCleaning n (ending = .completed)
    (takeRecord (.clean n c p r.stepsDone (stepsIn s p) ending (s.line n).mark r.water r.solution) s)

/-- Ends the batch of circuit `c`, without the taking that follows (R169 steps 1 to 3). -/
def endBatch (c : Circuit) (ending : BatchEnd) (s : State) : State :=
  let s1 := (s.circuit c).batch.foldl (fun s n => endLine c ending n s) s
  post (.circuit c) (endCauseOf ending)
    (s1.modCircuit c fun r =>
      { r with state := .idle, batch := [], program := none, pauseCause := none, lastEnd := some ending })

/-! ### Starting a step (R148, R158) -/

/-- The target of a step for a batch of `size` lines (R148). R148 gives a VERIFY a settle target and a limit, and section 8.5 one
step target; that it is the settle target is the model's DESIGN CHOICE, and so is the target 0 of a PAUSE, which R148 gives none (R157,
R158, assumption 56). -/
def stepTarget (st : Step) (size : Nat) : Nat :=
  match st.kind with
  | .purge => st.amount * size
  | .rinse => st.amount * size
  | .fill => st.amount * size
  | .verify => st.amount * size
  | .soak => st.amount
  | .circulate => st.amount
  | .pause => 0

/-- Every tap whose route in use names a line of the batch has lockout on (R158). -/
def batchLocked (s : State) (c : Circuit) : Bool := (s.circuit c).batch.all fun n => tapsLocked s n

/-- The fault that keeps a step from beginning; the lockout check is made before the supply check (R158). -/
def admissionFault (s : State) (c : Circuit) (k : StepKind) : Option FaultKind :=
  if k = .fill && !batchLocked s c then some .lockout
  else if k = .fill && s.pins.solutionLow.sel c then some .supply
  else if k.drawsWater && s.pins.waterLow.sel c then some .supply
  else none

/-- Sets the figures of a beginning step (R158). -/
def CircuitRec.atStep (r : CircuitRec) (st : Step) : CircuitRec :=
  { r with target := stepTarget st r.batch.length, progress := 0, pulses := 0, settle := 0, settling := false, flowTimer := 0 }

/-- Sets or clears the solution mark of every line of the batch (R11). -/
def markBatch (c : Circuit) (on : Bool) (s : State) : State :=
  (s.circuit c).batch.foldl (fun s n => s.modLine n fun l => { l with mark := on }) s

/-- Moves the circuit to PAUSED (R163). -/
def pauseCircuit (c : Circuit) (why : PauseCause) (s : State) : State :=
  post (.circuit c) .circuitPaused (s.modCircuit c fun r => { r with state := .paused, pauseCause := some why })

/-- Begins the step the step index is on; the second part is the fault of a step that is not admitted (R158). -/
def beginStep (c : Circuit) (s : State) : State × Option FaultKind :=
  match currentStep s c with
  | none => (s, none)
  | some st =>
    let s1 := s.modCircuit c fun r => r.atStep st
    match admissionFault s1 c st.kind with
    | some f => (s1, some f)
    | none =>
      match st.kind with
      | .fill => (markBatch c true s1, none)
      | .pause => (pauseCircuit c .pauseStep s1, none)
      | .purge => (s1, none)
      | .rinse => (s1, none)
      | .soak => (s1, none)
      | .circulate => (s1, none)
      | .verify => (s1, none)

/-! ### Taking a batch (R155, R156) -/

/-- The queue's oldest ready entry (R155). -/
def oldestReady (q : List QueueEntry) : Option QueueEntry := q.find? (·.ready)

/-- The entries a circuit takes: the ready ones of the program, oldest first, at most four (R155). -/
def takenEntries (q : List QueueEntry) (program : Nat) : List QueueEntry :=
  (q.filter fun e => e.ready && e.program = program).take Config.batchPlaces

/-- An IDLE circuit takes a batch, up to the beginning of its first step (R155). -/
def takeBatch (c : Circuit) (s : State) : Option State :=
  if (s.circuit c).state ≠ .idle then none
  else
    match oldestReady s.clean.queue with
    | none => none
    | some e =>
      let batch := (takenEntries s.clean.queue e.program).map (·.line)
      let s1 := { s with clean := { s.clean with queue := s.clean.queue.filter fun x => !batch.contains x.line } }
      let s2 := batch.foldl (fun s n => moveLine n .cleaning s) s1
      some (post (.circuit c) .circuitStarted (s2.modCircuit c fun r =>
        { r with state := .running, batch := batch, program := some e.program, stepIndex := some 1, water := 0, solution := 0,
                 stepsDone := 0 }))

/-- An IDLE circuit takes a batch and begins its first step; where that step is not admitted the batch ends and the circuit
takes again (R155, R156, R158, R169). Each taking removes an entry, so the queue's length bounds the takings. -/
def serveQueue : Nat → Circuit → State → State
  | 0, _, s => s
  | fuel + 1, c, s =>
    match takeBatch c s with
    | none => s
    | some s1 =>
      match beginStep c s1 with
      | (s2, none) => s2
      | (s2, some f) => serveQueue fuel c (endBatch c (.fault f) s2)

/-- The circuit takes a batch if it is IDLE (R156). -/
def serve (c : Circuit) (s : State) : State := serveQueue (s.clean.queue.length + 1) c s

/-- Ends the batch of circuit `c`, and the IDLE circuit takes the next (R169). -/
def finishBatch (c : Circuit) (ending : BatchEnd) (s : State) : State := serve c (endBatch c ending s)

/-- Begins the step the step index is on; a step that is not admitted ends the batch (R158). -/
def startStep (c : Circuit) (s : State) : State :=
  match beginStep c s with
  | (s1, none) => s1
  | (s1, some f) => finishBatch c (.fault f) s1

/-! ### Completing a step (R162) -/

/-- Posts one PURGE record for each line of the batch (R162 step 1). -/
def postPurges (c : Circuit) (s : State) : State :=
  (s.circuit c).batch.foldl
    (fun s n => takePurge c n ((s.circuit c).program.getD 0) (s.line n).config.fillVolume s) s

/-- Advances the step index and begins the next step (R162, R165). -/
def nextStep (c : Circuit) (s : State) : State :=
  startStep c (s.modCircuit c fun r => { r with stepIndex := r.stepIndex.map (· + 1) })

/-- The step index is on the program's last step. -/
def atLastStep (s : State) (c : Circuit) : Bool :=
  match (s.circuit c).program, (s.circuit c).stepIndex with
  | some p, some i => stepsIn s p ≤ i
  | _, _ => true

/-- Completes the step `st` of circuit `c` (R162). -/
def completeStep (c : Circuit) (st : Step) (s : State) : State :=
  let s1 := s.modCircuit c fun r => { r with stepsDone := r.stepsDone + 1 }
  let s2 := if st.kind = .purge then postPurges c s1 else s1
  let s3 := if st.notify then post (.circuit c) .circuitStep s2 else s2
  if atLastStep s3 c then finishBatch c .completed s3
  else if (s3.circuit c).state = .stopping then pauseCircuit c .stop s3
  else nextStep c s3

/-! ### Pulses, readings and faults (R159 to R168) -/

/-- Adds the increase `d` of a volume step to the batch's water or solution volume (R159). -/
def CircuitRec.draw (r : CircuitRec) (k : StepKind) (d : Nat) : CircuitRec :=
  if k = .fill then { r with solution := r.solution + d } else { r with water := r.water + d }

/-- The circuit record after one counted pulse of a volume step (R159, R161). -/
def CircuitRec.countPulse (r : CircuitRec) (k : StepKind) : CircuitRec :=
  let v := pulseVolume r.gain r.offset (r.pulses + 1)
  let d := v - r.progress
  { r.draw k d with
    pulses := r.pulses + 1, progress := v, flowTimer := 0,
    settle := if k = .verify && r.settling then r.settle + d else r.settle }

/-- What a counted pulse decides for a VERIFY step: pass, then limit (R161). -/
def decideVerify (c : Circuit) (st : Step) (s : State) : State :=
  let r := s.circuit c
  if r.target ≤ r.settle then completeStep c st (markBatch c false s)
  else if st.limit * r.batch.length < r.progress then finishBatch c (.fault .rinse) s
  else s

/-- A pulse of circuit `c`'s meter (R147, R159, R161, R167). -/
def circuitPulse (c : Circuit) (s : State) : State :=
  match runningStep s c with
  | none => s
  | some st =>
    match st.kind with
    | .soak => s
    | .pause => s
    | .circulate => s.modCircuit c fun r => { r with flowTimer := 0 }
    | .verify => decideVerify c st (s.modCircuit c fun r => r.countPulse .verify)
    | .purge =>
      let s1 := s.modCircuit c fun r => r.countPulse .purge
      if (s1.circuit c).target ≤ (s1.circuit c).progress then completeStep c st s1 else s1
    | .rinse =>
      let s1 := s.modCircuit c fun r => r.countPulse .rinse
      if (s1.circuit c).target ≤ (s1.circuit c).progress then completeStep c st s1 else s1
    | .fill =>
      let s1 := s.modCircuit c fun r => r.countPulse .fill
      if (s1.circuit c).target ≤ (s1.circuit c).progress then completeStep c st s1 else s1

/-- The rinse threshold of the program the circuit runs. -/
def rinseThreshold (s : State) (c : Circuit) : Nat :=
  match (s.circuit c).program with
  | some p =>
    match s.programSlot p with
    | some g => g.threshold
    | none => 0
  | none => 0

/-- One second of the circuit's own timers: the flow timer while the pump is on, the progress of a timed step (R160, R167). The
expiry commands complete the seconds not counted here (assumption 9). -/
def CircuitRec.second (r : CircuitRec) (k : StepKind) : CircuitRec :=
  { r with
    flowTimer := if k.pumps then min Config.flowSeconds (r.flowTimer + 1) else r.flowTimer
    progress := if k.timed then min r.target (r.progress + 1) else r.progress }

/-- A reading of circuit `c`'s conductivity sensor, or its absence, at its second (R147, R161, R167). -/
def conductivity (c : Circuit) (reading : Option Int) (s : State) : State :=
  if !(s.circuit c).runs then s
  else
    match reading with
    | none => finishBatch c (.fault .sensor) s
    | some v =>
      let s1 := s.modCircuit c fun r => { r with conductivity := v }
      if v < 0 || Config.maxConductivity < v then finishBatch c (.fault .sensor) s1
      else
        match currentStep s1 c with
        | none => s1
        | some st =>
          let s2 := s1.modCircuit c fun r => r.second st.kind
          if st.kind = .verify then
            if (rinseThreshold s2 c : Int) ≤ v then s2.modCircuit c fun r => { r with settle := 0, settling := false }
            else s2.modCircuit c fun r => { r with settling := true }
          else s2

/-- The flow timer of circuit `c` reaches 10 s (R167). -/
def flowExpiry (c : Circuit) (s : State) : State :=
  if pumpOn s c then
    finishBatch c (.fault .flow) (s.modCircuit c fun r => { r with flowTimer := Config.flowSeconds })
  else s

/-- A timed step of circuit `c` reaches its time (R160). -/
def timedExpiry (c : Circuit) (s : State) : State :=
  match runningStep s c with
  | none => s
  | some st => if st.kind.timed then completeStep c st (s.modCircuit c fun r => { r with progress := r.target }) else s

/-- The step of circuit `c` draws from the supply `u` (R167). -/
def drawsFrom (s : State) (c : Circuit) (u : Supply) : Bool :=
  match runningStep s c, u with
  | some st, .water => st.kind.drawsWater
  | some st, .solution => st.kind = .fill
  | none, _ => false

/-- A supply-low input of circuit `c` has become active (R167). -/
def supplyFault (c : Circuit) (u : Supply) (s : State) : State :=
  if drawsFrom s c u then finishBatch c (.fault .supply) s else s

/-- Line `n` is in the batch of circuit `c` while it is RUNNING, STOPPING or PAUSED (R168). -/
def inBatch (s : State) (c : Circuit) (n : Nat) : Bool := (s.circuit c).state ≠ .idle && (s.circuit c).batch.contains n

/-- A tap routed to line `n` has reported lockout off: a batch that holds the line ends LOCKOUT (R168). -/
def lockoutFault (n : Nat) (s : State) : State :=
  if inBatch s .a n then finishBatch .a (.fault .lockout) s
  else if inBatch s .b n then finishBatch .b (.fault .lockout) s
  else s

/-! ### The drain condition (R6) -/

/-- Sets or clears the ready flag of line `n`'s queue entry (R151). -/
def setReady (n : Nat) (on : Bool) (s : State) : State :=
  { s with clean := { s.clean with queue := s.clean.queue.map fun e => if e.line = n then { e with ready := on } else e } }

/-- The circuit an entry that becomes ready goes to: A where it is IDLE, otherwise B where it is (R156). -/
def freeCircuit (s : State) : Option Circuit :=
  if (s.circuit .a).state = .idle then some .a
  else if (s.circuit .b).state = .idle then some .b
  else none

/-- An entry has become ready: the circuit that is free for it takes a batch (R156). -/
def serveReady (s : State) : State :=
  match freeCircuit s with
  | some c => serve c s
  | none => s

/-- Evaluates the drain condition of a DRAINING or QUEUED line (R6). -/
def evalDrain (n : Nat) (s : State) : State :=
  match (s.line n).state with
  | .draining => if drainHolds s n then serveReady (setReady n true (moveLine n .queued s)) else s
  | .queued => if drainHolds s n then s else setReady n false (moveLine n .draining s)
  | _ => s

/-- The state a line returns to from DRAINING or QUEUED: its pre-drain state, with SERVING and DRY decided by the chain (R7). -/
def returnedState (l : Line) : ServiceState :=
  match l.preDrain with
  | some .serving => if l.chain.isEmpty then .dry else .serving
  | some .dry => if l.chain.isEmpty then .dry else .serving
  | some st => st
  | none => l.state

end Sys2Proof.Machine
end

