-- ==== Sys2Proof/Machine/Taps.lean ====
section
/-! DEFINITION. The Pour Engine's shared operations on a tap's route, lockout and items: copying a route, applying and withholding
a deferred one, queueing GRANT, REFUSE and STOP items, and ordering stops (chapters 2 to 4). -/

namespace Sys2Proof.Machine

open Sys2Proof

/-! ### Outgoing items (R78, R79) -/

/-- A REFUSE item. -/
def Item.isRefuse : Item → Bool
  | .refuse _ _ => true
  | .grant _ _ _ _ => false
  | .stop _ _ => false

/-- The list without its oldest REFUSE item (R78). -/
def dropOldestRefuse : List QueuedItem → List QueuedItem
  | [] => []
  | q :: rest => if q.item.isRefuse then rest else q :: dropOldestRefuse rest

/-- The list after an item has arrived (R78). -/
def enqueueItem (it : Item) (q : List QueuedItem) : List QueuedItem :=
  if q.length < Config.itemPlaces then q ++ [{ item := it, carried := false }]
  else if it.isRefuse then q
  else dropOldestRefuse q ++ [{ item := it, carried := false }]

/-- Queues an item on the node that carries tap `t` (R78). -/
def queueItem (t : Nat) (it : Item) (s : State) : State :=
  s.modNode (nodeOfTap t) fun n => { n with items := enqueueItem it n.items }

/-- Removes a stale STOP item of tap `t` and a token (R79). -/
def dropStop (t token : Nat) (s : State) : State :=
  s.modNode (nodeOfTap t) fun n => { n with items := n.items.filter fun q => q.item ≠ .stop (localOfTap t) token }

/-! ### Stop orders (R67) -/

/-- Orders a stop for the pour at tap `t` if it is GRANTED or POURING on line `n` and none has been sent (R67). -/
def stopTap (n t : Nat) (s : State) : State :=
  match (s.tap t).pour with
  | none => s
  | some p =>
    if p.phase = .orphaned || p.record.line ≠ n || p.record.stopSent then s
    else
      queueItem t (.stop (localOfTap t) p.record.token)
        (s.modTap t fun r => { r with pour := some { p with record := { p.record with stopSent := true } } })

/-- Orders stops for every pour in flight on line `n` (R67). R67 visits every tap and names no order, which decides the order of two
STOPs on one node's list: ascending tap number is the model's DESIGN CHOICE (assumption 46). -/
def stopLine (n : Nat) (s : State) : State := (List.range 128).foldl (fun s t => stopTap n t s) s

/-! ### Routes (R35, R40, R41) -/

/-- Reports a change of a tap's line: the drain conditions of the old and the new line are evaluated (R35, R6), the old line's first,
the model's DESIGN CHOICE (assumption 46). -/
def reportLineChange (old new : Option Nat) (s : State) : State :=
  if old = new then s
  else
    let s1 := match old with
      | some n => evalDrain n s
      | none => s
    match new with
    | some n => evalDrain n s1
    | none => s1

/-- Gives tap `t` the route `r` and reports a change of line (R35). -/
def copyRoute (t : Nat) (r : Route) (s : State) : State :=
  reportLineChange (s.tap t).route.line r.line (s.modTap t fun x => { x with route := r })

/-- The route `r` of tap `t` is withheld: it names a CLEANING line and the tap's lockout is off (R41). -/
def withholds (s : State) (t : Nat) (r : Route) : Bool :=
  match r.line with
  | some n => (s.line n).state = .cleaning && !(s.tap t).lockout
  | none => false

/-- Applies the deferred route of tap `t`, or withholds it (R40, R41). -/
def applyDeferred (t : Nat) (s : State) : State :=
  if !(s.tap t).deferred then s
  else
    let r := s.activeEntry t
    if withholds s t r then
      copyRoute t Route.dark (s.modTap t fun x => { x with deferred := false, withheld := true })
    else copyRoute t r (s.modTap t fun x => { x with deferred := false })

/-- Resolves a withheld route by copying the active entry (R41). -/
def resolveRoute (t : Nat) (s : State) : State :=
  copyRoute t (s.activeEntry t) (s.modTap t fun x => { x with withheld := false })

/-- Returns tap `t` to IDLE: a stale STOP leaves the list, the record is discarded and a deferred route is applied (R48, R79, R40). -/
def idleTap (t token : Nat) (s : State) : State :=
  applyDeferred t ((dropStop t token s).modTap t fun r => { r with pour := none })

/-! ### Lockout, presence and orphans (R33, R71) -/

/-- A node reports the lockout of tap `t` (R33). -/
def reportLockout (t : Nat) (on : Bool) (s : State) : State :=
  if (s.tap t).lockout = on then s
  else
    let s1 := s.modTap t fun r => { r with lockout := on }
    let s2 := match (s.tap t).route.line with
      | none => s1
      | some n => if on then evalDrain n s1 else lockoutFault n (evalDrain n s1)
    if on && (s2.tap t).withheld then resolveRoute t s2 else s2

/-- A pour in GRANTED or POURING becomes ORPHANED; its record is kept whole (R71). -/
def Tap.orphan (r : Tap) : Tap := { r with pour := r.pour.map fun p => { p with phase := .orphaned } }

/-- A node reports a running pulse count for tap `t` (R56). -/
def reportRunning (t count : Nat) (s : State) : State :=
  match (s.tap t).pour with
  | none => s
  | some p =>
    let q : Pour := { phase := if p.phase = .granted then .pouring else p.phase, record := { p.record with lastRunning := count } }
    s.modTap t fun r => { r with pour := some q }

end Sys2Proof.Machine
end

