-- ==== Sys2Proof/Machine/Lines.lean ====
section
/-! DEFINITION. The Line Manager's shared operations: kegs, priming, stock and the results of pours (chapter 1). -/

namespace Sys2Proof.Machine

open Sys2Proof

/-! ### Priming (R9) -/

/-- A PRIMING line whose prime progress has reached its fill volume and margin becomes SERVING (R9). -/
def checkPrime (n : Nat) (s : State) : State :=
  let l := s.line n
  if l.state = .priming && l.config.fillVolume + l.config.primeMargin ≤ l.primeProgress then moveLine n .serving s else s

/-! ### Kegs (R13, R18 to R22) -/

/-- A keg that becomes the head sets the KEG cause where its hold flag is set or its product differs from the line's (R13). -/
def decideKegHold (n : Nat) (s : State) : State :=
  let l := s.line n
  match l.chain with
  | [] => s
  | k :: _ =>
    if k.holdAfterSwitch || k.product ≠ l.config.product then changeHolds n { l.holds with keg := true } s else s

/-- The KEG record of a keg that leaves its chain (R21, R95). -/
def kegRecord (n : Nat) (l : Line) (k : Keg) (cause : KegCause) : RecordBody :=
  .keg n k.id k.product k.nominal (drawnVolume l.gain k) k.poured ((drawnVolume l.gain k : Int) - k.poured) cause

/-- The notice cause of a keg's leaving (section 1.11). -/
def kegNotice : KegCause → NoticeCause
  | .empty => .kegEmpty
  | .switched => .kegSwitched
  | .removed => .kegRemoved

/-- A SERVING line whose chain is empty becomes DRY and its pours in flight are stopped (R21). -/
def runDry (n : Nat) (s : State) : State :=
  if (s.line n).chain.isEmpty && (s.line n).state = .serving then stopLine n (moveLine n .dry s) else s

/-- Retires the head keg of line `n` (R21). -/
def retireHead (n : Nat) (cause : KegCause) (s : State) : State :=
  match (s.line n).chain with
  | [] => s
  | k :: rest =>
    let s1 := takeRecord (kegRecord n (s.line n) k cause) s
    let s2 := s1.modLine n fun l => { l with cellarDrawn := 0, tapPoured := 0 }
    let s3 := clearFoam n s2
    let s4 := decideKegHold n (s3.modLine n fun l => { l with chain := rest })
    runDry n (post (.keg n) (kegNotice cause) (recomputeStock n s4))

/-- The lowest-numbered coupler no keg of the chain holds (R18). -/
def freeCoupler (chain : List Keg) : Nat :=
  ((List.range Config.chainPlaces).find? fun c => chain.all fun k => k.coupler ≠ c).getD 0

/-- A keg id is held in some chain (R18). -/
def kegHeld (s : State) (id : Nat) : Bool := s.cellar.lines.any fun l => l.chain.any fun k => k.id = id

/-- Appends a keg to the chain of line `n`; the first of an empty chain becomes its head at once (R18, R13). -/
def addKeg (n : Nat) (k : Keg) (s : State) : State :=
  let wasEmpty := (s.line n).chain.isEmpty
  let s1 := s.modLine n fun l => { l with chain := l.chain ++ [k] }
  let s2 := if wasEmpty then decideKegHold n s1 else s1
  let s3 := if wasEmpty && (s2.line n).state = .dry then moveLine n .serving s2 else s2
  post (.keg n) .kegAdded (recomputeStock n s3)

/-- A pulse of line `n`'s cellar meter (R20). -/
def cellarPulse (n : Nat) (s : State) : State :=
  let l := s.line n
  match l.chain with
  | [] => s
  | k :: rest =>
    if !headOpen l then s
    else
      let k1 := { k with pulses := satAdd Config.max32 k.pulses 1 }
      let d := drawnVolume l.gain k1 - drawnVolume l.gain k
      let s1 := s.setLine n { l with
        chain := k1 :: rest
        cellarDrawn := satAdd Config.max48 l.cellarDrawn d
        primeProgress := if l.state = .priming then satAdd Config.max32 l.primeProgress d else l.primeProgress }
      recomputeStock n (checkPrime n s1)

/-- A change of line `n`'s detector input from full to empty (R22). -/
def detectorTrip (n : Nat) (s : State) : State :=
  let armed := (s.cellar.detectorArmed[n]?).getD false
  let s1 := { s with cellar := { s.cellar with detectorArmed := s.cellar.detectorArmed.setIfInBounds n false } }
  let st := (s.line n).state
  if armed && (st = .serving || st = .priming || st = .draining) then retireHead n .empty s1 else s1

/-- A detector input reading full arms the detector (R22). -/
def detectorFull (n : Nat) (s : State) : State :=
  { s with cellar := { s.cellar with detectorArmed := s.cellar.detectorArmed.setIfInBounds n true } }

/-! ### The results of pours (R23, R25, R26) -/

/-- The head keg with a pour of volume `v` credited (R23). -/
def creditHead (v : Nat) : List Keg → List Keg
  | [] => []
  | k :: rest => { k with poured := satAdd Config.max48 k.poured v } :: rest

/-- The foam count and alert of line `n` after a pour (R25). -/
def countFoam (n : Nat) (foamy : Bool) (s : State) : State :=
  if !foamy then clearFoam n s
  else
    let l := s.line n
    let c := min Config.foamLimit (l.foamCount + 1)
    let s1 := s.setLine n { l with foamCount := c, foamAlert := l.foamAlert || c = Config.foamLimit }
    if c = Config.foamLimit && !l.foamAlert then post (.line n) .lineFoam s1 else s1

/-- Adds TEMP where the pour's temperature exceeds the hard limit (R14). -/
def decideTempHold (n : Nat) (temperature : Option Int) (s : State) : State :=
  match temperature with
  | none => s
  | some v =>
    if (s.line n).config.hardLimit < v then changeHolds n { (s.line n).holds with temp := true } s else s

/-- The volume part of the cleaning-due check (R26). -/
def checkDueVolume (n : Nat) (s : State) : State :=
  let l := s.line n
  if l.state = .offline then s
  else
    let s1 :=
      if l.config.softVolume ≠ 0 && l.config.softVolume ≤ l.volumeSinceClean && !l.softVolumeNoted then
        post (.line n) .lineDue (s.setLine n { l with softVolumeNoted := true })
      else s
    if l.config.hardVolume ≠ 0 && l.config.hardVolume ≤ l.volumeSinceClean then
      changeHolds n { (s1.line n).holds with overdue := true } s1
    else s1

/-- The age part of the cleaning-due check for line `n`; a negative age counts as 0 (R26, R189). -/
def checkDueAge (n : Nat) (s : State) : State :=
  let l := s.line n
  match l.lastClean with
  | none => s
  | some t =>
    if l.state = .offline then s
    else
      let age := s.store.clock - t
      let s1 :=
        if l.config.softAge * 3600 ≤ age && !l.softAgeNoted then
          post (.line n) .lineDue (s.setLine n { l with softAgeNoted := true })
        else s
      if l.config.hardAge * 3600 ≤ age then changeHolds n { (s1.line n).holds with overdue := true } s1 else s1

/-- One pour fewer in flight on line `n`, and its drain condition evaluated (R17, R23). -/
def pourLeft (n : Nat) (s : State) : State := s.modLine n fun l => { l with inFlight := l.inFlight - 1 }

/-- Keg id and product code the Line Manager returns for a pour on line `n`: the head keg's, or 0 and the line's product (R64). -/
def creditedKeg (l : Line) : Nat × Nat :=
  match l.chain with
  | [] => (0, l.config.product)
  | k :: _ => (k.id, k.product)

/-- The Line Manager applies a finished pour of volume `v` with P of 1 or more to line `n` (R23). -/
def applyPour (n v : Nat) (foamy lost : Bool) (temperature : Option Int) (s : State) : State :=
  let s1 := s.modLine n fun l => { l with
    chain := creditHead v l.chain
    volumeSinceClean := satAdd Config.max32 l.volumeSinceClean v
    tapPoured := satAdd Config.max48 l.tapPoured v }
  let s2 := if lost then s1 else countFoam n foamy s1
  let s3 := decideTempHold n temperature s2
  evalDrain n (checkDueVolume n (pourLeft n s3))

end Sys2Proof.Machine
end

