-- ==== Sys2Proof/Machine/Flags.lean ====
section
/-! DEFINITION. Every flag and figure of a pour: budgets (R54, R55), the foam ratio (R60), the flag set (R61 to R64) and overrun
learning (R65). -/

namespace Sys2Proof.Machine

open Sys2Proof

/-- A budget from the rounded-up quotient and the offset, with the clamped flag (R54). -/
def boundBudget (quotient offset : Nat) : Nat × Bool :=
  if quotient ≤ offset then (1, false)
  else if Config.maxBudget < quotient - offset then (Config.maxBudget, true)
  else (quotient - offset, false)

/-- The budget of a pour that asked for a size with target `target` (R54). -/
def portionBudget (target overrun gain offset : Nat) : Nat × Bool :=
  if target ≤ overrun then (1, false) else boundBudget (divUp ((target - overrun) * 1000) gain) offset

/-- The budget of a pour asked FREE (R55). -/
def freeBudget (vfree gain offset : Nat) : Nat × Bool := boundBudget (divUp (vfree * 1000) gain) offset

/-- The foam ratio of `fast` among `pulses` pulses (R60). -/
def foamRatio (fast pulses : Nat) : Nat := fast * 256 / pulses

/-- The pour is SHORT: its volume is below the target less the tolerance (R62). -/
def isShort (size : Option AskedSize) (v : Nat) : Bool :=
  match size with
  | some z => v + z.tolerance < z.target
  | none => false

/-- The pour is OVER: its volume is above the target and the tolerance (R62). -/
def isOver (size : Option AskedSize) (v : Nat) : Bool :=
  match size with
  | some z => z.target + z.tolerance < v
  | none => false

/-- The temperature is present and above a limit (R61, R14). -/
def isAbove (limit : Int) (temperature : Option Int) : Bool :=
  match temperature with
  | some v => limit < v
  | none => false

/-- How a measured pour ended: pulses, fast pulses, temperature and cause after the adjustments of R57, and whether an orphan was
closed LOST (R73) or RECOVERED (R72). -/
structure PourEnd where
  pulses : Nat
  fast : Nat
  temperature : Option Int
  cause : Option EndCause
  lost : Bool
  recovered : Bool
  deriving DecidableEq, Repr

/-- The flag set of a measured pour (R60 to R64, R72, R73). -/
def pourFlags (r : InFlight) (e : PourEnd) (v foamThreshold : Nat) (serveLimit : Int) (creditedId : Nat) : PourFlags :=
  { short := isShort r.size v
    overTarget := isOver r.size v
    foamy := foamThreshold < foamRatio e.fast e.pulses
    warm := isAbove serveLimit e.temperature
    timeout := e.cause = some .timeout
    forced := e.cause = some .forced
    clamped := r.clamped
    cut := creditedId ≠ r.kegId
    lost := e.lost
    recovered := e.recovered }

/-- Overrun learning applies: a PORTION pour ended at its budget, neither FOAMY nor LOST (R65). -/
def learns (r : InFlight) (e : PourEnd) (foamy : Bool) : Bool :=
  r.cls = .portion && e.cause = some .budget && !foamy && !e.lost

/-- The learned overrun after an observed overrun (R65). -/
def learnOverrun (overrun : Nat) (observed : Int) : Nat :=
  let next := (overrun : Int) + divHalfAway (observed - overrun) 8
  if next < 0 then 0 else min Config.maxOverrun next.toNat

end Sys2Proof.Machine
end

