-- ==== Sys2Proof/Machine/Pours.lean ====
section
/-! DEFINITION. The Pour Engine's decisions: the ask and the grant (R51 to R55), and the ends of pours (R57 to R66, R72, R73). -/

namespace Sys2Proof.Machine

open Sys2Proof

/-! ### The ask (R51) -/

/-- The target and tolerance of a size of a set, the target 0 for a size index outside 1 to 4 (R51 check 10). -/
def sizeOf (s : State) (set index : Nat) : Size :=
  if index = 0 then coldSize
  else
    match s.pour.sizes[set]? with
    | some z => (z[index - 1]?).getD coldSize
    | none => coldSize

/-- The reason of the first failing check of an ask at tap `t`, whose size index is 0 for FREE (R51). -/
def askRefusal (t size : Nat) (s : State) : Option Reason :=
  let r := s.tap t
  if presence s t ≠ .present then some .offline
  else
    match r.route.line with
    | none => some .dark
    | some n =>
      if !s.pour.barOpen.getLsbD r.bar then some .closed
      else if r.lockout then some .locked
      else if r.watchBarred then some .barred
      else if !servable (s.line n) then some (notServableReason (s.line n))
      else if r.pour.isSome then some .busy
      else if size = 0 && r.route.portionOnly then some .portionOnly
      else if size = 0 && rationed (s.line n) then some .rationed
      else if size ≠ 0 && (sizeOf s r.route.sizeSet size).target = 0 then some .noSize
      else none

/-! ### The grant (R52 to R55) -/

/-- The class of a granted pour (R53). -/
def grantClass (l : Line) (size : Nat) : PourClass :=
  if l.state = .priming then .prime else if size = 0 then .free else .portion

/-- The in-flight record of a grant at tap `t` on line `n` (R49, R53 to R55). -/
def grantRecord (t n size : Nat) (s : State) : InFlight :=
  let r := s.tap t
  let l := s.line n
  let z := sizeOf s r.route.sizeSet size
  let b := if size = 0 then freeBudget s.pour.vfree r.gain r.offset
    else portionBudget z.target r.overrun r.gain r.offset
  { token := r.nextToken
    cls := grantClass l size
    size := if size = 0 then none else some { index := size, target := z.target, tolerance := z.tolerance }
    budget := b.1
    clamped := b.2
    maxSeconds := if size = 0 then s.pour.freeSeconds else Config.portionSeconds
    grantTime := s.store.clock
    line := n
    kegId := (creditedKeg l).1
    lastRunning := 0
    stopSent := false }

/-- Grants a pour at tap `t` on line `n` (R52). -/
def grant (t n size : Nat) (s : State) : State :=
  let g := grantRecord t n size s
  let s1 := s.modTap t fun r =>
    { r with nextToken := (r.nextToken + 1) % 256, pour := some { phase := .granted, record := g } }
  let s2 := s1.modLine n fun l => { l with inFlight := l.inFlight + 1 }
  queueItem t (.grant (localOfTap t) g.token g.budget g.maxSeconds) s2

/-- Decides an accepted ask at tap `t` (R51, R52). -/
def ask (t size : Nat) (s : State) : State :=
  match askRefusal t size s with
  | some reason => queueItem t (.refuse (localOfTap t) reason) s
  | none =>
    match (s.tap t).route.line with
    | some n => grant t n size s
    | none => s

/-! ### The end of a pour (R57 to R66) -/

/-- A pour that ends with P = 0 (R58). -/
def zeroEnd (t : Nat) (r : InFlight) (s : State) : State := idleTap t r.token (evalDrain r.line (pourLeft r.line s))

/-- The POUR record of a measured end, the credited keg given (R66 step 2). -/
def pourRecord (t : Nat) (r : InFlight) (e : PourEnd) (v : Nat) (credited : Nat × Nat) (flags : PourFlags) : PourRecord :=
  { tap := t, line := r.line, product := credited.2, kegId := credited.1, cls := r.cls, sizeIndex := r.size.map (·.index),
    target := r.size.map (·.target), volume := v, pulses := e.pulses, foamRatio := foamRatio e.fast e.pulses,
    temperature := e.temperature, flags := flags }

/-- Adds 1 to the warm counter of a trunk (R61). -/
def countWarm (n : Nat) (s : State) : State := s.modTrunk n fun t => { t with warm := satAdd 255 t.warm 1 }

/-- The tap's learned overrun after a pour of volume `v` with budget `b` (R65). -/
def Tap.learn (x : Tap) (v b : Nat) : Tap :=
  { x with overrun := learnOverrun x.overrun ((v : Int) - pulseVolume x.gain x.offset b) }

/-- A measured end of the pour at tap `t` is handed on (R66). -/
def measuredEnd (t : Nat) (r : InFlight) (e : PourEnd) (s : State) : State :=
  let tap := s.tap t
  let l := s.line r.line
  let v := pulseVolume tap.gain tap.offset e.pulses
  let credited := creditedKeg l
  let flags := pourFlags r e v s.pour.foamThreshold l.config.serveLimit credited.1
  let s1 := applyPour r.line v flags.foamy e.lost e.temperature s
  let s2 := takePour (pourRecord t r e v credited flags) s1
  let s3 := if flags.warm then countWarm l.config.trunk s2 else s2
  let s4 := if learns r e flags.foamy then s3.modTap t fun x => x.learn v r.budget else s3
  idleTap t r.token s4

/-- Ends a pour: silently with no pulses, otherwise as measured (R57). -/
def endPour (t : Nat) (r : InFlight) (e : PourEnd) (s : State) : State :=
  if e.pulses = 0 then zeroEnd t r s else measuredEnd t r e s

/-- The end cause after the adjustment of an EXPIRED with pulses (R57). -/
def adjustCause (pulses : Nat) (c : EndCause) : EndCause := if c = .expired && pulses ≠ 0 then .handle else c

/-- The temperature after the adjustment of one out of range (R57). -/
def adjustTemperature : Option Int → Option Int
  | some v => if v < -300 || 700 < v then none else some v
  | none => none

/-- An accepted DONE event at tap `t` (R57, R72). -/
def finishPour (t token pulses fast : Nat) (temperature : Option Int) (cause : EndCause) (s : State) : State :=
  match (s.tap t).pour with
  | none => s
  | some p =>
    if p.record.token ≠ token then s
    else
      endPour t p.record
        { pulses := pulses, fast := min fast pulses, temperature := adjustTemperature temperature,
          cause := some (adjustCause pulses cause), lost := false, recovered := p.phase = .orphaned } s

/-- Closes the orphan at tap `t` LOST with its last running pulses (R73). -/
def closeLost (t : Nat) (s : State) : State :=
  match (s.tap t).pour with
  | none => s
  | some p =>
    if p.phase = .orphaned then
      endPour t p.record
        { pulses := p.record.lastRunning, fast := 0, temperature := none, cause := none, lost := true, recovered := false } s
    else s

end Sys2Proof.Machine
end

