-- ==== Sys2Proof/Machine/Wire.lean ====
section
/-! DEFINITION. Bytes on the wire: multi-byte fields most significant byte first, saturating where a figure is larger than its
field (R192), the CRC-16 of both paths, and the POLL and REPLY of the tap bus (section 11.4, R194). -/

namespace Sys2Proof.Machine

open Sys2Proof

/-! ### Fields (section 11.1) -/

/-- The low `8 × width` bits of `x`, most significant byte first. -/
def bytesOf : Nat → Nat → List Byte
  | 0, _ => []
  | k + 1, x => BitVec.ofNat 8 (x / 256 ^ k) :: bytesOf k x

/-- An unsigned field of `width` bytes; a larger figure carries the largest value (R192). -/
def field (width x : Nat) : List Byte := bytesOf width (min x (256 ^ width - 1))

/-- A signed field of `width` bytes in two's complement; a figure beyond it carries the bound on its side (R192). -/
def signedField (width : Nat) (x : Int) : List Byte :=
  let half : Int := (256 ^ width / 2 : Nat)
  let y := max (-half) (min (half - 1) x)
  bytesOf width (if y < 0 then y + 256 ^ width else y).toNat

/-- A flag: 1 for set, 0 for clear (assumption 5). -/
def flagField (b : Bool) : List Byte := [if b then 1#8 else 0#8]

/-- A temperature, −32,768 for absent (section 11.1). -/
def temperatureField (t : Option Int) : List Byte := signedField 2 (t.getD (-32768))

/-- Reads an unsigned field of `width` bytes. -/
def readField : Nat → List Byte → Option (Nat × List Byte)
  | 0, b => some (0, b)
  | _ + 1, [] => none
  | k + 1, x :: b =>
    match readField k b with
    | some (v, rest) => some (x.toNat * 256 ^ k + v, rest)
    | none => none

/-- The signed value of an unsigned field of `width` bytes. -/
def signedValue (width v : Nat) : Int := if 256 ^ width / 2 ≤ v then (v : Int) - 256 ^ width else v

/-! ### CRC-16 (chapter 11) -/

/-- One bit of the division by x¹⁶ + x¹² + x⁵ + 1. -/
def crcBit (c : BitVec 16) : BitVec 16 := if c.msb then (c <<< 1) ^^^ 0x1021#16 else c <<< 1

/-- One byte of the CRC, bits taken most significant first. -/
def crcByte (c : BitVec 16) (b : Byte) : BitVec 16 :=
  crcBit (crcBit (crcBit (crcBit (crcBit (crcBit (crcBit (crcBit (c ^^^ (b.setWidth 16 <<< 8)))))))))

/-- The CRC-16 of a sequence of bytes, register preset to all ones (chapter 11). -/
def crc16 (b : List Byte) : BitVec 16 := b.foldl crcByte 0xFFFF#16

/-- The bytes followed by their CRC, high byte first. -/
def withCrc (b : List Byte) : List Byte := b ++ bytesOf 2 (crc16 b).toNat

/-! ### POLL (section 11.4) -/

/-- The code of a refusal reason (section 11.4). -/
def Reason.code : Reason → Nat
  | .offline => 0
  | .dark => 1
  | .closed => 2
  | .locked => 3
  | .barred => 4
  | .notReady => 5
  | .dry => 6
  | .busy => 7
  | .portionOnly => 8
  | .rationed => 9
  | .noSize => 10

/-- The bytes of an item (section 11.4). -/
def Item.bytes : Item → List Byte
  | .grant loc token budget seconds => field 1 1 ++ field 1 loc ++ field 1 token ++ field 2 budget ++ field 1 seconds
  | .refuse loc reason => field 1 2 ++ field 1 loc ++ field 1 reason.code
  | .stop loc token => field 1 3 ++ field 1 loc ++ field 1 token

/-- The bytes of the SETUP item, if the poll carries one (section 11.4). -/
def setupBytes : Option Nat → List Byte
  | some threshold => field 1 4 ++ field 3 threshold
  | none => []

/-- The second byte of a POLL: fresh flag and taken-through number (section 11.4). -/
def Poll.flagByte (p : Poll) : Nat :=
  (if p.fresh then 128 else 0) + (match p.takenThrough with
    | some n => n % 16
    | none => 64)

/-- The bytes of a POLL (section 11.4). -/
def Poll.bytes (p : Poll) : List Byte :=
  withCrc (field 1 p.address ++ field 1 p.flagByte ++ field 1 (p.items.length + (if p.setup.isSome then 1 else 0))
    ++ setupBytes p.setup ++ p.items.flatMap Item.bytes)

/-! ### REPLY (section 11.4, R194) -/

/-- The status of one tap in a reply: lockout, and the running pulses where the pour-open bit is set. -/
structure TapStatus where
  lockout : Bool
  running : Option Nat
  deriving DecidableEq, Repr

/-- What an event carries (R84). -/
inductive EventBody where
  | ask (size : Nat)
  | done (token pulses fast : Nat) (temperature : Option Int) (cause : EndCause)
  deriving DecidableEq, Repr

/-- One event of a reply with its number and local index. -/
structure Event where
  number : Nat
  loc : Nat
  body : EventBody
  deriving DecidableEq, Repr

/-- A complete reply. -/
structure BusReply where
  address : Nat
  taps : List TapStatus
  events : List Event
  deriving DecidableEq, Repr

/-- Reading a part of a reply: it breaks the format, the bytes stop short, or the part and the bytes after it. -/
inductive Reading (α : Type) where
  | broken
  | short
  | ok (part : α) (rest : List Byte)
  deriving DecidableEq, Repr

/-- Reads the per-tap status bytes; bits other than 0 and 1 are ignored (R194). -/
def readTaps : Nat → List Byte → Reading (List TapStatus)
  | 0, b => .ok [] b
  | k + 1, st :: hi :: lo :: rest =>
    match readTaps k rest with
    | .ok ts r =>
      .ok ({ lockout := st.getLsbD 0
             running := if st.getLsbD 1 then some (hi.toNat * 256 + lo.toNat) else none } :: ts) r
    | .short => .short
    | .broken => .broken
  | _ + 1, _ => .short

/-- The end cause of a DONE; a code above 4 is taken as HANDLE (R194). -/
def endCauseOfCode : Nat → EndCause
  | 0 => .budget
  | 1 => .handle
  | 2 => .timeout
  | 3 => .forced
  | 4 => .expired
  | _ => .handle

/-- Reads the temperature field, −32,768 for absent (section 11.1). -/
def temperatureOf (v : Nat) : Option Int := if v = 32768 then none else some (signedValue 2 v)

/-- Reads the bytes of a DONE after its header (section 11.4). -/
def readDone : List Byte → Reading EventBody
  | token :: p1 :: p0 :: f1 :: f0 :: t1 :: t0 :: cause :: rest =>
    .ok (.done token.toNat (p1.toNat * 256 + p0.toNat) (f1.toNat * 256 + f0.toNat)
      (temperatureOf (t1.toNat * 256 + t0.toNat)) (endCauseOfCode cause.toNat)) rest
  | _ => .short

/-- Reads the bytes of an event of a kind after its header; a kind other than ASK or DONE breaks the format (R194). -/
def readEventBody (kind : Nat) (b : List Byte) : Reading EventBody :=
  if kind = 1 then
    match b with
    | size :: rest => .ok (.ask size.toNat) rest
    | [] => .short
  else if kind = 2 then readDone b
  else .broken

/-- Reads one event; a bad kind or a local index above 3 breaks the format (R194). -/
def readEvent : List Byte → Reading Event
  | head :: loc :: rest =>
    if 3 < loc.toNat then .broken
    else
      match readEventBody (head.toNat / 16) rest with
      | .ok body r => .ok { number := head.toNat % 16, loc := loc.toNat, body := body } r
      | .short => .short
      | .broken => .broken
  | _ => .short

/-- Reads a count of events in order (R194). -/
def readEvents : Nat → List Byte → Reading (List Event)
  | 0, b => .ok [] b
  | k + 1, b =>
    match readEvent b with
    | .ok e rest =>
      match readEvents k rest with
      | .ok es r => .ok (e :: es) r
      | .short => .short
      | .broken => .broken
    | .short => .short
    | .broken => .broken

/-- Reads a reply up to its CRC: tap count, status bytes, event count, events (R194). -/
def readReplyBody : List Byte → Reading BusReply
  | address :: count :: rest =>
    if count.toNat < 1 || 4 < count.toNat then .broken
    else
      match readTaps count.toNat rest with
      | .ok taps r =>
        match r with
        | events :: r1 =>
          if 4 < events.toNat then .broken
          else
            match readEvents events.toNat r1 with
            | .ok es r2 => .ok { address := address.toNat, taps := taps, events := es } r2
            | .short => .short
            | .broken => .broken
        | [] => .short
      | .short => .short
      | .broken => .broken
  | _ => .short

/-- A complete reply whose CRC passes; none where the bytes break the format, stop short or fail the CRC (R74, R194). Bytes behind the
CRC are not read: the model's deduction (assumption 21). -/
def readReply (b : List Byte) : Option BusReply :=
  match readReplyBody b with
  | .ok r rest =>
    match rest with
    | hi :: lo :: _ =>
      if hi.toNat * 256 + lo.toNat = (crc16 (b.take (b.length - rest.length))).toNat then some r else none
    | _ => none
  | .short => none
  | .broken => none

end Sys2Proof.Machine
end

