-- ==== Sys2Proof/Machine/Bus.lean ====
section
/-! DEFINITION. The Tap Bus Controller: poll rounds, the exchange and its misses, the handling of a valid reply, and the fast
threshold (chapter 4). -/

namespace Sys2Proof.Machine

open Sys2Proof

/-! ### The fast threshold (R80) -/

/-- Gains of the node's configured taps. -/
def configuredGains (s : State) (a : Nat) : List Nat :=
  ((List.range 4).filter fun i => (s.tap (tapOf a i)).configured).map fun i => (s.tap (tapOf a i)).gain

/-- The fast threshold of a node, from the lowest gain of its configured taps, rounded down; none without such a tap (R80). -/
def thresholdOf (s : State) (a : Nat) : Option Nat :=
  match (configuredGains s a).min? with
  | some g => some (g * 5 / 3)
  | none => none

/-- Recomputes the threshold; a new value is stored and sets setup due (R80). -/
def recomputeThreshold (a : Nat) (s : State) : State :=
  match thresholdOf s a with
  | none => s
  | some th =>
    if th = (s.node a).threshold then s else s.modNode a fun n => { n with threshold := th, setupDue := true }

/-! ### Rounds and polls (R76, R77) -/

/-- Address `a` is due: configured, and PRESENT or in a probe round (R76). -/
def pollDue (s : State) (a : Nat) : Bool :=
  nodeConfigured s a && ((s.node a).state = .present || s.bus.round = 0)

/-- The lowest due address from `first` to 32 (R76). -/
def nextDue (s : State) (first : Nat) : Option Nat := (List.range' first (33 - first)).find? fun a => pollDue s a

/-- Places for items of the list beside a SETUP (R77). -/
def listPlaces (n : Node) : Nat := if n.setupDue then Config.pollPlaces - 1 else Config.pollPlaces

/-- The POLL formed from a node record (R77). -/
def formPoll (a : Nat) (n : Node) : Poll :=
  { address := a, fresh := n.freshDue, takenThrough := n.lastTaken, setup := if n.setupDue then some n.threshold else none,
    items := (n.items.take (listPlaces n)).map (·.item) }

/-- Marks the first `k` items as carried and the others as not. -/
def markCarried : Nat → List QueuedItem → List QueuedItem
  | _, [] => []
  | 0, q :: rest => { q with carried := false } :: markCarried 0 rest
  | k + 1, q :: rest => { q with carried := true } :: markCarried k rest

/-- Polls address `a` (R74, R77). -/
def startPoll (a : Nat) (s : State) : State :=
  let n := s.node a
  let s1 := s.setNode a { n with items := markCarried (listPlaces n) n.items }
  { s1 with bus := { s1.bus with phase := .exchange (formPoll a n) } }

/-- Begins a round: polls its first due address, or lets an empty round run (R76). -/
def startRound (s : State) : State :=
  match nextDue s 1 with
  | some a => startPoll a s
  | none => { s with bus := { s.bus with phase := .emptyRound } }

/-- Ends a round: the round number advances and the next round begins (R76). -/
def endRound (s : State) : State :=
  startRound { s with bus := { s.bus with round := (s.bus.round + 1) % Config.probeEvery } }

/-- The exchange with address `a` has ended: the part sends the next poll (R74, R76). -/
def nextPoll (a : Nat) (s : State) : State :=
  let s1 := { s with bus := { s.bus with abandoned := none } }
  match nextDue s1 (a + 1) with
  | some b => startPoll b s1
  | none => endRound s1

/-! ### Misses and loss (R74, R85) -/

/-- Orphans the pours of the node's taps from local index `first` on (R71). -/
def orphanTaps (a first : Nat) (s : State) : State :=
  (List.range 4).foldl (fun s i => if first ≤ i then s.modTap (tapOf a i) Tap.orphan else s) s

/-- The node becomes LOST (R85). -/
def loseNode (a : Nat) (s : State) : State :=
  post (.node a) .nodeLost (orphanTaps a 0 (s.modNode a fun n =>
    { n with state := .lost, misses := Config.missLimit, items := [], lastTaken := none, freshDue := true, setupDue := true }))

/-- Counts a missed exchange against a PRESENT node (R85). -/
def countMiss (a : Nat) (s : State) : State :=
  let n := s.node a
  if n.state ≠ .present then s
  else if n.misses + 1 < Config.missLimit then s.modNode a fun n => { n with misses := n.misses + 1 }
  else loseNode a s

/-- The exchange in progress is missed: nothing of it is taken, and its items stay in the list (R74, R77). -/
def missExchange (s : State) : State :=
  match s.bus.phase with
  | .exchange p =>
    nextPoll p.address (countMiss p.address (s.modNode p.address fun n => { n with items := markCarried 0 n.items }))
  | .emptyRound => s
  | .stopped => s

/-! ### A valid reply (R81 to R86) -/

/-- The node is found where it was ABSENT or LOST (R86). -/
def findNode (a : Nat) (s : State) : State :=
  if (s.node a).state = .present then s
  else post (.node a) .nodePresent (s.modNode a fun n => { n with state := .present })

/-- What the answered poll carried is confirmed (R81 step 3). -/
def confirmPoll (p : Poll) (s : State) : State :=
  s.modNode p.address fun n =>
    { n with
      items := n.items.filter fun q => !q.carried
      freshDue := if p.fresh then false else n.freshDue
      setupDue := if p.setup = some n.threshold then false else n.setupDue }

/-- The local index an item is for. -/
def Item.loc : Item → Nat
  | .grant i _ _ _ => i
  | .refuse i _ => i
  | .stop i _ => i

/-- Takes the tap count of a valid reply (R82). The first count a node reports is no change of it (assumption 12). -/
def takeTapCount (a count : Nat) (s : State) : State :=
  match (s.node a).tapCount with
  | none => s.modNode a fun n => { n with tapCount := some count }
  | some old =>
    let s1 := s.modNode a fun n => { n with tapCount := some count }
    let s2 :=
      if count < old then
        orphanTaps a count (s1.modNode a fun n => { n with items := n.items.filter fun q => q.item.loc < count })
      else s1
    if count = old then s2 else post (.node a) .nodeTaps s2

/-- Passes one tap's status to the Pour Engine: the lockout, then the running count (R81 step 5). -/
def takeStatus (t : Nat) (st : TapStatus) (s : State) : State :=
  let s1 := reportLockout t st.lockout s
  match st.running with
  | some n => reportRunning t n s1
  | none => s1

/-- Passes the status of the taps from local index `i` on (R81 step 5). Ascending local index is the model's DESIGN CHOICE
(assumption 46). -/
def takeStatuses (a : Nat) : Nat → List TapStatus → State → State
  | _, [], s => s
  | i, st :: rest, s => takeStatuses a (i + 1) rest (takeStatus (tapOf a i) st s)

/-- An event is accepted by its number (R83). -/
def acceptsEvent (n : Node) (number : Nat) : Bool :=
  match n.lastTaken with
  | none => true
  | some k => number = (k + 1) % 16

/-- Passes an accepted event to the Pour Engine (R84). -/
def passEvent (t : Nat) : EventBody → State → State
  | .ask size, s => ask t size s
  | .done token pulses fast temperature cause, s => finishPour t token pulses fast temperature cause s

/-- Takes one event of a valid reply, or ignores it (R83, R84). -/
def takeEvent (a : Nat) (e : Event) (s : State) : State :=
  if acceptsEvent (s.node a) e.number then
    passEvent (tapOf a e.loc) e.body (s.modNode a fun n => { n with lastTaken := some e.number })
  else s

/-- Closes the orphan of tap `t` LOST where it is PRESENT and the reply, which carries no event, shows no running pour (R73). -/
def closeIfSilent (t : Nat) (st : TapStatus) (s : State) : State :=
  if presence s t = .present && st.running.isNone then closeLost t s else s

/-- Closes the orphans a reply without events leaves without a running pour, from local index `i` on (R81 step 7). Ascending local
index, and with it the order of their POUR records, is the model's DESIGN CHOICE (assumption 46). -/
def closeSilent (a : Nat) : Nat → List TapStatus → State → State
  | _, [], s => s
  | i, st :: rest, s => closeSilent a (i + 1) rest (closeIfSilent (tapOf a i) st s)

/-- Handles a valid reply to the poll `p` (R81). -/
def handleReply (p : Poll) (r : BusReply) (s : State) : State :=
  let a := p.address
  let s1 := s.modNode a fun n => { n with misses := 0 }
  let s2 := confirmPoll p (findNode a s1)
  let s3 := takeTapCount a r.taps.length s2
  let s4 := takeStatuses a 0 r.taps s3
  let s5 := r.events.foldl (fun s e => takeEvent a e s) s4
  if r.events.isEmpty then closeSilent a 0 r.taps s5 else s5

/-- The bytes of a reply have arrived (R74, R81, R194). Bytes outside an exchange are discarded; a reply of an abandoned
exchange is discarded (R75, R89), but for one from the very address that is now polled: R89 would have it discarded, R74 lets it
answer the new poll, and nothing in its bytes tells the two apart. The model takes it as the answer, its DESIGN CHOICE
(assumption 40). -/
def receiveReply (b : List Byte) (s : State) : State :=
  match s.bus.phase with
  | .stopped => s
  | .emptyRound => s
  | .exchange p =>
    match readReply b with
    | none => missExchange s
    | some r =>
      if r.address = p.address then nextPoll p.address (handleReply p r s)
      else if s.bus.abandoned = some r.address then { s with bus := { s.bus with abandoned := none } }
      else missExchange s

/-- An empty round has lasted one reply window (R76). -/
def emptyRoundEnds (s : State) : State :=
  match s.bus.phase with
  | .emptyRound => endRound { s with bus := { s.bus with abandoned := none } }
  | .exchange _ => s
  | .stopped => s

/-! ### Nodes joining and leaving the table (R75) -/

/-- The node record is reset as its first tap is configured (R75). -/
def resetNode (a : Nat) (s : State) : State := s.setNode a (freshNode ((thresholdOf s a).getD (s.node a).threshold))

/-- The address of the exchange in progress. -/
def BusBlock.polled (b : BusBlock) : Option Nat :=
  match b.phase with
  | .exchange p => some p.address
  | .emptyRound => none
  | .stopped => none

/-- The exchange with a node that leaves the table is abandoned, and the next poll follows (R75). -/
def abandonExchange (a : Nat) (s : State) : State :=
  if s.bus.polled = some a then
    let s1 := nextPoll a s
    { s1 with bus := { s1.bus with abandoned := some a } }
  else s

/-- The node leaves the table as its last tap is unconfigured (R75). -/
def dropNode (a : Nat) (s : State) : State :=
  let old := (s.node a).state
  let s1 := s.modNode a fun n =>
    { n with state := .absent, items := [], lastTaken := none, tapCount := none, freshDue := true, setupDue := true }
  let s2 := if old = .absent then s1 else post (.node a) .nodeAbsent s1
  abandonExchange a s2

end Sys2Proof.Machine
end

