-- ==== Sys2Proof/Machine/BusEvents.lean ====
section
/-! DEFINITION. The events of the tap bus: a reply, the ways in which an exchange is missed, and the end of an empty round (chapter 4,
R194). -/

namespace Sys2Proof.Machine

open Sys2Proof

/-- REPLY_WINDOW_EXPIRY: no reply has begun in the window (R74, R85). -/
def execReplyWindowExpiry (s : State) : Result := .next (event missExchange s)

/-- REPLY_BYTE_GAP_TIMEOUT: the bytes of a reply have stopped before its CRC (R194). -/
def execReplyByteGapTimeout (s : State) : Result := .next (event missExchange s)

/-- REPLY_FORMAT_BROKEN: a byte of a reply breaks the format, and the exchange is missed at once (R194). -/
def execReplyFormatBroken (s : State) : Result := .next (event missExchange s)

/-- REPLY_RECEIVED (R81, R194). -/
def execReplyReceived (bytes : List Byte) (s : State) : Result := .next (event (receiveReply bytes) s)

/-- EMPTY_ROUND_EXPIRY (R76). -/
def execEmptyRoundExpiry (s : State) : Result := .next (event emptyRoundEnds s)

end Sys2Proof.Machine
end

