-- ==== Sys2Proof/Machine/CellarEvents.lean ====
section
/-! DEFINITION. The events of the lines' inputs: the foam-on-beer detector and the cellar meter (R20, R22). -/

namespace Sys2Proof.Machine

open Sys2Proof

/-- The level of line `n`'s detector input, which changes whether or not the part takes events. -/
def setDetectorPin (n : Nat) (full : Bool) (s : State) : State :=
  { s with pins := { s.pins with detectorFull := s.pins.detectorFull.setIfInBounds n full } }

/-- FOAM_ON_BEER_TRIP: the input changes from full to empty (R22). -/
def execFoamOnBeerTrip (line : Fin 48) (s : State) : Result :=
  .next (event (detectorTrip line.val) (setDetectorPin line.val false s))

/-- DETECTOR_REARM: the input reads full (R22). -/
def execDetectorRearm (line : Fin 48) (s : State) : Result :=
  .next (event (detectorFull line.val) (setDetectorPin line.val true s))

/-- CELLAR_METER_PULSE (R20). -/
def execCellarMeterPulse (line : Fin 48) (s : State) : Result := .next (event (cellarPulse line.val) s)

end Sys2Proof.Machine
end

