-- ==== Sys2Proof/Machine/CleaningEvents.lean ====
section
/-! DEFINITION. The events of the cleaning circuits' meters, sensors, inputs and timers (R159 to R161, R167). -/

namespace Sys2Proof.Machine

open Sys2Proof

/-- CIRCUIT_METER_PULSE (R159, R161). -/
def execCircuitMeterPulse (circuit : Circuit) (s : State) : Result := .next (event (circuitPulse circuit) s)

/-- CONDUCTIVITY_READING (R147, R161, R167). -/
def execConductivityReading (circuit : Circuit) (reading : Option Int) (s : State) : Result :=
  .next (event (conductivity circuit reading) s)

/-- The level of a supply-low input, which changes whether or not the part takes events. -/
def setSupplyPin (c : Circuit) (u : Supply) (active : Bool) (s : State) : State :=
  match u with
  | .water => { s with pins := { s.pins with waterLow := s.pins.waterLow.put c active } }
  | .solution => { s with pins := { s.pins with solutionLow := s.pins.solutionLow.put c active } }

/-- SUPPLY_LOW: the input changes; becoming active during a step that draws from that supply is a fault (R167). -/
def execSupplyLow (circuit : Circuit) (supply : Supply) (active : Bool) (s : State) : Result :=
  .next (event (fun s => if active then supplyFault circuit supply s else s) (setSupplyPin circuit supply active s))

/-- FLOW_TIMER_EXPIRY (R167). -/
def execFlowTimerExpiry (circuit : Circuit) (s : State) : Result := .next (event (flowExpiry circuit) s)

/-- TIMED_STEP_EXPIRY (R160). -/
def execTimedStepExpiry (circuit : Circuit) (s : State) : Result := .next (event (timedExpiry circuit) s)

end Sys2Proof.Machine
end

