-- ==== Sys2Proof/Machine/CoolingEvents.lean ====
section
/-! DEFINITION. The events of the Cooling Controller's sensors, timers and stage fault inputs (chapter 7). -/

namespace Sys2Proof.Machine

open Sys2Proof

/-- SENSOR_SAMPLE (R128, R139, R140). -/
def execSensorSample (returns : Vector (Option Int) 12) (bath : Option Int) (s : State) : Result :=
  .next (event (sampleAll returns bath) s)

/-- ALARM_TIMER_EXPIRY (R141). -/
def execAlarmTimerExpiry (trunk : Fin 12) (s : State) : Result := .next (event (alarmExpiry trunk.val) s)

/-- RELEASE_TIMER_EXPIRY (R142). -/
def execReleaseTimerExpiry (trunk : Fin 12) (s : State) : Result := .next (event (releaseExpiry trunk.val) s)

/-- CONTROL_PERIOD_EXPIRY (R130). -/
def execControlPeriodExpiry (s : State) : Result := .next (event controlPeriod s)

/-- DUTY_WINDOW_START (R135). -/
def execDutyWindowStart (s : State) : Result := .next (event dutyWindow s)

/-- VALVE_DUTY_EXPIRY (R135). -/
def execValveDutyExpiry (trunk : Fin 12) (s : State) : Result := .next (event (dutyExpiry trunk.val) s)

/-- Stage fault input `i` reads active. -/
def stagePin (s : State) (i : Nat) : Bool := (s.pins.stageFault[i]?).getD false

/-- STAGE_FAULT: the input becomes active; an input that already reads active does not change (R138). -/
def execStageFault (stage : Fin 4) (s : State) : Result :=
  if stagePin s stage.val then .next s else .next (event (stageFails stage.val) (setStagePin stage.val true s))

/-- STAGE_RESTORED: the input becomes inactive; an input that already reads inactive does not change (R138). -/
def execStageRestored (stage : Fin 4) (s : State) : Result :=
  if stagePin s stage.val then .next (event (stageReturns stage.val) (setStagePin stage.val false s)) else .next s

end Sys2Proof.Machine
end

