-- ==== Sys2Proof/Machine/LineRequests.lean ====
section
/-! DEFINITION. The requests of the Line Manager: PRODUCT SET, LINE SET, LINE GET, LINE CLEAR, LINE HOLD, KEG ADD, KEG REMOVE, KEG
SWITCH, KEG LIST and RETURN TO SERVICE (chapter 1). -/

namespace Sys2Proof.Machine

open Sys2Proof

/-! ### PRODUCT SET (R1) -/

/-- The entry of the product table that holds a code (R1). -/
def productEntry (s : State) (code : Nat) : Option Product := s.cellar.products.find? fun p => p.code = code

/-- A code is registered while it is held in the table (R1). -/
def registered (s : State) (code : Nat) : Bool := (productEntry s code).isSome

/-- Replaces the product table. -/
def State.setProducts (ps : List Product) (s : State) : State := { s with cellar := { s.cellar with products := ps } }

/-- An entry newly taken for a code: its figures are zero (R1, R103). -/
def newProduct (code : Nat) (label : Label) : Product :=
  { code := code, label := label, sales := Tally.zero, histogram := Vector.replicate 8 0 }

/-- PRODUCT SET REGISTER (R1). Section 11.1 gives a label the codes 32–126 padded at the end with 0; R1 names no refusal for another
byte, and the model stores the 16 bytes as they come, its DESIGN CHOICE (assumption 34). -/
def decideProductRegister (code : Nat) (label : Label) (s : State) : Decision :=
  if code = 0 then refuse .range s
  else if registered s code then
    accept (s.setProducts (s.cellar.products.map fun p => if p.code = code then { p with label := label } else p))
  else if Config.productPlaces ≤ s.cellar.products.length then refuse .full s
  else accept (s.setProducts (s.cellar.products ++ [newProduct code label]))

/-- PRODUCT SET REGISTER (R1). -/
def execProductRegister (tag : Byte) (code : Nat) (label : Label) (s : State) : Result :=
  .next (request .productSet tag (decideProductRegister code label) s)

/-- Some line's product code or some keg record names the code (R1). -/
def productNamed (s : State) (code : Nat) : Bool :=
  s.cellar.lines.any fun l => l.config.product = code || l.chain.any fun k => k.product = code

/-- The per-product totals of an entry are zero (R1). -/
def Product.isClear (p : Product) : Bool := p.sales = Tally.zero && p.histogram.all (· = 0)

/-- PRODUCT SET REMOVE (R1). -/
def decideProductRemove (code : Nat) (s : State) : Decision :=
  match productEntry s code with
  | none => refuse .notFound s
  | some p =>
    if productNamed s code || !p.isClear then refuse .state s
    else accept (s.setProducts (s.cellar.products.filter fun q => q.code ≠ code))

/-- PRODUCT SET REMOVE (R1). -/
def execProductRemove (tag : Byte) (code : Nat) (s : State) : Result :=
  .next (request .productSet tag (decideProductRemove code) s)

/-- PRODUCT SET READ (R1). -/
def decideProductRead (code : Nat) (s : State) : Decision :=
  match productEntry s code with
  | none => refuse .notFound s
  | some p => acceptWith (.product p.code p.label) s

/-- PRODUCT SET READ (R1). -/
def execProductRead (tag : Byte) (code : Nat) (s : State) : Result :=
  .next (request .productSet tag (decideProductRead code) s)

/-! ### LINE SET and LINE GET (R2, R3) -/

/-- A cleaning-due volume is 0 or 1–2,000,000,000 tenths (section 1.1). -/
def dueVolumeOk (v : Nat) : Bool := v ≤ 2000000000

/-- Every field of a LINE SET is in its range (R2). -/
def configOk (s : State) (c : LineConfig) : Bool :=
  c.trunk ≤ 11
    && (c.product = 0 || registered s c.product)
    && (100 ≤ c.fillVolume && c.fillVolume ≤ 200000)
    && c.primeMargin ≤ 50000
    && (-100 ≤ c.serveLimit && c.serveLimit ≤ 300)
    && (c.serveLimit ≤ c.hardLimit && c.hardLimit ≤ 300)
    && c.lowThreshold ≤ 12000000
    && c.criticalThreshold ≤ c.lowThreshold
    && (1 ≤ c.softAge && c.softAge ≤ c.hardAge && c.hardAge ≤ 8760)
    && dueVolumeOk c.softVolume
    && dueVolumeOk c.hardVolume
    && (c.softVolume = 0 || c.hardVolume = 0 || c.softVolume ≤ c.hardVolume)

/-- Stores a configuration; a changed soft limit clears its noted flag (R2). -/
def Line.configure (l : Line) (c : LineConfig) : Line :=
  { l with
    config := c
    softAgeNoted := if c.softAge = l.config.softAge then l.softAgeNoted else false
    softVolumeNoted := if c.softVolume = l.config.softVolume then l.softVolumeNoted else false }

/-- An OFFLINE line moves to FOUL with its mark set (R2, R11). -/
def leaveOffline (n : Nat) (s : State) : State :=
  if (s.line n).state = .offline then moveLine n .foul (s.modLine n fun l => { l with mark := true }) else s

/-- Handles the KEG cause where an accepted LINE SET has changed the product code (R13). -/
def productChanged (n old : Nat) (s : State) : State :=
  let l := s.line n
  if l.config.product = old then s
  else
    match l.chain with
    | [] => s
    | k :: _ => changeHolds n { l.holds with keg := k.product ≠ l.config.product } s

/-- LINE SET (R2). -/
def decideLineSet (n : Nat) (c : LineConfig) (s : State) : Decision :=
  if 47 < n || !configOk s c then refuse .range s
  else
    let old := (s.line n).config.product
    let s1 := leaveOffline n (s.modLine n fun l => l.configure c)
    let s2 := productChanged n old (recomputeStock n (checkPrime n s1))
    accept (post (.line n) .lineConfig s2)

/-- LINE SET (R2). -/
def execLineSet (tag : Byte) (line : Nat) (config : LineConfig) (s : State) : Result :=
  .next (request .lineSet tag (decideLineSet line config) s)

/-- LINE GET (R3). -/
def decideLineGet (n : Nat) (s : State) : Decision :=
  if 47 < n then refuse .range s else acceptWith (.line (s.line n)) s

/-- LINE GET (R3). -/
def execLineGet (tag : Byte) (line : Nat) (s : State) : Result := .next (request .lineGet tag (decideLineGet line) s)

/-! ### LINE CLEAR (R10) -/

/-- LINE CLEAR applies to a line in one of these states (R10). -/
def ServiceState.clearable : ServiceState → Bool
  | .serving => true
  | .dry => true
  | .rinsed => true
  | .foul => true
  | .offline => false
  | .draining => false
  | .queued => false
  | .cleaning => false
  | .priming => false

/-- Posts the KEG record of every keg of the chain, head first, with cause REMOVED (R10). -/
def removeKegs (n : Nat) (s : State) : State :=
  (s.line n).chain.foldl (fun s k => takeRecord (kegRecord n (s.line n) k .removed) s) s

/-- The line record after LINE CLEAR; a WATCH cause stands (R10, R15). -/
def Line.cleared (l : Line) : Line :=
  { l with
    state := .offline, mark := true, holds := { HoldSet.empty with watch := l.holds.watch }, foamCount := 0,
    foamAlert := false, stock := .normal, lastClean := none, volumeSinceClean := 0, softAgeNoted := false,
    softVolumeNoted := false, cellarDrawn := 0, tapPoured := 0, chain := [] }

/-- Posts a notice where a condition holds. -/
def postIf (b : Bool) (key : NoticeKey) (cause : NoticeCause) (s : State) : State := if b then post key cause s else s

/-- Takes line `n` out of service: the records, the new line record and the notices (R10). R21 names LINE CLEAR among the retirements,
each of which decides the KEG cause and recomputes the stock level, R10 lists the values the line ends with; the model makes the one
net change, and posts HOLD and STOCK only where what the line had differs from what it ends with: its DESIGN CHOICE (assumption 58). -/
def clearLine (n : Nat) (s : State) : State :=
  let l := s.line n
  let s1 := (removeKegs n s).modLine n Line.cleared
  let s2 := postIf (l.holds ≠ (s1.line n).holds) (.line n) .lineHold s1
  let s3 := postIf l.foamAlert (.line n) .lineFoam s2
  let s4 := postIf (l.stock ≠ .normal) (.stock n) .stockNormal s3
  post (.keg n) .kegRemoved (post (.line n) .lineState s4)

/-- LINE CLEAR (R10). -/
def decideLineClear (n : Nat) (s : State) : Decision :=
  if 47 < n then refuse .range s
  else if !(s.line n).state.clearable then refuse .state s
  else if isRouted s n || (s.line n).inFlight ≠ 0 then refuse .lineBusy s
  else accept (clearLine n s)

/-- LINE CLEAR (R10). -/
def execLineClear (tag : Byte) (line : Nat) (s : State) : Result := .next (request .lineClear tag (decideLineClear line) s)

/-! ### LINE HOLD (R12) -/

/-- LINE HOLD APPLY (R12). -/
def decideLineHoldApply (n : Nat) (stop : Bool) (s : State) : Decision :=
  if 47 < n then refuse .range s
  else if (s.line n).state = .offline then refuse .state s
  else
    let s1 := changeHolds n { (s.line n).holds with host := true } s
    let s2 := if stop then stopLine n s1 else s1
    acceptWith (.holds (s2.line n).holds) s2

/-- LINE HOLD APPLY (R12). -/
def execLineHoldApply (tag : Byte) (line : Nat) (stop : Bool) (s : State) : Result :=
  .next (request .lineHold tag (decideLineHoldApply line stop) s)

/-- The hold set without the named HOST, KEG and TEMP causes (R12). -/
def HoldSet.release (h c : HoldSet) : HoldSet :=
  { h with host := h.host && !c.host, keg := h.keg && !c.keg, temp := h.temp && !c.temp }

/-- LINE HOLD RELEASE (R12). -/
def decideLineHoldRelease (n : Nat) (causes : HoldSet) (s : State) : Decision :=
  if 47 < n then refuse .range s
  else if (s.line n).state = .offline || causes.watch || causes.overdue then refuse .state s
  else
    let s1 := changeHolds n (HoldSet.release (s.line n).holds causes) s
    acceptWith (.holds (s1.line n).holds) s1

/-- LINE HOLD RELEASE (R12). -/
def execLineHoldRelease (tag : Byte) (line : Nat) (causes : HoldSet) (s : State) : Result :=
  .next (request .lineHold tag (decideLineHoldRelease line causes) s)

/-! ### Kegs (R18, R19, R21, R3) -/

/-- KEG ADD (R18). -/
def decideKegAdd (n id product nominal : Nat) (hold : Bool) (s : State) : Decision :=
  if 47 < n || id = 0 || !registered s product || nominal < 10000 || 2000000 < nominal then refuse .range s
  else if (s.line n).state = .offline then refuse .state s
  else if Config.chainPlaces ≤ (s.line n).chain.length then refuse .full s
  else if kegHeld s id then refuse .duplicate s
  else
    let coupler := freeCoupler (s.line n).chain
    acceptWith (.coupler coupler)
      (addKeg n { id := id, coupler := coupler, product := product, nominal := nominal, pulses := 0, frozen := 0,
                  poured := 0, holdAfterSwitch := hold } s)

/-- KEG ADD (R18). -/
def execKegAdd (tag : Byte) (line kegId product nominal : Nat) (holdAfterSwitch : Bool) (s : State) : Result :=
  .next (request .kegAdd tag (decideKegAdd line kegId product nominal holdAfterSwitch) s)

/-- Takes the waiting keg `id` out of the chain of line `n` (R19). -/
def removeKeg (n id : Nat) (s : State) : State :=
  post (.keg n) .kegRemoved
    (recomputeStock n (s.modLine n fun l => { l with chain := l.chain.filter fun k => k.id ≠ id }))

/-- KEG REMOVE (R19). -/
def decideKegRemove (n id : Nat) (s : State) : Decision :=
  if 47 < n then refuse .range s
  else if !(s.line n).chain.any fun k => k.id = id then refuse .notFound s
  else if (s.line n).chain.head?.any fun k => k.id = id then refuse .state s
  else accept (removeKeg n id s)

/-- KEG REMOVE (R19). -/
def execKegRemove (tag : Byte) (line kegId : Nat) (s : State) : Result :=
  .next (request .kegRemove tag (decideKegRemove line kegId) s)

/-- KEG SWITCH (R21). -/
def decideKegSwitch (n : Nat) (s : State) : Decision :=
  if 47 < n then refuse .range s
  else if (s.line n).chain.isEmpty then refuse .state s
  else accept (retireHead n .switched s)

/-- KEG SWITCH (R21). -/
def execKegSwitch (tag : Byte) (line : Nat) (s : State) : Result := .next (request .kegSwitch tag (decideKegSwitch line) s)

/-- Each keg of the chain with its drawn volume at the time of the reply (R3). -/
def kegsOf (l : Line) : List (Keg × Nat) := l.chain.map fun k => (k, drawnVolume l.gain k)

/-- KEG LIST (R3). -/
def decideKegList (n : Nat) (s : State) : Decision :=
  if 47 < n then refuse .range s else acceptWith (.kegs (kegsOf (s.line n))) s

/-- KEG LIST (R3). -/
def execKegList (tag : Byte) (line : Nat) (s : State) : Result := .next (request .kegList tag (decideKegList line) s)

/-! ### RETURN TO SERVICE (R9, R196) -/

/-- RETURN TO SERVICE; the reply carries the line's state (R9, R176, R196, assumption 14). -/
def decideReturnToService (n : Nat) (s : State) : Decision :=
  if 47 < n then refuse .range s
  else if (s.line n).state ≠ .rinsed || (s.line n).chain.isEmpty then refuse .state s
  else
    let s1 := moveLine n .priming (s.modLine n fun l => { l with primeProgress := 0 })
    acceptWith (.lineState (s1.line n).state) s1

/-- RETURN TO SERVICE (R9, R196). -/
def execReturnToService (tag : Byte) (line : Nat) (s : State) : Result :=
  .next (request .returnToService tag (decideReturnToService line) s)

end Sys2Proof.Machine
end

