-- ==== Sys2Proof/Machine/Operands.lean ====
section
/-! DEFINITION. The coded operands of the requests: what each code names, by the order in which its rule first names it (sections
11.1 and 11.3). A code or number that names nothing gives `none`, which the owning rule refuses (R175, R192). -/

namespace Sys2Proof.Machine

open Sys2Proof

/-- A circuit code: 0 is A, 1 is B (section 11.1). -/
def circuitOf : Nat → Option Circuit
  | 0 => some .a
  | 1 => some .b
  | _ => none

/-- A map code, A first (section 2.3). -/
def mapOf : Nat → Option MapSel
  | 0 => some .a
  | 1 => some .b
  | _ => none

/-- The route a carried entry names: line 0–47 or 255 for DARK, size set 0–3 (R36, section 11.1). -/
def routeOf (e : RouteEntry) : Option Route :=
  if 3 < e.sizeSet then none
  else if e.line = 255 then some { line := none, portionOnly := e.portionOnly, sizeSet := e.sizeSet }
  else if 47 < e.line then none
  else some { line := some e.line, portionOnly := e.portionOnly, sizeSet := e.sizeSet }

/-- The routes of a run of carried entries; none where one of them names nothing (R36). -/
def routesOf : List RouteEntry → Option (List Route)
  | [] => some []
  | e :: rest =>
    match routeOf e, routesOf rest with
    | some r, some rs => some (r :: rs)
    | _, _ => none

/-- A step kind by its place in the table of section 8.2. -/
def stepKindOf : Nat → Option StepKind
  | 0 => some .purge
  | 1 => some .rinse
  | 2 => some .fill
  | 3 => some .soak
  | 4 => some .circulate
  | 5 => some .pause
  | 6 => some .verify
  | _ => none

/-- A watch target by its kind and number; ALL takes no number (R113, section 11.3). -/
def watchTargetOf (kind number : Nat) : Option WatchTarget :=
  match kind with
  | 0 => if 127 < number then none else some (.tap number)
  | 1 => if 47 < number then none else some (.line number)
  | 2 => if 15 < number then none else some (.bar number)
  | 3 => some .all
  | _ => none

/-- A watch condition by its place in section 6.3. -/
def watchConditionOf : Nat → Option WatchCondition
  | 0 => some .anyPour
  | 1 => some .volumeOver
  | 2 => some .warm
  | 3 => some .foamy
  | 4 => some .shortOrOver
  | _ => none

/-- A watch action by its place in section 6.3. -/
def watchActionOf : Nat → Option WatchAction
  | 0 => some .note
  | 1 => some .hold
  | _ => none

/-- A meter of the part (R123). -/
inductive Meter where
  | tap (n : Nat)
  | line (n : Nat)
  | circuit (c : Circuit)
  deriving DecidableEq, Repr

/-- The meter a kind and a number name (R123, R126). -/
def meterOf (kind number : Nat) : Option Meter :=
  match kind with
  | 0 => if 127 < number then none else some (.tap number)
  | 1 => if 47 < number then none else some (.line number)
  | 2 =>
    match circuitOf number with
    | some c => some (.circuit c)
    | none => none
  | _ => none

/-- A scope of COOLING GET (R143). -/
inductive CoolingScope where
  | trunk (n : Nat)
  | allTrunks
  | chiller
  | surge
  deriving DecidableEq, Repr

/-- The scope a code names, in the order of the table of R143; the trunk number counts for TRUNK alone. -/
def coolingScopeOf (scope trunk : Nat) : Option CoolingScope :=
  match scope with
  | 0 => if 11 < trunk then none else some (.trunk trunk)
  | 1 => some .allTrunks
  | 2 => some .chiller
  | 3 => some .surge
  | _ => none

/-- A scope of TOTALS READ (R105). -/
inductive TotalsScope where
  | tap (n : Nat)
  | product (code : Nat)
  | line (n : Nat)
  deriving DecidableEq, Repr

/-- The scope a code names, in the order in which R105 names them. -/
def totalsScopeOf (scope number : Nat) : Option TotalsScope :=
  match scope with
  | 0 => if 127 < number then none else some (.tap number)
  | 1 => some (.product number)
  | 2 => if 47 < number then none else some (.line number)
  | _ => none

end Sys2Proof.Machine
end

