-- ==== Sys2Proof/Machine/AccountRequests.lean ====
section
/-! DEFINITION. The requests of the Accounting Unit: JOURNAL READ, JOURNAL RELEASE, TOTALS READ, HISTOGRAM READ, TOTALS CLEAR,
RECONCILE, WATCH SET, WATCH CLEAR, WATCH GET, CAL OPEN, CAL WRITE and CAL READ (chapters 5 and 6). -/

namespace Sys2Proof.Machine

open Sys2Proof

/-! ### The journal (R97, R98) -/

/-- The number of the first record a read from `first` returns: the greater of it and the oldest, or the next sequence number where
none is returned (R98). -/
def readFrom (a : Accounts) (first : Nat) : Nat :=
  if a.journal.isEmpty || a.newest < first then a.nextSeq else max first a.oldest

/-- The records a read from `first` returns (R98). -/
def readRecords (a : Accounts) (first : Nat) : List Record :=
  if a.journal.isEmpty || a.newest < first then []
  else (a.journal.drop (max first a.oldest - a.oldest)).take Config.readPlaces

/-- JOURNAL READ (R98). -/
def decideJournalRead (first : Nat) (s : State) : Decision :=
  acceptWith (.records (readFrom s.acct first) (readRecords s.acct first) s.acct.status) s

/-- JOURNAL READ (R98). -/
def execJournalRead (tag : Byte) (first : Nat) (s : State) : Result :=
  .next (request .journalRead tag (decideJournalRead first) s)

/-- Adds a removed POUR record to its tap's released accumulator (R97). -/
def releaseRecord (s : State) (r : Record) : State :=
  match r.body with
  | .pour p => s.modTap p.tap fun t => { t with released := t.released.plus p.volume }
  | .purge _ _ _ _ => s
  | .keg _ _ _ _ _ _ _ _ => s
  | .clean _ _ _ _ _ _ _ _ _ => s
  | .cal _ _ _ _ _ _ _ => s
  | .watch _ _ _ _ _ => s

/-- The journal without its `k` oldest records, and its counts and flags (R97). -/
def Accounts.release (a : Accounts) (k : Nat) : Accounts :=
  let rest := a.journal.drop k
  { a with
    journal := rest
    pourPurge := a.pourPurge - (a.journal.take k).countP fun r => r.body.isPourPurge
    fullNoted := if rest.length < a.journal.length then false else a.fullNoted
    highNoted := if rest.length < Config.highWater then false else a.highNoted }

/-- Removes the `k` oldest records, oldest first (R97). -/
def releaseRecords (k : Nat) (s : State) : State :=
  let s1 := (s.acct.journal.take k).foldl releaseRecord s
  { s1 with acct := s1.acct.release k }

/-- JOURNAL RELEASE; every reply to it carries the journal status, a refusal too (R97, R98, R175). -/
def decideJournalRelease (n : Nat) (s : State) : Decision :=
  if n + 1 < s.acct.oldest || s.acct.newest < n then refuseWith .range (.journalStatus s.acct.status) s
  else
    let k := n + 1 - s.acct.oldest
    let s1 := releaseRecords k s
    acceptWith (.released (s.acct.journal.length - s1.acct.journal.length) s1.acct.status) s1

/-- JOURNAL RELEASE (R97). -/
def execJournalRelease (tag : Byte) (through : Nat) (s : State) : Result :=
  .next (request .journalRelease tag (decideJournalRelease through) s)

/-! ### Totals (R105, R106) -/

/-- TOTALS READ (R105). -/
def decideTotalsRead (scope number : Nat) (s : State) : Decision :=
  match totalsScopeOf scope number with
  | none => refuse .range s
  | some (.tap n) =>
    let t := s.tap n
    acceptWith (.tapTotals t.portion t.free t.prime t.released t.unjournalled) s
  | some (.product c) =>
    match productEntry s c with
    | none => refuse .notFound s
    | some p => acceptWith (.sales p.sales) s
  | some (.line n) => acceptWith (.lineVariance (s.line n).cellarDrawn (s.line n).tapPoured) s

/-- TOTALS READ (R105). -/
def execTotalsRead (tag : Byte) (scope number : Nat) (s : State) : Result :=
  .next (request .totalsRead tag (decideTotalsRead scope number) s)

/-- HISTOGRAM READ (R105). -/
def decideHistogramRead (code : Nat) (s : State) : Decision :=
  match productEntry s code with
  | none => refuse .notFound s
  | some p => acceptWith (.histogram p.histogram) s

/-- HISTOGRAM READ (R105). -/
def execHistogramRead (tag : Byte) (code : Nat) (s : State) : Result :=
  .next (request .histogramRead tag (decideHistogramRead code) s)

/-- A tap record with its totals and accumulators at 0 (R106). -/
def Tap.clearTotals (t : Tap) : Tap :=
  { t with portion := Tally.zero, free := Tally.zero, prime := Tally.zero, released := Tally.zero,
           unjournalled := Tally.zero }

/-- A product entry with its figures at 0 (R106). -/
def Product.clearTotals (p : Product) : Product := { p with sales := Tally.zero, histogram := Vector.replicate 8 0 }

/-- The accounts with the unstored counts at 0 (R106). -/
def Accounts.clearUnstored (a : Accounts) : Accounts :=
  { a with unstoredKeg := 0, unstoredClean := 0, unstoredCal := 0, unstoredWatch := 0 }

/-- Sets every total, accumulator and unstored count to 0 (R106, R157). -/
def clearTotals (s : State) : State :=
  { s with
    pour := { s.pour with taps := s.pour.taps.map Tap.clearTotals }
    cellar := { s.cellar with products := s.cellar.products.map Product.clearTotals }
    acct := s.acct.clearUnstored
    clean := { s.clean with
      circuits := PerCircuit.mk { s.clean.circuits.a with unstoredPurge := 0 } { s.clean.circuits.b with unstoredPurge := 0 } } }

/-- TOTALS CLEAR (R106). -/
def decideTotalsClear (s : State) : Decision :=
  if s.acct.journal.isEmpty then accept (clearTotals s) else refuse .state s

/-- TOTALS CLEAR (R106). -/
def execTotalsClear (tag : Byte) (s : State) : Result := .next (request .totalsClear tag decideTotalsClear s)

/-! ### RECONCILE (R112) -/

/-- Keg id, drawn and poured volume of the head keg, or zeros (R112). -/
def headFigures (l : Line) : Nat × Nat × Nat :=
  match l.chain with
  | [] => (0, 0, 0)
  | k :: _ => (k.id, drawnVolume l.gain k, k.poured)

/-- RECONCILE (R112). -/
def decideReconcile (n : Nat) (s : State) : Decision :=
  if 47 < n then refuse .range s
  else
    let l := s.line n
    let h := headFigures l
    acceptWith (.reconciled n l.cellarDrawn l.tapPoured ((l.cellarDrawn : Int) - l.tapPoured) h.1 h.2.1 h.2.2)
      (s.modLine n fun l => { l with cellarDrawn := 0, tapPoured := 0 })

/-- RECONCILE (R112). -/
def execReconcile (tag : Byte) (line : Nat) (s : State) : Result := .next (request .reconcile tag (decideReconcile line) s)

/-! ### Watches (R113, R118, R119) -/

/-- The armed entry a WATCH SET carries; none where a field is out of its range (R113). -/
def watchOf (e : WatchEntry) : Option Watch :=
  match watchTargetOf e.targetKind e.targetNumber, watchConditionOf e.condition, watchActionOf e.action with
  | some t, some c, some a =>
    if 3947400 < e.threshold then none
    else some { target := t, condition := c, threshold := e.threshold, action := a, state := .armed, count := 0 }
  | _, _, _ => none

/-- WATCH SET (R113). -/
def decideWatchSet (w : Nat) (e : WatchEntry) (s : State) : Decision :=
  if 7 < w then refuse .range s
  else
    match watchOf e with
    | none => refuse .range s
    | some entry => acceptWith (.watch entry) (replaceWatch w entry s)

/-- WATCH SET (R113). -/
def execWatchSet (tag : Byte) (watch : Nat) (entry : WatchEntry) (s : State) : Result :=
  .next (request .watchSet tag (decideWatchSet watch entry) s)

/-- WATCH CLEAR: the entry is OFF and keeps its count (R118). -/
def decideWatchClear (w : Nat) (s : State) : Decision :=
  if 7 < w then refuse .range s
  else
    let entry : Watch := { s.watch w with state := .off }
    acceptWith (.watch entry) (replaceWatch w entry s)

/-- WATCH CLEAR (R118). -/
def execWatchClear (tag : Byte) (watch : Nat) (s : State) : Result :=
  .next (request .watchClear tag (decideWatchClear watch) s)

/-- WATCH GET (R119). -/
def decideWatchGet (w : Option Nat) (s : State) : Decision :=
  match w with
  | none => acceptWith (.watches s.acct.watches) s
  | some n => if 7 < n then refuse .range s else acceptWith (.watch (s.watch n)) s

/-- WATCH GET (R119). -/
def execWatchGet (tag : Byte) (watch : Option Nat) (s : State) : Result :=
  .next (request .watchGet tag (decideWatchGet watch) s)

/-! ### Calibration (R121, R123 to R126) -/

/-- CAL OPEN (R121). R121 says that the reply carries the window and not that a refusal does, so a refusal carries the status alone
(R175), the model's DESIGN CHOICE (assumption 47). -/
def decideCalOpen (s : State) : Decision :=
  if !s.pins.calSwitch then refuse .locked s
  else if s.acct.window.isOpen then refuse .state s
  else
    let w : Window := { isOpen := true, remaining := Config.windowRequests, openTime := 0 }
    let s1 := { s with acct := { s.acct with window := w } }
    acceptWith (.window (windowView s1)) s1

/-- CAL OPEN (R121). -/
def execCalOpen (tag : Byte) (s : State) : Result := .next (request .calOpen tag decideCalOpen s)

/-- Gain, offset and, for a tap meter, learned overrun of a meter; a line meter's offset is fixed at 0 (R125, R126). -/
def meterFigures (s : State) : Meter → Nat × Nat × Option Nat
  | .tap n => ((s.tap n).gain, (s.tap n).offset, some (s.tap n).overrun)
  | .line n => ((s.line n).gain, 0, none)
  | .circuit c => ((s.circuit c).gain, (s.circuit c).offset, none)

/-- The number of a circuit's meter (R123). -/
def circuitNumber : Circuit → Nat
  | .a => 0
  | .b => 1

/-- The head keg's drawn volume is frozen and its pulse count set to 0 (R20). -/
def freezeHead (gain : Nat) : List Keg → List Keg
  | [] => []
  | k :: rest => { k with frozen := drawnVolume gain k, pulses := 0 } :: rest

/-- The owner applies an accepted CAL WRITE (R124, R125). -/
def applyCal (m : Meter) (gain offset : Nat) (rReset : Bool) (s : State) : State :=
  match m with
  | .tap n =>
    recomputeThreshold (nodeOfTap n) (s.modTap n fun t =>
      { t with gain := gain, offset := offset, overrun := if rReset then 0 else t.overrun })
  | .line n => s.modLine n fun l => { l with chain := freezeHead l.gain l.chain, gain := gain }
  | .circuit c => s.modCircuit c fun r => { r with gain := gain, offset := offset }

/-- The CAL record of an accepted CAL WRITE (R96, R123, R125). -/
def calRecord (s : State) (m : Meter) (gain offset : Nat) (rReset : Bool) : RecordBody :=
  let old := meterFigures s m
  match m with
  | .tap n => .cal .tap n old.1 gain old.2.1 offset rReset
  | .line n => .cal .line n old.1 gain 0 0 false
  | .circuit c => .cal .circuit (circuitNumber c) old.1 gain old.2.1 offset false

/-- The owner's refusal of a CAL WRITE (R123 checks 4 and 5). -/
def calRefusal (s : State) : Meter → Option Status
  | .tap n => if (s.tap n).pour.isSome then some .tapBusy else none
  | .line _ => none
  | .circuit c => if (s.circuit c).state ≠ .idle then some .state else none

/-- CAL WRITE (R123). -/
def decideCalWrite (kind number gain offset : Nat) (rReset : Bool) (s : State) : Decision :=
  if !s.acct.window.isOpen then refuse .locked s
  else
    match meterOf kind number with
    | none => refuse .range s
    | some m =>
      if gain < 500 || 60000 < gain || 255 < offset then refuse .range s
      else
        match calRefusal s m with
        | some status => refuse status s
        | none =>
          let s1 := takeRecord (calRecord s m gain offset rReset) (applyCal m gain offset rReset s)
          let f := meterFigures s1 m
          acceptWith (.meter f.1 f.2.1 f.2.2) s1

/-- CAL WRITE (R123). -/
def execCalWrite (tag : Byte) (meter number gain offset : Nat) (rReset : Bool) (s : State) : Result :=
  .next (request .calWrite tag (decideCalWrite meter number gain offset rReset) s)

/-- CAL READ (R126). -/
def decideCalRead (kind number : Nat) (s : State) : Decision :=
  match meterOf kind number with
  | none => refuse .range s
  | some m =>
    let f := meterFigures s m
    acceptWith (.meterAndWindow f.1 f.2.1 f.2.2 (windowView s)) s

/-- CAL READ (R126). -/
def execCalRead (tag : Byte) (meter number : Nat) (s : State) : Result :=
  .next (request .calRead tag (decideCalRead meter number) s)

end Sys2Proof.Machine
end

