-- ==== Sys2Proof/Machine/Bodies.lean ====
section
/-! DEFINITION. The bodies of the host requests: how the part reads the bytes of a body as the fields its rule lists (R175, R192), and
the body a host sends for each request. Where chapter 11 leaves a width or an order open, assumption 17 names the choice. -/

namespace Sys2Proof.Machine

open Sys2Proof

/-! ### Kinds (section 11.2) -/

/-- Every request kind, in the order of section 11.2. -/
def allKinds : List RequestKind :=
  [.status, .noticePace, .timeSet, .timeGet, .restart, .factoryClear, .productSet, .lineSet, .lineGet, .lineClear, .lineHold,
   .kegAdd, .kegRemove, .kegSwitch, .kegList, .tapSet, .tapGet, .sizeSet, .freeLimits, .routeWrite, .routeRead, .routeSwap,
   .routeCheck, .barState]
  ++ [.trunkSet, .chillerSet, .surgeAdd, .surgeRemove, .coolingGet, .programLoad, .programRead, .cleanRequest, .cleanWithdraw,
   .cleanStop, .cleanContinue, .cleanAbort, .circuitGet, .returnToService, .journalRead, .journalRelease, .totalsRead,
   .histogramRead, .totalsClear, .reconcile, .watchSet, .watchClear, .watchGet, .calOpen, .calWrite, .calRead]

/-- The request a kind code names; none where it names no request (R175, section 11.2). -/
def kindOfCode (b : Byte) : Option RequestKind := allKinds.find? fun k => kindCode k = b

/-! ### Fields read (section 11.1) -/

/-- A flag byte read: bit 0; the other bits are not defined and are ignored (R192, assumption 5). -/
def flagOf (v : Nat) : Bool := v % 2 = 1

/-- A hold set read from its byte (section 11.1). -/
def holdsOf (v : Nat) : HoldSet :=
  { host := v.testBit 0, keg := v.testBit 1, temp := v.testBit 2, watch := v.testBit 3, overdue := v.testBit 4 }

/-- The byte of a hold set (section 11.1). -/
def holdsByte (h : HoldSet) : Nat :=
  h.host.toNat + 2 * h.keg.toNat + 4 * h.temp.toNat + 8 * h.watch.toNat + 16 * h.overdue.toNat

/-- The value, where no byte of the body is left over (R175). -/
def atEnd {α : Type} (x : α) (rest : List Byte) : Option α := if rest.isEmpty then some x else none

/-- One field of one byte and the end of the body. -/
def readOne {α : Type} (f : Nat → α) (b : List Byte) : Option α := do
  let (x, b) ← readField 1 b
  atEnd (f x) b

/-- A product label: its 16 bytes (section 11.1). -/
def readLabel (b : List Byte) : Option (Label × List Byte) :=
  if b.length < 16 then none else some (Vector.ofFn fun i => (b[i.val]?).getD 0, b.drop 16)

/-- One portion size: target and tolerance (R45). The 3 bytes of target and tolerance, those of a volume per pour, are the model's DESIGN CHOICE
(R192, assumption 59). -/
def readSize (b : List Byte) : Option (Size × List Byte) := do
  let (t, b) ← readField 3 b
  let (o, b) ← readField 3 b
  return ({ target := t, tolerance := o }, b)

/-- Four portion sizes (R45). -/
def readSizes (b : List Byte) : Option (SizeSet × List Byte) := do
  let (w, b) ← readSize b
  let (x, b) ← readSize b
  let (y, b) ← readSize b
  let (z, b) ← readSize b
  return (#v[w, x, y, z], b)

/-- A count of route entries (R36). -/
def readRoutes : Nat → List Byte → Option (List RouteEntry × List Byte)
  | 0, b => some ([], b)
  | k + 1, b => do
    let (l, b) ← readField 1 b
    let (p, b) ← readField 1 b
    let (z, b) ← readField 1 b
    let (es, b) ← readRoutes k b
    return ({ line := l, portionOnly := flagOf p, sizeSet := z } :: es, b)

/-- A count of program steps (R149). -/
def readSteps : Nat → List Byte → Option (List StepEntry × List Byte)
  | 0, b => some ([], b)
  | k + 1, b => do
    let (kind, b) ← readField 1 b
    let (amount, b) ← readField 4 b
    let (limit, b) ← readField 4 b
    let (n, b) ← readField 1 b
    let (es, b) ← readSteps k b
    return ({ kind := kind, amount := amount, limit := limit, notify := flagOf n } :: es, b)

/-- The fields of a LINE SET after its line number (R2). -/
def readConfig (b : List Byte) : Option (LineConfig × List Byte) := do
  let (trunk, b) ← readField 1 b
  let (product, b) ← readField 1 b
  let (fill, b) ← readField 4 b
  let (margin, b) ← readField 4 b
  let (serve, b) ← readField 2 b
  let (hard, b) ← readField 2 b
  let (low, b) ← readField 4 b
  let (critical, b) ← readField 4 b
  let (ration, b) ← readField 1 b
  let (softAge, b) ← readField 2 b
  let (hardAge, b) ← readField 2 b
  let (softVolume, b) ← readField 4 b
  let (hardVolume, b) ← readField 4 b
  return ({ trunk := trunk, product := product, fillVolume := fill, primeMargin := margin, serveLimit := signedValue 2 serve,
            hardLimit := signedValue 2 hard, lowThreshold := low, criticalThreshold := critical, ration := flagOf ration,
            softAge := softAge, hardAge := hardAge, softVolume := softVolume, hardVolume := hardVolume }, b)

/-! ### Bodies read (R175) -/

/-- The body of a PRODUCT SET: operation, code, label (R1). -/
def readProductSet (tag : Byte) (b : List Byte) : Option (Option Instr) := do
  let (op, b) ← readField 1 b
  let (code, b) ← readField 1 b
  let (label, b) ← readLabel b
  atEnd (match op with
    | 0 => some (.productRegister tag code label)
    | 1 => some (.productRemove tag code)
    | 2 => some (.productRead tag code)
    | _ => none) b

/-- The body of a LINE SET (R2). -/
def readLineSet (tag : Byte) (b : List Byte) : Option (Option Instr) := do
  let (n, b) ← readField 1 b
  let (c, b) ← readConfig b
  atEnd (some (.lineSet tag n c)) b

/-- The body of a LINE HOLD: operation, line, stop option, causes (R12). -/
def readLineHold (tag : Byte) (b : List Byte) : Option (Option Instr) := do
  let (op, b) ← readField 1 b
  let (n, b) ← readField 1 b
  let (stop, b) ← readField 1 b
  let (causes, b) ← readField 1 b
  atEnd (match op with
    | 0 => some (.lineHoldApply tag n (flagOf stop))
    | 1 => some (.lineHoldRelease tag n (holdsOf causes))
    | _ => none) b

/-- The body of a KEG ADD (R18). -/
def readKegAdd (tag : Byte) (b : List Byte) : Option (Option Instr) := do
  let (n, b) ← readField 1 b
  let (id, b) ← readField 4 b
  let (product, b) ← readField 1 b
  let (nominal, b) ← readField 3 b
  let (hold, b) ← readField 1 b
  atEnd (some (.kegAdd tag n id product nominal (flagOf hold))) b

/-- The body of a KEG REMOVE (R19). -/
def readKegRemove (tag : Byte) (b : List Byte) : Option (Option Instr) := do
  let (n, b) ← readField 1 b
  let (id, b) ← readField 4 b
  atEnd (some (.kegRemove tag n id)) b

/-- The body of a TAP SET: operation, tap, bar (R30). -/
def readTapSet (tag : Byte) (b : List Byte) : Option (Option Instr) := do
  let (op, b) ← readField 1 b
  let (t, b) ← readField 1 b
  let (bar, b) ← readField 1 b
  atEnd (match op with
    | 0 => some (.tapSetAssign tag t bar)
    | 1 => some (.tapSetUnassign tag t bar)
    | 2 => some (.tapSetCloseOrphan tag t bar)
    | _ => none) b

/-- The body of a SIZE SET: operation, set, four sizes (R45). -/
def readSizeSet (tag : Byte) (b : List Byte) : Option (Option Instr) := do
  let (op, b) ← readField 1 b
  let (n, b) ← readField 1 b
  let (sizes, b) ← readSizes b
  atEnd (match op with
    | 0 => some (.sizeSetWrite tag n sizes)
    | 1 => some (.sizeSetRead tag n)
    | _ => none) b

/-- The body of a FREE LIMITS: operation, volume limit, time limit, foam threshold (R50). -/
def readFreeLimits (tag : Byte) (b : List Byte) : Option (Option Instr) := do
  let (op, b) ← readField 1 b
  let (vfree, b) ← readField 4 b
  let (seconds, b) ← readField 1 b
  let (foam, b) ← readField 2 b
  atEnd (match op with
    | 0 => some (.freeLimitsWrite tag vfree seconds foam)
    | 1 => some (.freeLimitsRead tag)
    | _ => none) b

/-- The body of a ROUTE WRITE: map, first tap, count, entries (R36). -/
def readRouteWrite (tag : Byte) (b : List Byte) : Option (Option Instr) := do
  let (m, b) ← readField 1 b
  let (first, b) ← readField 1 b
  let (count, b) ← readField 2 b
  let (es, b) ← readRoutes count b
  atEnd (some (.routeWrite tag m first es)) b

/-- The body of a ROUTE READ: map, first tap, count (R37). -/
def readRouteRead (tag : Byte) (b : List Byte) : Option (Option Instr) := do
  let (m, b) ← readField 1 b
  let (first, b) ← readField 1 b
  let (count, b) ← readField 2 b
  atEnd (some (.routeRead tag m first count)) b

/-- The body of a BAR STATE: operation, mask (R44). -/
def readBarState (tag : Byte) (b : List Byte) : Option (Option Instr) := do
  let (op, b) ← readField 1 b
  let (mask, b) ← readField 2 b
  atEnd (match op with
    | 0 => some (.barStateSet tag (BitVec.ofNat 16 mask))
    | 1 => some (.barStateClear tag (BitVec.ofNat 16 mask))
    | 2 => some (.barStateToggle tag (BitVec.ofNat 16 mask))
    | _ => none) b

/-- The body of a TRUNK SET (R127). -/
def readTrunkSet (tag : Byte) (b : List Byte) : Option (Option Instr) := do
  let (n, b) ← readField 1 b
  let (setpoint, b) ← readField 2 b
  let (kp, b) ← readField 1 b
  let (cls, b) ← readField 1 b
  let (alarm, b) ← readField 2 b
  atEnd (some (.trunkSet tag n (signedValue 2 setpoint) kp cls (signedValue 2 alarm))) b

/-- The body of a CHILLER SET (R136). -/
def readChillerSet (tag : Byte) (b : List Byte) : Option (Option Instr) := do
  let (count, b) ← readField 2 b
  let (points, b) ← readField 2 b
  atEnd (some (.chillerSet tag count points)) b

/-- The body of a SURGE ADD (R133). -/
def readSurgeAdd (tag : Byte) (b : List Byte) : Option (Option Instr) := do
  let (start, b) ← readField 4 b
  let (duration, b) ← readField 2 b
  let (lead, b) ← readField 2 b
  let (boost, b) ← readField 1 b
  atEnd (some (.surgeAdd tag start duration lead boost)) b

/-- The body of a COOLING GET: scope, trunk number (R143). -/
def readCoolingGet (tag : Byte) (b : List Byte) : Option (Option Instr) := do
  let (scope, b) ← readField 1 b
  let (n, b) ← readField 1 b
  atEnd (some (.coolingGet tag scope n)) b

/-- The body of a PROGRAM LOAD: program, rinse threshold, step count, steps (R149). -/
def readProgramLoad (tag : Byte) (b : List Byte) : Option (Option Instr) := do
  let (p, b) ← readField 1 b
  let (threshold, b) ← readField 2 b
  let (count, b) ← readField 2 b
  let (es, b) ← readSteps count b
  atEnd (some (.programLoad tag p threshold es)) b

/-- The body of a CLEAN REQUEST (R152). -/
def readCleanRequest (tag : Byte) (b : List Byte) : Option (Option Instr) := do
  let (n, b) ← readField 1 b
  let (p, b) ← readField 1 b
  atEnd (some (.cleanRequest tag n p)) b

/-- The body of a TOTALS READ: scope, number (R105). -/
def readTotalsRead (tag : Byte) (b : List Byte) : Option (Option Instr) := do
  let (scope, b) ← readField 1 b
  let (n, b) ← readField 1 b
  atEnd (some (.totalsRead tag scope n)) b

/-- The body of a WATCH SET: watch, target kind and number, condition, threshold, action (R113). -/
def readWatchSet (tag : Byte) (b : List Byte) : Option (Option Instr) := do
  let (w, b) ← readField 1 b
  let (tk, b) ← readField 1 b
  let (tn, b) ← readField 1 b
  let (condition, b) ← readField 1 b
  let (threshold, b) ← readField 4 b
  let (action, b) ← readField 1 b
  atEnd (some (.watchSet tag w { targetKind := tk, targetNumber := tn, condition := condition, threshold := threshold,
                                 action := action })) b

/-- The body of a WATCH GET: a presence byte and the watch number (R119, R192). -/
def readWatchGet (tag : Byte) (b : List Byte) : Option (Option Instr) := do
  let (present, b) ← readField 1 b
  let (w, b) ← readField 1 b
  atEnd (some (.watchGet tag (if flagOf present then some w else none))) b

/-- The body of a NOTICE PACE: a presence byte and the pace (R179, R192). -/
def readNoticePace (tag : Byte) (b : List Byte) : Option (Option Instr) := do
  let (present, b) ← readField 1 b
  let (pace, b) ← readField 2 b
  atEnd (some (.noticePace tag (if flagOf present then some pace else none))) b

/-- The body of a CAL WRITE (R123). -/
def readCalWrite (tag : Byte) (b : List Byte) : Option (Option Instr) := do
  let (kind, b) ← readField 1 b
  let (n, b) ← readField 1 b
  let (gain, b) ← readField 2 b
  let (offset, b) ← readField 2 b
  let (r, b) ← readField 1 b
  atEnd (some (.calWrite tag kind n gain offset (flagOf r))) b

/-- The body of a CAL READ: meter kind, number (R126). -/
def readCalRead (tag : Byte) (b : List Byte) : Option (Option Instr) := do
  let (kind, b) ← readField 1 b
  let (n, b) ← readField 1 b
  atEnd (some (.calRead tag kind n)) b

/-- A body of one field of four bytes. -/
def readFour (f : Nat → Instr) (b : List Byte) : Option (Option Instr) := do
  let (x, b) ← readField 4 b
  atEnd (some (f x)) b

/-- The request a body spells for its kind: `none` where the body does not match the kind (FORMAT), `some none` where its
operation code is not defined (RANGE) (R175, R192). -/
def readRequest (k : RequestKind) (tag : Byte) (b : List Byte) : Option (Option Instr) :=
  match k with
  | .status => atEnd (some (.status tag)) b
  | .noticePace => readNoticePace tag b
  | .timeSet => readFour (.timeSet tag) b
  | .timeGet => atEnd (some (.timeGet tag)) b
  | .restart => atEnd (some (.restart tag)) b
  | .factoryClear => atEnd (some (.factoryClear tag)) b
  | .productSet => readProductSet tag b
  | .lineSet => readLineSet tag b
  | .lineGet => readOne (fun n => some (.lineGet tag n)) b
  | .lineClear => readOne (fun n => some (.lineClear tag n)) b
  | .lineHold => readLineHold tag b
  | .kegAdd => readKegAdd tag b
  | .kegRemove => readKegRemove tag b
  | .kegSwitch => readOne (fun n => some (.kegSwitch tag n)) b
  | .kegList => readOne (fun n => some (.kegList tag n)) b
  | .tapSet => readTapSet tag b
  | .tapGet => readOne (fun n => some (.tapGet tag n)) b
  | .sizeSet => readSizeSet tag b
  | .freeLimits => readFreeLimits tag b
  | .routeWrite => readRouteWrite tag b
  | .routeRead => readRouteRead tag b
  | .routeSwap => atEnd (some (.routeSwap tag)) b
  | .routeCheck => readOne (fun n => some (.routeCheck tag n)) b
  | .barState => readBarState tag b
  | .trunkSet => readTrunkSet tag b
  | .chillerSet => readChillerSet tag b
  | .surgeAdd => readSurgeAdd tag b
  | .surgeRemove => readFour (.surgeRemove tag) b
  | .coolingGet => readCoolingGet tag b
  | .programLoad => readProgramLoad tag b
  | .programRead => readOne (fun n => some (.programRead tag n)) b
  | .cleanRequest => readCleanRequest tag b
  | .cleanWithdraw => readOne (fun n => some (.cleanWithdraw tag n)) b
  | .cleanStop => readOne (fun n => some (.cleanStop tag n)) b
  | .cleanContinue => readOne (fun n => some (.cleanContinue tag n)) b
  | .cleanAbort => readOne (fun n => some (.cleanAbort tag n)) b
  | .circuitGet => readOne (fun n => some (.circuitGet tag n)) b
  | .returnToService => readOne (fun n => some (.returnToService tag n)) b
  | .journalRead => readFour (.journalRead tag) b
  | .journalRelease => readFour (.journalRelease tag) b
  | .totalsRead => readTotalsRead tag b
  | .histogramRead => readOne (fun n => some (.histogramRead tag n)) b
  | .totalsClear => atEnd (some (.totalsClear tag)) b
  | .reconcile => readOne (fun n => some (.reconcile tag n)) b
  | .watchSet => readWatchSet tag b
  | .watchClear => readOne (fun n => some (.watchClear tag n)) b
  | .watchGet => readWatchGet tag b
  | .calOpen => atEnd (some (.calOpen tag)) b
  | .calWrite => readCalWrite tag b
  | .calRead => readCalRead tag b

/-! ### Bodies sent by a host (R192) -/

/-- The bytes of a portion size (R45). The 3 bytes of target and tolerance, those of a volume per pour, are the model's DESIGN CHOICE
(R192, assumption 59). -/
def sizeField (z : Size) : List Byte := field 3 z.target ++ field 3 z.tolerance

/-- The bytes of a carried route entry (R36). -/
def entryField (e : RouteEntry) : List Byte := field 1 e.line ++ flagField e.portionOnly ++ field 1 e.sizeSet

/-- The bytes of a carried program step (R149). -/
def stepField (e : StepEntry) : List Byte := field 1 e.kind ++ field 4 e.amount ++ field 4 e.limit ++ flagField e.notify

/-- A line's configuration from the trunk to the ration flag (section 1.1). -/
def limitsField (c : LineConfig) : List Byte :=
  field 1 c.trunk ++ field 1 c.product ++ field 4 c.fillVolume ++ field 4 c.primeMargin ++ signedField 2 c.serveLimit
    ++ signedField 2 c.hardLimit ++ field 4 c.lowThreshold ++ field 4 c.criticalThreshold ++ flagField c.ration

/-- A line's cleaning-due limits (section 1.1). -/
def cleaningDueField (c : LineConfig) : List Byte :=
  field 2 c.softAge ++ field 2 c.hardAge ++ field 4 c.softVolume ++ field 4 c.hardVolume

/-- The bytes of a line's configuration (R2). -/
def configField (c : LineConfig) : List Byte := limitsField c ++ cleaningDueField c

/-- An optional field of `width` bytes, preceded by its presence byte, zeros following where it is absent (R192). -/
def optionalField (width : Nat) (x : Option Nat) : List Byte := flagField x.isSome ++ field width (x.getD 0)

/-- A label of 16 zero bytes, sent where an operation carries none. -/
def blankLabel : Label := Vector.replicate 16 0

/-- The bytes of four portion sizes (R45). -/
def sizesField (z : SizeSet) : List Byte := z.toList.flatMap sizeField

/-- Four undefined sizes, sent where an operation carries none. -/
def blankSizes : SizeSet := Vector.replicate 4 coldSize

/-- The kind and body a host sends for a request; none for a command that is no request (R192, assumption 17). -/
def encodeRequest : Instr → Option (RequestKind × List Byte)
  | .status _ => some (.status, [])
  | .noticePace _ p => some (.noticePace, optionalField 2 p)
  | .timeSet _ r => some (.timeSet, field 4 r)
  | .timeGet _ => some (.timeGet, [])
  | .restart _ => some (.restart, [])
  | .factoryClear _ => some (.factoryClear, [])
  | .productRegister _ c l => some (.productSet, field 1 0 ++ field 1 c ++ l.toList)
  | .productRemove _ c => some (.productSet, field 1 1 ++ field 1 c ++ blankLabel.toList)
  | .productRead _ c => some (.productSet, field 1 2 ++ field 1 c ++ blankLabel.toList)
  | .lineSet _ n c => some (.lineSet, field 1 n ++ configField c)
  | .lineGet _ n => some (.lineGet, field 1 n)
  | .lineClear _ n => some (.lineClear, field 1 n)
  | .lineHoldApply _ n st => some (.lineHold, field 1 0 ++ field 1 n ++ flagField st ++ field 1 0)
  | .lineHoldRelease _ n h => some (.lineHold, field 1 1 ++ field 1 n ++ flagField false ++ field 1 (holdsByte h))
  | .kegAdd _ n id p v h => some (.kegAdd, field 1 n ++ field 4 id ++ field 1 p ++ field 3 v ++ flagField h)
  | .kegRemove _ n id => some (.kegRemove, field 1 n ++ field 4 id)
  | .kegSwitch _ n => some (.kegSwitch, field 1 n)
  | .kegList _ n => some (.kegList, field 1 n)
  | .tapSetAssign _ t b => some (.tapSet, field 1 0 ++ field 1 t ++ field 1 b)
  | .tapSetUnassign _ t b => some (.tapSet, field 1 1 ++ field 1 t ++ field 1 b)
  | .tapSetCloseOrphan _ t b => some (.tapSet, field 1 2 ++ field 1 t ++ field 1 b)
  | .tapGet _ t => some (.tapGet, field 1 t)
  | .sizeSetWrite _ n z => some (.sizeSet, field 1 0 ++ field 1 n ++ sizesField z)
  | .sizeSetRead _ n => some (.sizeSet, field 1 1 ++ field 1 n ++ sizesField blankSizes)
  | .freeLimitsWrite _ v t f => some (.freeLimits, field 1 0 ++ field 4 v ++ field 1 t ++ field 2 f)
  | .freeLimitsRead _ => some (.freeLimits, field 1 1 ++ field 4 0 ++ field 1 0 ++ field 2 0)
  | .routeWrite _ m f es => some (.routeWrite, field 1 m ++ field 1 f ++ field 2 es.length ++ es.flatMap entryField)
  | .routeRead _ m f c => some (.routeRead, field 1 m ++ field 1 f ++ field 2 c)
  | .routeSwap _ => some (.routeSwap, [])
  | .routeCheck _ t => some (.routeCheck, field 1 t)
  | .barStateSet _ m => some (.barState, field 1 0 ++ field 2 m.toNat)
  | .barStateClear _ m => some (.barState, field 1 1 ++ field 2 m.toNat)
  | .barStateToggle _ m => some (.barState, field 1 2 ++ field 2 m.toNat)
  | .trunkSet _ n sp k c a => some (.trunkSet, field 1 n ++ signedField 2 sp ++ field 1 k ++ field 1 c ++ signedField 2 a)
  | .chillerSet _ c p => some (.chillerSet, field 2 c ++ field 2 p)
  | .surgeAdd _ st d l b => some (.surgeAdd, field 4 st ++ field 2 d ++ field 2 l ++ field 1 b)
  | .surgeRemove _ st => some (.surgeRemove, field 4 st)
  | .coolingGet _ sc n => some (.coolingGet, field 1 sc ++ field 1 n)
  | .programLoad _ p th es =>
    some (.programLoad, field 1 p ++ field 2 th ++ field 2 es.length ++ es.flatMap stepField)
  | .programRead _ p => some (.programRead, field 1 p)
  | .cleanRequest _ n p => some (.cleanRequest, field 1 n ++ field 1 p)
  | .cleanWithdraw _ n => some (.cleanWithdraw, field 1 n)
  | .cleanStop _ c => some (.cleanStop, field 1 c)
  | .cleanContinue _ c => some (.cleanContinue, field 1 c)
  | .cleanAbort _ c => some (.cleanAbort, field 1 c)
  | .circuitGet _ c => some (.circuitGet, field 1 c)
  | .returnToService _ n => some (.returnToService, field 1 n)
  | .journalRead _ n => some (.journalRead, field 4 n)
  | .journalRelease _ n => some (.journalRelease, field 4 n)
  | .totalsRead _ sc n => some (.totalsRead, field 1 sc ++ field 1 n)
  | .histogramRead _ c => some (.histogramRead, field 1 c)
  | .totalsClear _ => some (.totalsClear, [])
  | .reconcile _ n => some (.reconcile, field 1 n)
  | .watchSet _ w e =>
    some (.watchSet, field 1 w ++ field 1 e.targetKind ++ field 1 e.targetNumber ++ field 1 e.condition
      ++ field 4 e.threshold ++ field 1 e.action)
  | .watchClear _ w => some (.watchClear, field 1 w)
  | .watchGet _ w => some (.watchGet, optionalField 1 w)
  | .calOpen _ => some (.calOpen, [])
  | .calWrite _ k n g o r => some (.calWrite, field 1 k ++ field 1 n ++ field 2 g ++ field 2 o ++ flagField r)
  | .calRead _ k n => some (.calRead, field 1 k ++ field 1 n)
  | .unknownRequest _ _ _ => none
  | .busyReply _ _ _ => none
  | .frameDiscarded _ => none
  | .interByteTimeout => none
  | .startMarkerReceived => none
  | .replyTransmitted _ => none
  | .noticeTransmitted => none
  | .noticePaceWaitEnd => none
  | .clockSecond => none
  | .cleaningDueAgeCheck => none
  | .mainPowerFail => none
  | .backupSupplyBelowMinimum => none
  | .powerUp _ _ => none
  | .resetAsserted => none
  | .resetReleased _ => none
  | .replyWindowExpiry => none
  | .replyByteGapTimeout => none
  | .replyFormatBroken => none
  | .replyReceived _ => none
  | .emptyRoundExpiry => none
  | .foamOnBeerTrip _ => none
  | .detectorRearm _ => none
  | .cellarMeterPulse _ => none
  | .sensorSample _ _ => none
  | .alarmTimerExpiry _ => none
  | .releaseTimerExpiry _ => none
  | .controlPeriodExpiry => none
  | .dutyWindowStart => none
  | .valveDutyExpiry _ => none
  | .stageFault _ => none
  | .stageRestored _ => none
  | .circuitMeterPulse _ => none
  | .conductivityReading _ _ => none
  | .supplyLow _ _ _ => none
  | .flowTimerExpiry _ => none
  | .timedStepExpiry _ => none
  | .calSwitchOff _ => none
  | .calWindowTimeout => none

end Sys2Proof.Machine
end

