-- ==== Sys2Proof/Machine/CleaningRequests.lean ====
section
/-! DEFINITION. The requests of the Cleaning Sequencer: PROGRAM LOAD, PROGRAM READ, CLEAN REQUEST, CLEAN WITHDRAW, CLEAN STOP, CLEAN
CONTINUE, CLEAN ABORT and CIRCUIT GET (chapter 8). -/

namespace Sys2Proof.Machine

open Sys2Proof

/-! ### Programs (R149, R150) -/

/-- The amounts of a step are in their ranges (R149 check 2, section 8.2). -/
def amountsOk (k : StepKind) (amount limit : Nat) : Bool :=
  match k with
  | .purge => 1000 ≤ amount && amount ≤ 1000000
  | .rinse => 1000 ≤ amount && amount ≤ 1000000
  | .fill => 1000 ≤ amount && amount ≤ 1000000
  | .soak => 1 ≤ amount && amount ≤ 3600
  | .circulate => 1 ≤ amount && amount ≤ 3600
  | .pause => amount = 0 && limit = 0
  | .verify => (1000 ≤ amount && amount ≤ 200000) && (1000 ≤ limit && limit ≤ 2000000) && amount < limit

/-- The step a carried entry stands for; a limit is kept for a VERIFY alone (assumption 16). -/
def stepOf (e : StepEntry) : Option Step :=
  match stepKindOf e.kind with
  | none => none
  | some k =>
    if amountsOk k e.amount e.limit then
      some { kind := k, amount := e.amount, limit := if k = .verify then e.limit else 0, notify := e.notify }
    else none

/-- The steps a list of entries stands for; none where one of them is invalid (R149 check 2). -/
def stepsOf : List StepEntry → Option (List Step)
  | [] => some []
  | e :: rest =>
    match stepOf e, stepsOf rest with
    | some st, some sts => some (st :: sts)
    | _, _ => none

/-- Every FILL step is followed, later in the list, by a VERIFY step (R149 check 3). -/
def fillsVerified : List Step → Bool
  | [] => true
  | st :: rest => (st.kind ≠ .fill || rest.any fun x => x.kind = .verify) && fillsVerified rest

/-- The program a PROGRAM LOAD carries; none where checks 2 and 3 refuse it (R149). -/
def programOf (threshold : Nat) (entries : List StepEntry) : Option Program :=
  match stepsOf entries with
  | none => none
  | some steps =>
    if steps.isEmpty || 16 < steps.length || threshold < 10 || 5000 < threshold || !fillsVerified steps then none
    else some { threshold := threshold, steps := steps }

/-- A circuit that is not IDLE runs program `p`, or an entry of the queue names it (R149 check 4). -/
def programInUse (s : State) (p : Nat) : Bool :=
  ((s.circuit .a).state ≠ .idle && (s.circuit .a).program = some p)
    || ((s.circuit .b).state ≠ .idle && (s.circuit .b).program = some p)
    || s.clean.queue.any fun e => e.program = p

/-- PROGRAM LOAD (R149). -/
def decideProgramLoad (p threshold : Nat) (entries : List StepEntry) (s : State) : Decision :=
  if 7 < p then refuse .range s
  else
    match programOf threshold entries with
    | none => refuse .invalidProgram s
    | some g =>
      if programInUse s p then refuse .state s
      else
        acceptWith (.program (some g))
          { s with clean := { s.clean with programs := s.clean.programs.setIfInBounds p (some g) } }

/-- PROGRAM LOAD (R149). -/
def execProgramLoad (tag : Byte) (program threshold : Nat) (steps : List StepEntry) (s : State) : Result :=
  .next (request .programLoad tag (decideProgramLoad program threshold steps) s)

/-- PROGRAM READ (R150). -/
def decideProgramRead (p : Nat) (s : State) : Decision :=
  if 7 < p then refuse .range s else acceptWith (.program (s.programSlot p)) s

/-- PROGRAM READ (R150). -/
def execProgramRead (tag : Byte) (program : Nat) (s : State) : Result :=
  .next (request .programRead tag (decideProgramRead program) s)

/-! ### The clean queue (R152, R154) -/

/-- Line `n` has an entry in the clean queue. -/
def isQueued (s : State) (n : Nat) : Bool := s.clean.queue.any fun e => e.line = n

/-- The program holds a VERIFY step (R152). -/
def Program.verifies (g : Program) : Bool := g.steps.any fun st => st.kind = .verify

/-- The first failing check of a CLEAN REQUEST (R152). -/
def cleanRefusal (s : State) (n p : Nat) : Option Status :=
  if 47 < n || 7 < p then some .range
  else if (s.line n).state = .offline then some .state
  else if isQueued s n || (s.line n).state = .cleaning then some .duplicate
  else
    match s.programSlot p with
    | none => some .notFound
    | some g => if (s.line n).mark && !g.verifies then some .programCannotClear else none

/-- Adds the entry, moves the line to DRAINING with its pre-drain state recorded, and evaluates the drain condition (R5, R152). -/
def queueLine (n p : Nat) (s : State) : State :=
  let e : QueueEntry := { line := n, program := p, ready := false }
  let s1 := { s with clean := { s.clean with queue := s.clean.queue ++ [e] } }
  evalDrain n (moveLine n .draining (s1.modLine n fun l => { l with preDrain := some l.state }))

/-- The place of line `n` in the queue, counted from 1 (R152, assumption 14). -/
def queuePlace (s : State) (n : Nat) : Option Nat :=
  match s.clean.queue.findIdx? fun e => e.line = n with
  | some i => some (i + 1)
  | none => none

/-- The circuit that took line `n` at the acceptance of its request, `before` and `after` it. An entry that is no longer in the queue
was taken by the circuit that was free for it, also where the batch ended at once because its first step was not admitted (R152,
R156, R158). -/
def circuitTook (before after : State) (n : Nat) : Option Circuit := if isQueued after n then none else freeCircuit before

/-- CLEAN REQUEST. The reply carries the line's state as it stands when the reply is formed, which is RINSED or FOUL where the batch
that took the line ended at once: the model's DESIGN CHOICE, since R152 names DRAINING, QUEUED and CLEANING only (assumption 14). -/
def decideCleanRequest (n p : Nat) (s : State) : Decision :=
  match cleanRefusal s n p with
  | some status => refuse status s
  | none =>
    let s1 := queueLine n p s
    acceptWith (.cleanPlace (s1.line n).state (queuePlace s1 n) (circuitTook s s1 n)) s1

/-- CLEAN REQUEST (R152). -/
def execCleanRequest (tag : Byte) (line program : Nat) (s : State) : Result :=
  .next (request .cleanRequest tag (decideCleanRequest line program) s)

/-- Removes the entry of line `n` and returns the line to its pre-drain state (R7, R154). -/
def withdrawLine (n : Nat) (s : State) : State :=
  moveLine n (returnedState (s.line n))
    { s with clean := { s.clean with queue := s.clean.queue.filter fun e => e.line ≠ n } }

/-- CLEAN WITHDRAW (R154). -/
def decideCleanWithdraw (n : Nat) (s : State) : Decision :=
  if 47 < n then refuse .range s
  else if !isQueued s n then refuse .state s
  else
    let s1 := withdrawLine n s
    acceptWith (.lineState (s1.line n).state) s1

/-- CLEAN WITHDRAW (R154). -/
def execCleanWithdraw (tag : Byte) (line : Nat) (s : State) : Result :=
  .next (request .cleanWithdraw tag (decideCleanWithdraw line) s)

/-! ### Requests to a circuit (R157, R164 to R166) -/

/-- CLEAN STOP (R164). -/
def decideCleanStop (code : Nat) (s : State) : Decision :=
  match circuitOf code with
  | none => refuse .range s
  | some c =>
    if (s.circuit c).state ≠ .running then refuse .state s
    else acceptWith (.circuitState .stopping) (s.modCircuit c fun r => { r with state := .stopping })

/-- CLEAN STOP (R164). -/
def execCleanStop (tag : Byte) (circuit : Nat) (s : State) : Result :=
  .next (request .cleanStop tag (decideCleanStop circuit) s)

/-- A PAUSED circuit resumes: it completes its PAUSE step, or begins the step after the one it stopped behind (R165). -/
def resumeCircuit (c : Circuit) (s : State) : State :=
  let s1 := s.modCircuit c fun r => { r with state := .running, pauseCause := none }
  match (s.circuit c).pauseCause, currentStep s c with
  | some .pauseStep, some st => completeStep c st s1
  | _, _ => nextStep c s1

/-- CLEAN CONTINUE; the reply carries the circuit's state (R165, R176, assumption 14). -/
def decideCleanContinue (code : Nat) (s : State) : Decision :=
  match circuitOf code with
  | none => refuse .range s
  | some c =>
    if (s.circuit c).state ≠ .paused then refuse .state s
    else
      let s1 := resumeCircuit c s
      acceptWith (.circuitState (s1.circuit c).state) s1

/-- CLEAN CONTINUE (R165). -/
def execCleanContinue (tag : Byte) (circuit : Nat) (s : State) : Result :=
  .next (request .cleanContinue tag (decideCleanContinue circuit) s)

/-- CLEAN ABORT (R166). -/
def decideCleanAbort (code : Nat) (s : State) : Decision :=
  match circuitOf code with
  | none => refuse .range s
  | some c => if (s.circuit c).state = .idle then refuse .state s else accept (finishBatch c .aborted s)

/-- CLEAN ABORT (R166). -/
def execCleanAbort (tag : Byte) (circuit : Nat) (s : State) : Result :=
  .next (request .cleanAbort tag (decideCleanAbort circuit) s)

/-- The circuit as CIRCUIT GET reports it; the current step while a batch runs (R157). -/
def circuitView (s : State) (c : Circuit) : CircuitView :=
  { record := s.circuit c, waterLow := s.pins.waterLow.sel c, solutionLow := s.pins.solutionLow.sel c,
    step := if (s.circuit c).state = .idle then none else currentStep s c }

/-- CIRCUIT GET (R157). -/
def decideCircuitGet (code : Nat) (s : State) : Decision :=
  match circuitOf code with
  | none => refuse .range s
  | some c => acceptWith (.circuit (circuitView s c)) s

/-- CIRCUIT GET (R157). -/
def execCircuitGet (tag : Byte) (circuit : Nat) (s : State) : Result :=
  .next (request .circuitGet tag (decideCircuitGet circuit) s)

end Sys2Proof.Machine
end

