-- ==== Sys2Proof/Machine/CoolingRequests.lean ====
section
/-! DEFINITION. The requests of the Cooling Controller: TRUNK SET, CHILLER SET, SURGE ADD, SURGE REMOVE and COOLING GET (chapter 7). -/

namespace Sys2Proof.Machine

open Sys2Proof

/-! ### TRUNK SET (R127) -/

/-- The settings of a TRUNK SET are in their ranges (R127). -/
def trunkOk (setpoint : Int) (kp cls : Nat) (alarm : Int) : Bool :=
  (0 ≤ setpoint && setpoint ≤ 120) && (1 ≤ kp && kp ≤ 50) && (1 ≤ cls && cls ≤ 3)
    && (setpoint + 10 ≤ alarm && alarm ≤ 400)

/-- The trunk record with new settings and both timers at 0; the class counts from the next control period (R127). Before a trunk's
first sample the return temperature stays at the setpoint of the start, the model's DESIGN CHOICE (R128, assumption 42). -/
def Trunk.settings (t : Trunk) (setpoint : Int) (kp cls : Nat) (alarm : Int) : Trunk :=
  { t with setpoint := setpoint, kp := kp, cls := cls, alarmThreshold := alarm, alarmTimer := 0, releaseTimer := 0 }

/-- TRUNK SET (R127). -/
def decideTrunkSet (n : Nat) (setpoint : Int) (kp cls : Nat) (alarm : Int) (s : State) : Decision :=
  if 11 < n || !trunkOk setpoint kp cls alarm then refuse .range s
  else
    let s1 := post (.trunk n) .trunkConfig (s.modTrunk n fun t => t.settings setpoint kp cls alarm)
    acceptWith (.trunk (s1.trunk n)) s1

/-- TRUNK SET (R127). -/
def execTrunkSet (tag : Byte) (trunk : Nat) (setpoint : Int) (kp cls : Nat) (alarm : Int) (s : State) : Result :=
  .next (request .trunkSet tag (decideTrunkSet trunk setpoint kp cls alarm) s)

/-! ### CHILLER SET (R136) -/

/-- The chiller as it is reported (R143). -/
def chillerView (s : State) : ChillerView :=
  { count := s.cool.count, points := s.cool.points, running := stagesRunningOf s, available := stagesAvailableOf s,
    times := s.cool.stages.map (·.time), stagesRunning := s.cool.running, capacity := s.cool.capacity,
    sumOfDemands := s.cool.sumOfDemands, target := s.cool.target, bath := s.cool.bath, bathFault := s.cool.bathFault,
    freezeHold := s.cool.freezeHold }

/-- A stage above the count `count` is running (R136). -/
def runsAbove (s : State) (count : Nat) : Bool := (List.range 4).any fun i => count ≤ i && (s.stage i).running

/-- The new count brings in a stage whose fault input is active (R136, R138). -/
def bringsInFault (s : State) (count : Nat) : Bool :=
  (List.range 4).any fun i => s.cool.count ≤ i && i < count && (s.pins.stageFault[i]?).getD false

/-- Stores the count and S; a change of S computes the allocation again. A fault of the start on a stage that leaves the count is not
reported at the first reading (R136, R138). -/
def setChiller (count points : Nat) (s : State) : State :=
  let s1 := { s with cool := { s.cool with
    count := count
    points := points
    startFaults := s.cool.startFaults.mapIdx fun i b => b && decide (i < count) } }
  let s2 := if s.cool.points = points then s1 else allocate s1
  if bringsInFault s count then post .chiller .stageFault s2 else s2

/-- CHILLER SET. That the chiller's state of its reply has the fields of COOLING GET with scope CHILLER is the model's DESIGN CHOICE
(R136, R143, assumption 55). -/
def decideChillerSet (count points : Nat) (s : State) : Decision :=
  if count < 1 || 4 < count || points < 50 || 400 < points then refuse .range s
  else if runsAbove s count then refuse .state s
  else
    let s1 := setChiller count points s
    acceptWith (.chiller (chillerView s1)) s1

/-- CHILLER SET (R136). -/
def execChillerSet (tag : Byte) (count points : Nat) (s : State) : Result :=
  .next (request .chillerSet tag (decideChillerSet count points) s)

/-! ### The surge plan (R133) -/

/-- Inserts an entry in ascending order of start time (R133). -/
def insertSurge (e : Surge) : List Surge → List Surge
  | [] => [e]
  | x :: rest => if e.start < x.start then e :: x :: rest else x :: insertSurge e rest

/-- Replaces the surge plan list. -/
def State.setSurges (es : List Surge) (s : State) : State := { s with cool := { s.cool with surges := es } }

/-- SURGE ADD; a new entry has not been tested at a period and is not active (R133, R143). -/
def decideSurgeAdd (start duration lead boost : Nat) (s : State) : Decision :=
  if duration < 60 || 3600 < duration || 1800 < lead || 50 < boost
      || (!s.store.unset && start + duration ≤ s.store.clock) then refuse .range s
  else if s.cool.surges.any fun e => e.start = start then refuse .duplicate s
  else if Config.surgePlaces ≤ s.cool.surges.length then refuse .full s
  else
    let es := insertSurge { start := start, duration := duration, lead := lead, boost := boost, active := false } s.cool.surges
    acceptWith (.surgePlan es) (s.setSurges es)

/-- SURGE ADD (R133). -/
def execSurgeAdd (tag : Byte) (start duration lead boost : Nat) (s : State) : Result :=
  .next (request .surgeAdd tag (decideSurgeAdd start duration lead boost) s)

/-- SURGE REMOVE (R133). -/
def decideSurgeRemove (start : Nat) (s : State) : Decision :=
  if s.cool.surges.any fun e => e.start = start then
    let es := s.cool.surges.filter fun e => e.start ≠ start
    acceptWith (.surgePlan es) (s.setSurges es)
  else refuse .notFound s

/-- SURGE REMOVE (R133). -/
def execSurgeRemove (tag : Byte) (start : Nat) (s : State) : Result :=
  .next (request .surgeRemove tag (decideSurgeRemove start) s)

/-! ### COOLING GET (R143) -/

/-- COOLING GET. A trunk record shows the allocation, and the valve duty that follows it, as they stand, also where they were computed
again since the last expiry (R134, section 7.1). R143 has figures of a period reported as they stood at the last expiry; taking the
recomputed value is the model's DESIGN CHOICE (assumption 62). -/
def decideCoolingGet (scope trunk : Nat) (s : State) : Decision :=
  match coolingScopeOf scope trunk with
  | none => refuse .range s
  | some (.trunk n) => acceptWith (.trunkState (s.trunk n)) s
  | some .allTrunks => acceptWith (.trunks s.cool.trunks) s
  | some .chiller => acceptWith (.chiller (chillerView s)) s
  | some .surge => acceptWith (.surges s.cool.surges) s

/-- COOLING GET (R143). -/
def execCoolingGet (tag : Byte) (scope trunk : Nat) (s : State) : Result :=
  .next (request .coolingGet tag (decideCoolingGet scope trunk) s)

end Sys2Proof.Machine
end

