-- ==== Sys2Proof/Machine/SystemRequests.lean ====
section
/-! DEFINITION. The system requests: STATUS, NOTICE PACE, TIME SET, TIME GET, RESTART and FACTORY CLEAR (R178 to R180, R189 to
R191). -/

namespace Sys2Proof.Machine

open Sys2Proof

/-- Number of lines in a service state. -/
def linesIn (s : State) (st : ServiceState) : Nat := s.cellar.lines.toList.countP fun l => l.state = st

/-- Number of configured nodes in a state. -/
def nodesIn (s : State) (st : NodeState) : Nat :=
  (List.range' 1 32).countP fun a => nodeConfigured s a && (s.node a).state = st

/-- The summary STATUS returns (R178). -/
def summary (s : State) : Summary :=
  { clock := s.store.clock
    unset := s.store.unset
    lastStart := s.store.lastStart
    linesIn := #v[linesIn s .offline, linesIn s .foul, linesIn s .draining, linesIn s .queued, linesIn s .cleaning,
      linesIn s .rinsed, linesIn s .priming, linesIn s .serving, linesIn s .dry]
    linesHeld := s.cellar.lines.toList.countP fun l => l.holds ≠ HoldSet.empty
    nodesIn := #v[nodesIn s .absent, nodesIn s .present, nodesIn s .lost]
    circuits := PerCircuit.mk (s.circuit .a).state (s.circuit .b).state
    queueLength := s.clean.queue.length
    stagesRunning := s.cool.running
    freezeHold := s.cool.freezeHold
    trunksInAlarm := s.cool.trunks.toList.countP (·.alarm)
    held := s.acct.journal.length
    nextSeq := s.acct.nextSeq
    notices := s.link.notices.length
    pace := s.link.pace
    calSwitch := s.pins.calSwitch
    windowOpen := s.acct.window.isOpen
    discarded := s.link.discarded }

/-- STATUS (R178). The window is read before the request itself is counted in it: the model's deduction (assumption 20). -/
def decideStatus (s : State) : Decision := acceptWith (.summary (summary s)) s

/-- STATUS (R178). -/
def execStatus (tag : Byte) (s : State) : Result := .next (request .status tag decideStatus s)

/-- NOTICE PACE: sets the pace, brought into 1–50, or reads it (R179). -/
def decideNoticePace (pace : Option Nat) (s : State) : Decision :=
  match pace with
  | none => acceptWith (.pace s.link.pace) s
  | some n => acceptWith (.pace (clampNat 1 50 n)) (s.setLink { s.link with pace := clampNat 1 50 n })

/-- NOTICE PACE (R179). -/
def execNoticePace (tag : Byte) (pace : Option Nat) (s : State) : Result :=
  .next (request .noticePace tag (decideNoticePace pace) s)

/-- TIME SET: replaces the reading and clears the unset flag; a whole minute jumped over or onto runs no check (R189). -/
def decideTimeSet (reading : Nat) (s : State) : Decision :=
  acceptWith (.clock reading false)
    { s with store := { s.store with clock := reading, unset := false, minuteReached := false } }

/-- TIME SET (R180, R189). -/
def execTimeSet (tag : Byte) (reading : Nat) (s : State) : Result := .next (request .timeSet tag (decideTimeSet reading) s)

/-- TIME GET: returns the reading and the unset flag (R189). -/
def decideTimeGet (s : State) : Decision := acceptWith (.clock s.store.clock s.store.unset) s

/-- TIME GET (R180, R189). -/
def execTimeGet (tag : Byte) (s : State) : Result := .next (request .timeGet tag decideTimeGet s)

/-- RESTART: accepted in any state; the restart begins when the reply has been transmitted (R180, R190). -/
def decideRestart (s : State) : Decision := { state := s, status := .ok, body := .none, start := some .restart }

/-- RESTART (R180, R190). -/
def execRestart (tag : Byte) (s : State) : Result := .next (request .restart tag decideRestart s)

/-- FACTORY CLEAR: refused while the calibration switch is off or a circuit is not IDLE; otherwise the cold start begins when
the reply has been transmitted (R191). -/
def decideFactoryClear (s : State) : Decision :=
  if !s.pins.calSwitch then refuse .locked s
  else if (s.circuit .a).state ≠ .idle || (s.circuit .b).state ≠ .idle then refuse .state s
  else { state := s, status := .ok, body := .none, start := some .factoryClear }

/-- FACTORY CLEAR (R180, R191). -/
def execFactoryClear (tag : Byte) (s : State) : Result := .next (request .factoryClear tag decideFactoryClear s)

end Sys2Proof.Machine
end

