-- ==== Sys2Proof/Machine/TapRequests.lean ====
section
/-! DEFINITION. The requests of the Pour Engine: TAP SET, TAP GET, SIZE SET, FREE LIMITS, ROUTE WRITE, ROUTE READ, ROUTE SWAP, ROUTE
CHECK and BAR STATE (chapters 2 and 3). -/

namespace Sys2Proof.Machine

open Sys2Proof

/-! ### TAP SET and TAP GET (R30, R31) -/

/-- A TAP SET names a tap or a bar that does not exist (R30). -/
def tapSetRange (t bar : Nat) : Bool := 127 < t || 15 < bar

/-- The tap record as a reply carries it, its presence computed at the reply (R30, R31). -/
def tapReply (t : Nat) (s : State) : Decision := acceptWith (.tap (presence s t) (s.tap t)) s

/-- Configures tap `t`: the first tap of a node resets the node record, another one recomputes its threshold (R75, R80). -/
def assignTap (t bar : Nat) (s : State) : State :=
  let s1 := s.modTap t fun r => { r with configured := true, bar := bar }
  if nodeConfigured s (nodeOfTap t) then recomputeThreshold (nodeOfTap t) s1 else resetNode (nodeOfTap t) s1

/-- TAP SET ASSIGN (R30). -/
def decideTapSetAssign (t bar : Nat) (s : State) : Decision :=
  if tapSetRange t bar then refuse .range s else tapReply t (assignTap t bar s)

/-- TAP SET ASSIGN (R30). -/
def execTapSetAssign (tag : Byte) (tap bar : Nat) (s : State) : Result :=
  .next (request .tapSet tag (decideTapSetAssign tap bar) s)

/-- Unconfigures tap `t`: the last tap of a node takes the node out of the table, another one recomputes its threshold (R75,
R80). -/
def unassignTap (t : Nat) (s : State) : State :=
  let a := nodeOfTap t
  let s1 := s.modTap t fun r => { r with configured := false }
  if nodeConfigured s a && !nodeConfigured s1 a then dropNode a s1 else recomputeThreshold a s1

/-- TAP SET UNASSIGN (R30). -/
def decideTapSetUnassign (t bar : Nat) (s : State) : Decision :=
  if tapSetRange t bar then refuse .range s
  else if (s.tap t).pour.isSome then refuse .tapBusy s
  else tapReply t (unassignTap t s)

/-- TAP SET UNASSIGN (R30). -/
def execTapSetUnassign (tag : Byte) (tap bar : Nat) (s : State) : Result :=
  .next (request .tapSet tag (decideTapSetUnassign tap bar) s)

/-- The tap's pour phase is ORPHANED (R48). -/
def isOrphaned (r : Tap) : Bool := r.pour.any fun p => p.phase = .orphaned

/-- TAP SET CLOSE ORPHAN (R30, R73). -/
def decideTapSetCloseOrphan (t bar : Nat) (s : State) : Decision :=
  if tapSetRange t bar then refuse .range s
  else if !isOrphaned (s.tap t) || presence s t = .present then refuse .state s
  else tapReply t (recomputeThreshold (nodeOfTap t) (closeLost t s))

/-- TAP SET CLOSE ORPHAN (R30, R73). -/
def execTapSetCloseOrphan (tag : Byte) (tap bar : Nat) (s : State) : Result :=
  .next (request .tapSet tag (decideTapSetCloseOrphan tap bar) s)

/-- TAP GET (R31). -/
def decideTapGet (t : Nat) (s : State) : Decision := if 127 < t then refuse .range s else tapReply t s

/-- TAP GET (R31). -/
def execTapGet (tag : Byte) (tap : Nat) (s : State) : Result := .next (request .tapGet tag (decideTapGet tap) s)

/-! ### SIZE SET (R45) -/

/-- A size is in its ranges (R45). -/
def Size.ok (z : Size) : Bool := (z.target = 0 || (100 ≤ z.target && z.target ≤ 20000)) && z.tolerance ≤ 500

/-- One size set of the table. -/
def sizeSetOf (s : State) (n : Nat) : SizeSet := (s.pour.sizes[n]?).getD (Vector.replicate 4 coldSize)

/-- SIZE SET WRITE (R45). -/
def decideSizeSetWrite (n : Nat) (sizes : SizeSet) (s : State) : Decision :=
  if 3 < n || !sizes.all Size.ok then refuse .range s
  else acceptWith (.sizes sizes) { s with pour := { s.pour with sizes := s.pour.sizes.setIfInBounds n sizes } }

/-- SIZE SET WRITE (R45). -/
def execSizeSetWrite (tag : Byte) (set : Nat) (sizes : SizeSet) (s : State) : Result :=
  .next (request .sizeSet tag (decideSizeSetWrite set sizes) s)

/-- SIZE SET READ (R45). -/
def decideSizeSetRead (n : Nat) (s : State) : Decision :=
  if 3 < n then refuse .range s else acceptWith (.sizes (sizeSetOf s n)) s

/-- SIZE SET READ (R45). -/
def execSizeSetRead (tag : Byte) (set : Nat) (s : State) : Result := .next (request .sizeSet tag (decideSizeSetRead set) s)

/-! ### FREE LIMITS (R50) -/

/-- The three limits are in their ranges (R50). -/
def limitsOk (vfree seconds foam : Nat) : Bool :=
  (1000 ≤ vfree && vfree ≤ 50000) && (1 ≤ seconds && seconds ≤ 120) && foam ≤ 256

/-- The three values as they stand, which every FREE LIMITS reply carries (R50). -/
def limitsBody (s : State) : ReplyBody := .limits s.pour.vfree s.pour.freeSeconds s.pour.foamThreshold

/-- FREE LIMITS WRITE; a refusal too carries the values as they stand (R50, R175). -/
def decideFreeLimitsWrite (vfree seconds foam : Nat) (s : State) : Decision :=
  if !limitsOk vfree seconds foam then refuseWith .range (limitsBody s) s
  else
    acceptWith (.limits vfree seconds foam)
      { s with pour := { s.pour with vfree := vfree, freeSeconds := seconds, foamThreshold := foam } }

/-- FREE LIMITS WRITE (R50). -/
def execFreeLimitsWrite (tag : Byte) (vfree seconds foam : Nat) (s : State) : Result :=
  .next (request .freeLimits tag (decideFreeLimitsWrite vfree seconds foam) s)

/-- FREE LIMITS READ (R50). -/
def decideFreeLimitsRead (s : State) : Decision := acceptWith (limitsBody s) s

/-- FREE LIMITS READ (R50). -/
def execFreeLimitsRead (tag : Byte) (s : State) : Result := .next (request .freeLimits tag decideFreeLimitsRead s)

/-! ### Route maps (R36, R37, R42) -/

/-- Replaces one map. -/
def PourBlock.setMap (p : PourBlock) (m : MapSel) (v : Vector Route 128) : PourBlock :=
  match m with
  | .a => { p with mapA := v }
  | .b => { p with mapB := v }

/-- The map with the run of routes written from entry `first` on (R36). -/
def writeRun (m : Vector Route 128) (first : Nat) (rs : List Route) : Vector Route 128 :=
  m.mapIdx fun i r => if first ≤ i then (rs[i - first]?).getD r else r

/-- A run of `count` entries from `first` on stands within the map (R36, R37). -/
def runOk (first count : Nat) : Bool := 1 ≤ count && count ≤ 32 && first + count ≤ 128

/-- ROUTE WRITE (R36). -/
def decideRouteWrite (map first : Nat) (entries : List RouteEntry) (s : State) : Decision :=
  match mapOf map, routesOf entries with
  | some m, some rs =>
    if !runOk first entries.length then refuse .range s
    else if m = s.pour.active then refuse .state s
    else accept { s with pour := s.pour.setMap m (writeRun (s.pour.map m) first rs) }
  | _, _ => refuse .range s

/-- ROUTE WRITE (R36). -/
def execRouteWrite (tag : Byte) (map first : Nat) (entries : List RouteEntry) (s : State) : Result :=
  .next (request .routeWrite tag (decideRouteWrite map first entries) s)

/-- The entries of a run (R37). -/
def readRun (m : Vector Route 128) (first count : Nat) : List Route :=
  (List.range count).map fun i => mapEntry m (first + i)

/-- ROUTE READ (R37). -/
def decideRouteRead (map first count : Nat) (s : State) : Decision :=
  match mapOf map with
  | none => refuse .range s
  | some m =>
    if !runOk first count then refuse .range s
    else acceptWith (.routes s.pour.active (readRun (s.pour.map m) first count)) s

/-- ROUTE READ (R37). -/
def execRouteRead (tag : Byte) (map first count : Nat) (s : State) : Result :=
  .next (request .routeRead tag (decideRouteRead map first count) s)

/-- ROUTE CHECK (R42). -/
def decideRouteCheck (t : Nat) (s : State) : Decision :=
  if 127 < t then refuse .range s
  else
    acceptWith
      (.routing (s.activeEntry t) (mapEntry (s.pour.map s.pour.active.other) t) (s.tap t).route (s.tap t).deferred
        (s.tap t).withheld s.pour.active) s

/-- ROUTE CHECK (R42). -/
def execRouteCheck (tag : Byte) (tap : Nat) (s : State) : Result := .next (request .routeCheck tag (decideRouteCheck tap) s)

/-! ### ROUTE SWAP (R38, R39) -/

/-- Some tap's deferred flag is set (R38). -/
def anyDeferred (s : State) : Bool := s.pour.taps.any (·.deferred)

/-- An unlocked tap may not be routed to line `l`: its mark is set, or it is DRAINING, QUEUED or CLEANING (R38). -/
def unsafeLine (l : Line) : Bool := l.mark || l.state = .draining || l.state = .queued || l.state = .cleaning

/-- The entry of the incoming map for tap `t` fails the check (R38). -/
def entryFails (s : State) (t : Nat) : Bool :=
  match (mapEntry (s.pour.map s.pour.active.other) t).line with
  | some n => !(s.tap t).lockout && unsafeLine (s.line n)
  | none => false

/-- The lowest-numbered failing tap and the line its entry names (R38). -/
def failingTap (s : State) : Option (Nat × Nat) :=
  match (List.range 128).find? fun t => entryFails s t with
  | some t => some (t, ((mapEntry (s.pour.map s.pour.active.other) t).line).getD 0)
  | none => none

/-- Tap `t` takes up the newly active map: an IDLE tap copies its entry, any other is deferred (R39). -/
def swapTap (t : Nat) (s : State) : State :=
  if (s.tap t).pour.isNone then copyRoute t (s.activeEntry t) (s.modTap t fun r => { r with withheld := false })
  else s.modTap t fun r => { r with deferred := true }

/-- Makes the inactive map active, then tap by tap (R39). R39 names no order of the taps, which decides the order in which lines
become QUEUED: ascending tap number is the model's DESIGN CHOICE (assumption 46). -/
def swapMaps (s : State) : State :=
  (List.range 128).foldl (fun s t => swapTap t s) { s with pour := { s.pour with active := s.pour.active.other } }

/-- Number of taps whose deferred flag is set. -/
def deferredCount (s : State) : Nat := s.pour.taps.toList.countP (·.deferred)

/-- ROUTE SWAP (R38, R39). -/
def decideRouteSwap (s : State) : Decision :=
  if anyDeferred s then refuse .busy s
  else
    match failingTap s with
    | some (t, n) => refuseWith .lineBusy (.unsafeTap t n) s
    | none =>
      let s1 := swapMaps s
      acceptWith (.swapped s1.pour.active (deferredCount s1)) s1

/-- ROUTE SWAP (R38, R39). -/
def execRouteSwap (tag : Byte) (s : State) : Result := .next (request .routeSwap tag decideRouteSwap s)

/-! ### BAR STATE (R44) -/

/-- BAR STATE: the new open set, and the reply that carries it (R44). -/
def decideBarState (bars : BitVec 16) (s : State) : Decision :=
  acceptWith (.bars bars) { s with pour := { s.pour with barOpen := bars } }

/-- BAR STATE SET: every bar of the mask is added (R44). -/
def decideBarStateSet (mask : BitVec 16) (s : State) : Decision := decideBarState (s.pour.barOpen ||| mask) s

/-- BAR STATE SET (R44). -/
def execBarStateSet (tag : Byte) (mask : BitVec 16) (s : State) : Result :=
  .next (request .barState tag (decideBarStateSet mask) s)

/-- BAR STATE CLEAR: every bar of the mask is removed (R44). -/
def decideBarStateClear (mask : BitVec 16) (s : State) : Decision := decideBarState (s.pour.barOpen &&& ~~~ mask) s

/-- BAR STATE CLEAR (R44). -/
def execBarStateClear (tag : Byte) (mask : BitVec 16) (s : State) : Result :=
  .next (request .barState tag (decideBarStateClear mask) s)

/-- BAR STATE TOGGLE: every bar of the mask is added if absent and removed if present (R44). -/
def decideBarStateToggle (mask : BitVec 16) (s : State) : Decision := decideBarState (s.pour.barOpen ^^^ mask) s

/-- BAR STATE TOGGLE (R44). -/
def execBarStateToggle (tag : Byte) (mask : BitVec 16) (s : State) : Result :=
  .next (request .barState tag (decideBarStateToggle mask) s)

end Sys2Proof.Machine
end

