-- ==== Sys2Proof/WellFormed.lean ====
section
/-! DEFINITION. Which commands can arrive: every operand of a request fits the field that carries it (sections 11.1 and 11.2), a body
has at most 240 bytes (section 9.1), and a reply of the tap bus at most 57 (section 11.4). A value that a field can carry and that
its rule refuses is well formed. -/

namespace Sys2Proof

/-- Fits a field of one byte. -/
def fits1 (n : Nat) : Bool := n < 256

/-- Fits a field of two bytes. -/
def fits2 (n : Nat) : Bool := n < 65536

/-- Fits a field of three bytes. -/
def fits3 (n : Nat) : Bool := n < 16777216

/-- Fits a field of four bytes. -/
def fits4 (n : Nat) : Bool := n < 4294967296

/-- Fits a signed field of two bytes. -/
def fitsTemperature (x : Int) : Bool := -32768 ≤ x && x ≤ 32767

/-- The configuration of a LINE SET fits its fields (R2). -/
def LineConfig.wf (c : LineConfig) : Bool :=
  fits1 c.trunk && fits1 c.product && fits4 c.fillVolume && fits4 c.primeMargin && fitsTemperature c.serveLimit
    && fitsTemperature c.hardLimit && fits4 c.lowThreshold && fits4 c.criticalThreshold && fits2 c.softAge
    && fits2 c.hardAge && fits4 c.softVolume && fits4 c.hardVolume

/-- A portion size fits its fields (R45). -/
def Size.wf (z : Size) : Bool := fits3 z.target && fits3 z.tolerance

/-- A carried route entry fits its fields (R36). -/
def RouteEntry.wf (e : RouteEntry) : Bool := fits1 e.line && fits1 e.sizeSet

/-- A carried program step fits its fields (R149). -/
def StepEntry.wf (e : StepEntry) : Bool := fits1 e.kind && fits4 e.amount && fits4 e.limit

/-- A carried watch entry fits its fields (R113). -/
def WatchEntry.wf (e : WatchEntry) : Bool :=
  fits1 e.targetKind && fits1 e.targetNumber && fits1 e.condition && fits4 e.threshold && fits1 e.action

/-- Most route entries a body of 240 bytes holds. -/
def maxRouteEntries : Nat := 78

/-- Most program steps a body of 240 bytes holds. -/
def maxStepEntries : Nat := 23

/-- Most bytes of a body (section 9.1). -/
def maxBody : Nat := 240

/-- Most bytes of a frame (section 11.2). -/
def maxFrame : Nat := 247

/-- Most bytes of a reply of the tap bus (section 11.4). -/
def maxBusReply : Nat := 57

/-- The command can arrive. -/
def Instr.wf : Instr → Bool
  | .status _ => true
  | .noticePace _ p => p.all fits2
  | .timeSet _ r => fits4 r
  | .timeGet _ => true
  | .restart _ => true
  | .factoryClear _ => true
  | .productRegister _ c _ => fits1 c
  | .productRemove _ c => fits1 c
  | .productRead _ c => fits1 c
  | .lineSet _ n c => fits1 n && c.wf
  | .lineGet _ n => fits1 n
  | .lineClear _ n => fits1 n
  | .lineHoldApply _ n _ => fits1 n
  | .lineHoldRelease _ n _ => fits1 n
  | .kegAdd _ n id p v _ => fits1 n && fits4 id && fits1 p && fits3 v
  | .kegRemove _ n id => fits1 n && fits4 id
  | .kegSwitch _ n => fits1 n
  | .kegList _ n => fits1 n
  | .tapSetAssign _ t b => fits1 t && fits1 b
  | .tapSetUnassign _ t b => fits1 t && fits1 b
  | .tapSetCloseOrphan _ t b => fits1 t && fits1 b
  | .tapGet _ t => fits1 t
  | .sizeSetWrite _ n z => fits1 n && z.toList.all Size.wf
  | .sizeSetRead _ n => fits1 n
  | .freeLimitsWrite _ v t f => fits4 v && fits1 t && fits2 f
  | .freeLimitsRead _ => true
  | .routeWrite _ m f es => fits1 m && fits1 f && es.length ≤ maxRouteEntries && es.all RouteEntry.wf
  | .routeRead _ m f c => fits1 m && fits1 f && fits2 c
  | .routeSwap _ => true
  | .routeCheck _ t => fits1 t
  | .barStateSet _ _ => true
  | .barStateClear _ _ => true
  | .barStateToggle _ _ => true
  | .trunkSet _ n sp k c a => fits1 n && fitsTemperature sp && fits1 k && fits1 c && fitsTemperature a
  | .chillerSet _ c p => fits2 c && fits2 p
  | .surgeAdd _ st d l b => fits4 st && fits2 d && fits2 l && fits1 b
  | .surgeRemove _ st => fits4 st
  | .coolingGet _ sc n => fits1 sc && fits1 n
  | .programLoad _ p th es => fits1 p && fits2 th && es.length ≤ maxStepEntries && es.all StepEntry.wf
  | .programRead _ p => fits1 p
  | .cleanRequest _ n p => fits1 n && fits1 p
  | .cleanWithdraw _ n => fits1 n
  | .cleanStop _ c => fits1 c
  | .cleanContinue _ c => fits1 c
  | .cleanAbort _ c => fits1 c
  | .circuitGet _ c => fits1 c
  | .returnToService _ n => fits1 n
  | .journalRead _ n => fits4 n
  | .journalRelease _ n => fits4 n
  | .totalsRead _ sc n => fits1 sc && fits1 n
  | .histogramRead _ c => fits1 c
  | .totalsClear _ => true
  | .reconcile _ n => fits1 n
  | .watchSet _ w e => fits1 w && e.wf
  | .watchClear _ w => fits1 w
  | .watchGet _ w => w.all fits1
  | .calOpen _ => true
  | .calWrite _ k n g o _ => fits1 k && fits1 n && fits2 g && fits2 o
  | .calRead _ k n => fits1 k && fits1 n
  | .unknownRequest _ _ b => b.length ≤ maxBody
  | .busyReply _ _ b => b.length ≤ maxBody
  | .frameDiscarded f => f.bytes.length ≤ maxFrame
  | .interByteTimeout => true
  | .startMarkerReceived => true
  | .replyTransmitted _ => true
  | .noticeTransmitted => true
  | .noticePaceWaitEnd => true
  | .clockSecond => true
  | .cleaningDueAgeCheck => true
  | .mainPowerFail => true
  | .backupSupplyBelowMinimum => true
  | .powerUp _ _ => true
  | .resetAsserted => true
  | .resetReleased _ => true
  | .replyWindowExpiry => true
  | .replyByteGapTimeout => true
  | .replyFormatBroken => true
  | .replyReceived b => b.length ≤ maxBusReply
  | .emptyRoundExpiry => true
  | .foamOnBeerTrip _ => true
  | .detectorRearm _ => true
  | .cellarMeterPulse _ => true
  | .sensorSample _ _ => true
  | .alarmTimerExpiry _ => true
  | .releaseTimerExpiry _ => true
  | .controlPeriodExpiry => true
  | .dutyWindowStart => true
  | .valveDutyExpiry _ => true
  | .stageFault _ => true
  | .stageRestored _ => true
  | .circuitMeterPulse _ => true
  | .conductivityReading _ _ => true
  | .supplyLow _ _ _ => true
  | .flowTimerExpiry _ => true
  | .timedStepExpiry _ => true
  | .calSwitchOff _ => true
  | .calWindowTimeout => true

end Sys2Proof
end

