-- ==== Sys2Proof/Machine/Frames.lean ====
section
/-! DEFINITION. A frame as it is received: the receiver that reads its bytes and tests its length and CRC (R173); UNKNOWN, FORMAT
and RANGE for a frame that spells no request, the owner's decision for one that does (R175); and BUSY for one that finds the slot
held (R174). -/

namespace Sys2Proof.Machine

open Sys2Proof

/-- The owner's decision of a request; none for a command that is no request (section 9.4). -/
def decisionOf : Instr → Option (State → Decision)
  | .status _ => some decideStatus
  | .noticePace _ p => some (decideNoticePace p)
  | .timeSet _ r => some (decideTimeSet r)
  | .timeGet _ => some decideTimeGet
  | .restart _ => some decideRestart
  | .factoryClear _ => some decideFactoryClear
  | .productRegister _ c l => some (decideProductRegister c l)
  | .productRemove _ c => some (decideProductRemove c)
  | .productRead _ c => some (decideProductRead c)
  | .lineSet _ n c => some (decideLineSet n c)
  | .lineGet _ n => some (decideLineGet n)
  | .lineClear _ n => some (decideLineClear n)
  | .lineHoldApply _ n st => some (decideLineHoldApply n st)
  | .lineHoldRelease _ n h => some (decideLineHoldRelease n h)
  | .kegAdd _ n id p v h => some (decideKegAdd n id p v h)
  | .kegRemove _ n id => some (decideKegRemove n id)
  | .kegSwitch _ n => some (decideKegSwitch n)
  | .kegList _ n => some (decideKegList n)
  | .tapSetAssign _ t b => some (decideTapSetAssign t b)
  | .tapSetUnassign _ t b => some (decideTapSetUnassign t b)
  | .tapSetCloseOrphan _ t b => some (decideTapSetCloseOrphan t b)
  | .tapGet _ t => some (decideTapGet t)
  | .sizeSetWrite _ n z => some (decideSizeSetWrite n z)
  | .sizeSetRead _ n => some (decideSizeSetRead n)
  | .freeLimitsWrite _ v t f => some (decideFreeLimitsWrite v t f)
  | .freeLimitsRead _ => some decideFreeLimitsRead
  | .routeWrite _ m f es => some (decideRouteWrite m f es)
  | .routeRead _ m f c => some (decideRouteRead m f c)
  | .routeSwap _ => some decideRouteSwap
  | .routeCheck _ t => some (decideRouteCheck t)
  | .barStateSet _ m => some (decideBarStateSet m)
  | .barStateClear _ m => some (decideBarStateClear m)
  | .barStateToggle _ m => some (decideBarStateToggle m)
  | .trunkSet _ n sp k c a => some (decideTrunkSet n sp k c a)
  | .chillerSet _ c p => some (decideChillerSet c p)
  | .surgeAdd _ st d l b => some (decideSurgeAdd st d l b)
  | .surgeRemove _ st => some (decideSurgeRemove st)
  | .coolingGet _ sc n => some (decideCoolingGet sc n)
  | .programLoad _ p th es => some (decideProgramLoad p th es)
  | .programRead _ p => some (decideProgramRead p)
  | .cleanRequest _ n p => some (decideCleanRequest n p)
  | .cleanWithdraw _ n => some (decideCleanWithdraw n)
  | .cleanStop _ c => some (decideCleanStop c)
  | .cleanContinue _ c => some (decideCleanContinue c)
  | .cleanAbort _ c => some (decideCleanAbort c)
  | .circuitGet _ c => some (decideCircuitGet c)
  | .returnToService _ n => some (decideReturnToService n)
  | .journalRead _ n => some (decideJournalRead n)
  | .journalRelease _ n => some (decideJournalRelease n)
  | .totalsRead _ sc n => some (decideTotalsRead sc n)
  | .histogramRead _ c => some (decideHistogramRead c)
  | .totalsClear _ => some decideTotalsClear
  | .reconcile _ n => some (decideReconcile n)
  | .watchSet _ w e => some (decideWatchSet w e)
  | .watchClear _ w => some (decideWatchClear w)
  | .watchGet _ w => some (decideWatchGet w)
  | .calOpen _ => some decideCalOpen
  | .calWrite _ k n g o r => some (decideCalWrite k n g o r)
  | .calRead _ k n => some (decideCalRead k n)
  | .unknownRequest _ _ _ => none
  | .busyReply _ _ _ => none
  | .frameDiscarded _ => none
  | .interByteTimeout => none
  | .startMarkerReceived => none
  | .replyTransmitted _ => none
  | .noticeTransmitted => none
  | .noticePaceWaitEnd => none
  | .clockSecond => none
  | .cleaningDueAgeCheck => none
  | .mainPowerFail => none
  | .backupSupplyBelowMinimum => none
  | .powerUp _ _ => none
  | .resetAsserted => none
  | .resetReleased _ => none
  | .replyWindowExpiry => none
  | .replyByteGapTimeout => none
  | .replyFormatBroken => none
  | .replyReceived _ => none
  | .emptyRoundExpiry => none
  | .foamOnBeerTrip _ => none
  | .detectorRearm _ => none
  | .cellarMeterPulse _ => none
  | .sensorSample _ _ => none
  | .alarmTimerExpiry _ => none
  | .releaseTimerExpiry _ => none
  | .controlPeriodExpiry => none
  | .dutyWindowStart => none
  | .valveDutyExpiry _ => none
  | .stageFault _ => none
  | .stageRestored _ => none
  | .circuitMeterPulse _ => none
  | .conductivityReading _ _ => none
  | .supplyLow _ _ _ => none
  | .flowTimerExpiry _ => none
  | .timedStepExpiry _ => none
  | .calSwitchOff _ => none
  | .calWindowTimeout => none

/-- The owner's decision of the request a body spells (R175). -/
def decideSpelled (i : Instr) (s : State) : Decision :=
  match decisionOf i with
  | some f => f s
  | none => refuse .unknown s

/-- The contents of the RANGE refusal of an undefined operation: FREE LIMITS always carries its values (R50, R175). -/
def undefinedBody (k : RequestKind) (s : State) : ReplyBody := if k = .freeLimits then limitsBody s else .none

/-- Dispatches a frame that takes the slot: UNKNOWN for a kind that names no request, FORMAT for a body that does not match its
kind, RANGE for an undefined operation, otherwise the owner's decision (R175). -/
def dispatchFrame (kind tag : Byte) (body : List Byte) (s : State) : Decision :=
  match kindOfCode kind with
  | none => refuse .unknown s
  | some k =>
    match readRequest k tag body with
    | none => refuse .format s
    | some none => refuseWith .range (undefinedBody k s) s
    | some (some i) => decideSpelled i s

/-! ### Whole frames (R174, R175) -/

/-- A frame whose CRC matches: received, or discarded where its body has more than 240 bytes and its length is thus above 242 (R173,
R174). -/
def receiveWhole (kind tag : Byte) (body : List Byte) (s : State) : State :=
  if maxBody < body.length then discardFrame s else receiveFrame kind tag (dispatchFrame kind tag body) s

/-- UNKNOWN_REQUEST: a frame whose kind names no request, or whose body spells none (R175). -/
def execUnknownRequest (kind tag : Byte) (body : List Byte) (s : State) : Result :=
  .next (event (receiveWhole kind tag body) s)

/-- BUSY_REPLY: a frame of any kind; finding the slot held it is answered BUSY, or discarded (R174). -/
def execBusyReply (kind tag : Byte) (body : List Byte) (s : State) : Result :=
  .next (event (fun s => receiveWhole kind tag body s) s)

/-! ### Bytes (R173) -/

/-- The byte that opens a frame (section 11.2). -/
def startMarker : Byte := 0xC3#8

/-- Moves the receiver (R173). -/
def State.setReceiver (r : Receiver) (s : State) : State := s.setLink { s.link with receiver := r }

/-- The frame of length `length` is complete, `got` being its kind, tag, body and CRC: it is received where the CRC over length,
kind, tag and body matches, and discarded otherwise (R173). -/
def frameRead (length : Nat) (got : List Byte) (s : State) : State :=
  match got.take length with
  | kind :: tag :: body =>
    if got.drop length = bytesOf 2 (crc16 (field 2 length ++ kind :: tag :: body)).toNat then receiveWhole kind tag body s
    else discardFrame s
  | _ => discardFrame s

/-- The receiver takes one byte (R173). -/
def receiveByte (b : Byte) (s : State) : State :=
  match s.link.receiver with
  | .hunting => if b = startMarker then s.setReceiver (.readingLength none) else s
  | .readingLength none => s.setReceiver (.readingLength (some b))
  | .readingLength (some high) =>
    let length := high.toNat * 256 + b.toNat
    if length < 2 || maxBody + 2 < length then discardFrame s else s.setReceiver (.readingFrame length [])
  | .readingFrame length got =>
    if got.length + 1 < length + 2 then s.setReceiver (.readingFrame length (got ++ [b])) else frameRead length (got ++ [b]) s

/-- The receiver takes bytes in the order of their arrival (R173). -/
def receiveBytes (bytes : List Byte) (s : State) : State := bytes.foldl (fun s b => receiveByte b s) s

/-- Bytes arrive, the byte after them perhaps with a framing error (R173). -/
def frameArrives (bytes : List Byte) (framingError : Bool) (s : State) : State :=
  if framingError then breakFrame (receiveBytes bytes s) else receiveBytes bytes s

/-- FRAME_DISCARDED: the receiver reads the bytes of a frame, and discards it for its length, its CRC or a framing error (R173). Bytes
that spell a good frame are received (R174). -/
def execFrameDiscarded (frame : FrameArrival) (s : State) : Result :=
  .next (event (frameArrives frame.bytes frame.framingError) s)

/-- START_MARKER_RECEIVED: a start marker byte moves a hunting receiver to reading the length; inside a frame it is a byte of the
frame (R173). -/
def execStartMarkerReceived (s : State) : Result := .next (event (receiveByte startMarker) s)

end Sys2Proof.Machine
end

