-- ==== Sys2Proof/Machine/Starts.lean ====
section
/-! DEFINITION. Stopping and starting: what the loss of main power and the reset input do at once (R187, R190), and the restart and
the cold start of every block, also one cut in the middle (R28, R29, R46, R47, R89, R108, R109, R120, R122, R145, R146, R171, R172,
R185). -/

namespace Sys2Proof.Machine

open Sys2Proof

/-! ### Stopping (R187, R190) -/

/-- The address whose reply may still arrive once an exchange is abandoned (R75, R89). -/
def BusBlock.abandon (b : BusBlock) : Option Nat :=
  match b.polled with
  | some a => some a
  | none => b.abandoned

/-- Every running stage stops, the allocation is computed again for the capacity of 0 that is left, and every trunk valve shuts
(R134, R137, R187). -/
def stopCooling (s : State) : State :=
  let s1 := allocate (stopStages s)
  { s1 with cool := { s1.cool with trunks := s1.cool.trunks.map fun t => { t with valveOpen := false } } }

/-- The part drives its outputs off and stops sending on both paths (R187). The outputs that are no record of their own follow
from the part's being stopped. -/
def stopPart (s : State) : State :=
  let s1 := stopCooling s
  { s1 with
    bus := { s1.bus with phase := .stopped, abandoned := s1.bus.abandon }
    link := { s1.link with tx := .idle } }

/-! ### Restart (R190) -/

/-- The service state of a line after a restart (R28). -/
def restartState (l : Line) : ServiceState :=
  match l.state with
  | .draining => returnedState l
  | .queued => returnedState l
  | .cleaning => if l.mark then .foul else .rinsed
  | .offline => .offline
  | .foul => .foul
  | .rinsed => .rinsed
  | .priming => .priming
  | .serving => .serving
  | .dry => .dry

/-- A line after a restart (R28). -/
def restartLine (l : Line) : Line := { l with state := restartState l, foamCount := 0, foamAlert := false }

/-- The Line Manager after a restart (R22, R28). -/
def restartCellar (c : LineBlock) (pins : Pins) : LineBlock :=
  { c with lines := c.lines.map restartLine, detectorArmed := pins.detectorFull }

/-- A tap after a restart: its pour is ORPHANED, and a withheld route is resolved (R46). -/
def restartTap (active : Route) (t : Tap) : Tap :=
  { t.orphan with route := if t.withheld then active else t.route, withheld := false }

/-- The Pour Engine after a restart (R46). -/
def restartPour (p : PourBlock) : PourBlock :=
  { p with taps := p.taps.mapIdx fun i t => restartTap (mapEntry (p.map p.active) i) t }

/-- The node table rebuilt from the tap configured flags, and the first poll of the first round (R76, R89). -/
def restartBus (s : State) : State :=
  startRound { s with bus :=
    { nodes := Vector.ofFn fun i => freshNode ((thresholdOf s (i.val + 1)).getD 3333)
      round := 0, phase := .emptyRound, abandoned := s.bus.abandon } }

/-- The Cooling Controller after a restart (R145). -/
def restartCooling (c : Cooling) (pins : Pins) : Cooling :=
  { coldCooling pins with
    startFaults := startFaultsOf c.count pins
    trunks := c.trunks.map fun t => startTrunk t.setpoint t.kp t.cls t.alarmThreshold
    count := c.count
    points := c.points
    surges := c.surges.map fun e => { e with active := false } }

/-- A circuit record after a restart (R171). -/
def restartCircuit (r : CircuitRec) : CircuitRec := startCircuit r.gain r.offset r.unstoredPurge

/-- The Cleaning Sequencer after a restart (R171). -/
def restartCleaning (c : Cleaning) : Cleaning :=
  { c with queue := [], circuits := PerCircuit.mk (restartCircuit c.circuits.a) (restartCircuit c.circuits.b) }

/-- The Retained Store after a restart; a whole minute that awaits its check is forgotten (R189, R190). -/
def restartStore (c : Store) : Store :=
  { c with minuteReached := false, lastStart := .restart, mainPower := true, resetHeld := false, heldColdStart := false }

/-- The straps as a start reads them (R195). -/
def readStraps (straps : Straps) (s : State) : State := { s with pins := { s.pins with straps := straps } }

/-- A restart: every block takes its restart values, and the one SYSTEM notice is the first notice sent (R185, R190). -/
def restart (straps : Straps) (s : State) : State :=
  let s1 := restartBus (readStraps straps s)
  { s1 with
    cellar := restartCellar s1.cellar s1.pins
    pour := restartPour s1.pour
    acct := { s1.acct with window := closedWindow }
    cool := restartCooling s1.cool s1.pins
    clean := restartCleaning s1.clean
    link := startLink s1.link.pace straps .restart s1.store.clock s1.store.unset
    store := restartStore s1.store }

/-! ### Cold start (R190) -/

/-- A cold start with its cause: every block takes its cold start values, the latch is cleared, and the one SYSTEM notice is
the first notice sent (R185, R188, R190). -/
def coldStart (cause : StartCause) (straps : Straps) (s : State) : State :=
  let s1 := readStraps straps s
  { s1 with
    cellar := coldCellar s1.pins
    pour := coldPour
    bus := coldBus s.bus.abandon
    acct := coldAccounts
    cool := coldCooling s1.pins
    clean := coldCleaning
    link := startLink 20 straps cause 0 true
    store := coldStore cause }

/-- The start an accepted RESTART or FACTORY CLEAR calls for (R180, R190, R191). -/
def startFor (cause : StartCause) (straps : Straps) (s : State) : State :=
  match cause with
  | .restart => restart straps s
  | .retentionLost => coldStart .retentionLost straps s
  | .factoryClear => coldStart .factoryClear straps s

/-! ### A start cut in the middle (R190, R191) -/

/-- A start abandoned before it has completed: the part is stopped, retained memory is as it was, and the next start begins from the
beginning (R190). A cold start leaves the latch set, so the next start is a cold start with cause RETENTION LOST (R188, R191,
assumption 6). -/
def abandonStart (cut : StartCut) (cold : Bool) (s : State) : State :=
  let s1 := stopPart s
  { s1 with store := { s1.store with
      mainPower := decide (cut = .resetAsserted)
      resetHeld := decide (cut = .resetAsserted)
      retentionLost := s1.store.retentionLost || cold
      heldColdStart := false } }

/-- A start with its cause begins, and completes unless it is cut in the middle (R190). -/
def beginStart (cause : StartCause) (straps : Straps) (cut : Option StartCut) (s : State) : State :=
  match cut with
  | some x => abandonStart x (decide (cause ≠ .restart)) s
  | none => startFor cause straps s

end Sys2Proof.Machine
end

