-- ==== Sys2Proof/Machine/LinkEvents.lean ====
section
/-! DEFINITION. The events of the host link: the pause between bytes, the ends of transmissions and the notice pace (R173, R174,
R177, R180, R183). The bytes of frames are received in Machine/Frames.lean. -/

namespace Sys2Proof.Machine

open Sys2Proof

/-- INTER_BYTE_TIMEOUT: more than 20 ms have passed between two bytes of a frame (R173). -/
def execInterByteTimeout (s : State) : Result := .next (event breakFrame s)

/-- The start that the end of the frame in transmission calls for: that of the slot's reply, after an accepted RESTART or FACTORY
CLEAR (R180). -/
def startCalledFor (s : State) : Option StartCause := if s.link.tx = .reply then s.link.slot.bind (·.start) else none

/-- The last byte of a reply that calls for no start has been sent: the slot, or the BUSY reply place, is released (R174). -/
def replySent (s : State) : State :=
  match s.link.tx with
  | .reply => s.setLink { s.link with slot := none, tx := .idle }
  | .busyReply => s.setLink { s.link with busy := none, tx := .idle }
  | .idle => s
  | .notice _ => s

/-- The last byte of a reply has been sent: the start it calls for begins, and may be cut in the middle; otherwise its place is
released and the transmitter chooses (R174, R177, R180, R190). -/
def replyEnds (straps : Straps) (cut : Option StartCut) (s : State) : State :=
  match startCalledFor s with
  | some cause => if s.takesEvents then beginStart cause straps cut s else s
  | none => event replySent s

/-- REPLY_TRANSMITTED (R174, R177, R180, R190). -/
def execReplyTransmitted (start : StartInputs) (s : State) : Result := .next (replyEnds start.straps start.cut s)

/-- A notice frame has ended (R177). -/
def noticeSent (s : State) : State :=
  match s.link.tx with
  | .notice _ => s.setLink { s.link with tx := .idle }
  | .idle => s
  | .reply => s
  | .busyReply => s

/-- NOTICE_TRANSMITTED (R177). -/
def execNoticeTransmitted (s : State) : Result := .next (event noticeSent s)

/-- The oldest counted notice start has become 1,000 ms old and leaves the count (R183). -/
def paceWaitEnds (s : State) : State := s.setLink { s.link with starts := s.link.starts - 1 }

/-- NOTICE_PACE_WAIT_END (R183). -/
def execNoticePaceWaitEnd (s : State) : Result := .next (event paceWaitEnds s)

end Sys2Proof.Machine
end

