-- ==== Sys2Proof/Machine/PowerEvents.lean ====
section
/-! DEFINITION. The events of the clock, the supplies and the reset input (R26, R187 to R190). -/

namespace Sys2Proof.Machine

open Sys2Proof

/-! ### The clock (R189) -/

/-- One second of the open calibration window's own timer (section 6.4). -/
def windowSecond (w : Window) : Window :=
  if w.isOpen then { w with openTime := min Config.windowSeconds (w.openTime + 1) } else w

/-- The reading advances by 1; a part that takes events and whose clock is set notes a whole minute reached by counting (R26,
R189). The clock counts on the backup supply too, and then no check is due. -/
def countSecond (s : State) : State :=
  let reading := (s.store.clock + 1) % Config.clockModulus
  { s with
    store := { s.store with clock := reading, minuteReached := s.takesEvents && !s.store.unset && reading % 60 = 0 }
    acct := if s.takesEvents then { s.acct with window := windowSecond s.acct.window } else s.acct }

/-- CLOCK_SECOND (R189). -/
def execClockSecond (s : State) : Result := .next (countSecond s)

/-- The age check of every line at a whole minute reached by counting, while the clock is set (R26, R189). The order of the lines,
ascending, is the model's DESIGN CHOICE (assumption 46). -/
def ageCheck (s : State) : State :=
  if s.store.minuteReached && !s.store.unset then
    let s1 := (List.range 48).foldl (fun s n => checkDueAge n s) s
    { s1 with store := { s1.store with minuteReached := false } }
  else s

/-- CLEANING_DUE_AGE_CHECK (R26). -/
def execCleaningDueAgeCheck (s : State) : Result := .next (event ageCheck s)

/-! ### Supplies and reset (R187, R188, R190) -/

/-- Main power falls below its operating level; a start held back by the reset input is abandoned (R187, R190). The latch
stays as it was, whatever the backup supply stands at: the model's DESIGN CHOICE (R188, assumption 63). -/
def powerFail (s : State) : State :=
  let s1 := stopPart s
  { s1 with store := { s1.store with mainPower := false, heldColdStart := false } }

/-- MAIN_POWER_FAIL (R187). -/
def execMainPowerFail (s : State) : Result := .next (powerFail s)

/-- The backup supply falls below the retention minimum: the latch is set while main power is absent (R188). The model keeps no level of
this supply, so a fall that came while main power was present is forgotten, and a supply already below the minimum when main power fails
sets the latch only by a further fall: the model's DESIGN CHOICE (assumption 63). -/
def backupLow (s : State) : State :=
  if s.store.mainPower then s else { s with store := { s.store with retentionLost := true } }

/-- BACKUP_SUPPLY_BELOW_MINIMUM (R188). -/
def execBackupSupplyBelowMinimum (s : State) : Result := .next (backupLow s)

/-- The cause of the start that follows power-up or the release of reset (R188, R190). -/
def causeAfter (cold : Bool) : StartCause := if cold then .retentionLost else .restart

/-- Main power returns: the latch and the check word decide the kind of start, which an asserted reset input holds back (R188,
R190). The check word is not held in State: the manual gives it no width and no algorithm, and `checkPasses` says how the integrity
check came out, the model's DESIGN CHOICE (assumption 64). -/
def powerUp (checkPasses : Bool) (straps : Straps) (cut : Option StartCut) (s : State) : State :=
  let cold := s.store.retentionLost || !checkPasses
  if s.store.mainPower then s
  else if s.store.resetHeld then { s with store := { s.store with mainPower := true, heldColdStart := cold } }
  else beginStart (causeAfter cold) straps cut s

/-- POWER_UP (R188, R190). -/
def execPowerUp (checkPasses : Bool) (start : StartInputs) (s : State) : Result :=
  .next (powerUp checkPasses start.straps start.cut s)

/-- The reset input is asserted: the part is held stopped with its outputs off (R190). -/
def assertReset (s : State) : State :=
  let s1 := stopPart s
  { s1 with store := { s1.store with resetHeld := true } }

/-- RESET_ASSERTED (R190). -/
def execResetAsserted (s : State) : Result := .next (assertReset s)

/-- The reset input is released: the part starts where main power is present (R190). -/
def releaseReset (straps : Straps) (cut : Option StartCut) (s : State) : State :=
  if !s.store.resetHeld then s
  else if s.store.mainPower then beginStart (causeAfter (s.store.retentionLost || s.store.heldColdStart)) straps cut s
  else { s with store := { s.store with resetHeld := false } }

/-- RESET_RELEASED (R190). -/
def execResetReleased (start : StartInputs) (s : State) : Result := .next (releaseReset start.straps start.cut s)

end Sys2Proof.Machine
end

