-- ==== Sys2Proof/Machine/Dispatch.lean ====
section
/-! DEFINITION. What each command does: one arm per constructor of `Instr`, each one call of the command's meaning. -/

namespace Sys2Proof.Machine

open Sys2Proof

def exec (i : Instr) (s : State) : Host.Outcome State Fault Refusal :=
  match i with
  | .status tag => Sys2Proof.Machine.execStatus tag s
  | .noticePace tag pace => Sys2Proof.Machine.execNoticePace tag pace s
  | .timeSet tag reading => Sys2Proof.Machine.execTimeSet tag reading s
  | .timeGet tag => Sys2Proof.Machine.execTimeGet tag s
  | .restart tag => Sys2Proof.Machine.execRestart tag s
  | .factoryClear tag => Sys2Proof.Machine.execFactoryClear tag s
  | .productRegister tag code label => Sys2Proof.Machine.execProductRegister tag code label s
  | .productRemove tag code => Sys2Proof.Machine.execProductRemove tag code s
  | .productRead tag code => Sys2Proof.Machine.execProductRead tag code s
  | .lineSet tag line config => Sys2Proof.Machine.execLineSet tag line config s
  | .lineGet tag line => Sys2Proof.Machine.execLineGet tag line s
  | .lineClear tag line => Sys2Proof.Machine.execLineClear tag line s
  | .lineHoldApply tag line stop => Sys2Proof.Machine.execLineHoldApply tag line stop s
  | .lineHoldRelease tag line causes => Sys2Proof.Machine.execLineHoldRelease tag line causes s
  | .kegAdd tag line kegId product nominal holdAfterSwitch => Sys2Proof.Machine.execKegAdd tag line kegId product nominal holdAfterSwitch s
  | .kegRemove tag line kegId => Sys2Proof.Machine.execKegRemove tag line kegId s
  | .kegSwitch tag line => Sys2Proof.Machine.execKegSwitch tag line s
  | .kegList tag line => Sys2Proof.Machine.execKegList tag line s
  | .tapSetAssign tag tap bar => Sys2Proof.Machine.execTapSetAssign tag tap bar s
  | .tapSetUnassign tag tap bar => Sys2Proof.Machine.execTapSetUnassign tag tap bar s
  | .tapSetCloseOrphan tag tap bar => Sys2Proof.Machine.execTapSetCloseOrphan tag tap bar s
  | .tapGet tag tap => Sys2Proof.Machine.execTapGet tag tap s
  | .sizeSetWrite tag set sizes => Sys2Proof.Machine.execSizeSetWrite tag set sizes s
  | .sizeSetRead tag set => Sys2Proof.Machine.execSizeSetRead tag set s
  | .freeLimitsWrite tag vfree seconds foam => Sys2Proof.Machine.execFreeLimitsWrite tag vfree seconds foam s
  | .freeLimitsRead tag => Sys2Proof.Machine.execFreeLimitsRead tag s
  | .routeWrite tag map first entries => Sys2Proof.Machine.execRouteWrite tag map first entries s
  | .routeRead tag map first count => Sys2Proof.Machine.execRouteRead tag map first count s
  | .routeSwap tag => Sys2Proof.Machine.execRouteSwap tag s
  | .routeCheck tag tap => Sys2Proof.Machine.execRouteCheck tag tap s
  | .barStateSet tag mask => Sys2Proof.Machine.execBarStateSet tag mask s
  | .barStateClear tag mask => Sys2Proof.Machine.execBarStateClear tag mask s
  | .barStateToggle tag mask => Sys2Proof.Machine.execBarStateToggle tag mask s
  | .trunkSet tag trunk setpoint kp cls alarm => Sys2Proof.Machine.execTrunkSet tag trunk setpoint kp cls alarm s
  | .chillerSet tag count points => Sys2Proof.Machine.execChillerSet tag count points s
  | .surgeAdd tag start duration lead boost => Sys2Proof.Machine.execSurgeAdd tag start duration lead boost s
  | .surgeRemove tag start => Sys2Proof.Machine.execSurgeRemove tag start s
  | .coolingGet tag scope trunk => Sys2Proof.Machine.execCoolingGet tag scope trunk s
  | .programLoad tag program threshold steps => Sys2Proof.Machine.execProgramLoad tag program threshold steps s
  | .programRead tag program => Sys2Proof.Machine.execProgramRead tag program s
  | .cleanRequest tag line program => Sys2Proof.Machine.execCleanRequest tag line program s
  | .cleanWithdraw tag line => Sys2Proof.Machine.execCleanWithdraw tag line s
  | .cleanStop tag circuit => Sys2Proof.Machine.execCleanStop tag circuit s
  | .cleanContinue tag circuit => Sys2Proof.Machine.execCleanContinue tag circuit s
  | .cleanAbort tag circuit => Sys2Proof.Machine.execCleanAbort tag circuit s
  | .circuitGet tag circuit => Sys2Proof.Machine.execCircuitGet tag circuit s
  | .returnToService tag line => Sys2Proof.Machine.execReturnToService tag line s
  | .journalRead tag first => Sys2Proof.Machine.execJournalRead tag first s
  | .journalRelease tag through => Sys2Proof.Machine.execJournalRelease tag through s
  | .totalsRead tag scope number => Sys2Proof.Machine.execTotalsRead tag scope number s
  | .histogramRead tag code => Sys2Proof.Machine.execHistogramRead tag code s
  | .totalsClear tag => Sys2Proof.Machine.execTotalsClear tag s
  | .reconcile tag line => Sys2Proof.Machine.execReconcile tag line s
  | .watchSet tag watch entry => Sys2Proof.Machine.execWatchSet tag watch entry s
  | .watchClear tag watch => Sys2Proof.Machine.execWatchClear tag watch s
  | .watchGet tag watch => Sys2Proof.Machine.execWatchGet tag watch s
  | .calOpen tag => Sys2Proof.Machine.execCalOpen tag s
  | .calWrite tag meter number gain offset rReset => Sys2Proof.Machine.execCalWrite tag meter number gain offset rReset s
  | .calRead tag meter number => Sys2Proof.Machine.execCalRead tag meter number s
  | .unknownRequest kind tag body => Sys2Proof.Machine.execUnknownRequest kind tag body s
  | .busyReply kind tag body => Sys2Proof.Machine.execBusyReply kind tag body s
  | .frameDiscarded frame => Sys2Proof.Machine.execFrameDiscarded frame s
  | .interByteTimeout => Sys2Proof.Machine.execInterByteTimeout s
  | .startMarkerReceived => Sys2Proof.Machine.execStartMarkerReceived s
  | .replyTransmitted start => Sys2Proof.Machine.execReplyTransmitted start s
  | .noticeTransmitted => Sys2Proof.Machine.execNoticeTransmitted s
  | .noticePaceWaitEnd => Sys2Proof.Machine.execNoticePaceWaitEnd s
  | .clockSecond => Sys2Proof.Machine.execClockSecond s
  | .cleaningDueAgeCheck => Sys2Proof.Machine.execCleaningDueAgeCheck s
  | .mainPowerFail => Sys2Proof.Machine.execMainPowerFail s
  | .backupSupplyBelowMinimum => Sys2Proof.Machine.execBackupSupplyBelowMinimum s
  | .powerUp checkPasses start => Sys2Proof.Machine.execPowerUp checkPasses start s
  | .resetAsserted => Sys2Proof.Machine.execResetAsserted s
  | .resetReleased start => Sys2Proof.Machine.execResetReleased start s
  | .replyWindowExpiry => Sys2Proof.Machine.execReplyWindowExpiry s
  | .replyByteGapTimeout => Sys2Proof.Machine.execReplyByteGapTimeout s
  | .replyFormatBroken => Sys2Proof.Machine.execReplyFormatBroken s
  | .replyReceived bytes => Sys2Proof.Machine.execReplyReceived bytes s
  | .emptyRoundExpiry => Sys2Proof.Machine.execEmptyRoundExpiry s
  | .foamOnBeerTrip line => Sys2Proof.Machine.execFoamOnBeerTrip line s
  | .detectorRearm line => Sys2Proof.Machine.execDetectorRearm line s
  | .cellarMeterPulse line => Sys2Proof.Machine.execCellarMeterPulse line s
  | .sensorSample returns bath => Sys2Proof.Machine.execSensorSample returns bath s
  | .alarmTimerExpiry trunk => Sys2Proof.Machine.execAlarmTimerExpiry trunk s
  | .releaseTimerExpiry trunk => Sys2Proof.Machine.execReleaseTimerExpiry trunk s
  | .controlPeriodExpiry => Sys2Proof.Machine.execControlPeriodExpiry s
  | .dutyWindowStart => Sys2Proof.Machine.execDutyWindowStart s
  | .valveDutyExpiry trunk => Sys2Proof.Machine.execValveDutyExpiry trunk s
  | .stageFault stage => Sys2Proof.Machine.execStageFault stage s
  | .stageRestored stage => Sys2Proof.Machine.execStageRestored stage s
  | .circuitMeterPulse circuit => Sys2Proof.Machine.execCircuitMeterPulse circuit s
  | .conductivityReading circuit reading => Sys2Proof.Machine.execConductivityReading circuit reading s
  | .supplyLow circuit supply active => Sys2Proof.Machine.execSupplyLow circuit supply active s
  | .flowTimerExpiry circuit => Sys2Proof.Machine.execFlowTimerExpiry circuit s
  | .timedStepExpiry circuit => Sys2Proof.Machine.execTimedStepExpiry circuit s
  | .calSwitchOff off => Sys2Proof.Machine.execCalSwitchOff off s
  | .calWindowTimeout => Sys2Proof.Machine.execCalWindowTimeout s

end Sys2Proof.Machine
end

