-- ==== Sys2Proof/Machine/Step.lean ====
section
/-! DEFINITION. One step: the command at the front of the queue, run on the state with the rest of the queue. -/

namespace Sys2Proof.Machine

open Sys2Proof

/-- The state with the queue `q`. -/
def State.withPending (q : List Instr) (s : State) : State := { s with pending := q }

/-- Runs the command at the front of the queue; with no command waiting the part idles, because everything that happens to it
is a command (assumption 2). -/
def step (s : State) : Host.Outcome State Fault Refusal :=
  match s.pending with
  | [] => .next s
  | c :: rest => exec c (s.withPending rest)

/-- Puts the command a word of the table spells at the front of the queue; the state is unchanged where it spells none. -/
def State.withFetchWord (s : State) (nbits w : Nat) : State :=
  match decodeTableWord nbits w with
  | some c => s.withPending (c :: s.pending)
  | none => s

end Sys2Proof.Machine
end

