-- ==== Sys2Proof/Machine/Outputs.lean ====
section
/-! DEFINITION. The cellar outputs, which follow from the records: keg valves (R4), trunk valves (R135), chiller stages (section 7.5)
and the outputs of the cleaning circuits (R147). Every one of them is off while the part is stopped (R187, R190). -/

namespace Sys2Proof.Machine

open Sys2Proof

/-- The six keg valves of line `n`, `true` for open: the head keg's coupler while the state calls for an open head (R4). -/
def kegValves (s : State) (n : Nat) : Vector Bool 6 :=
  Vector.ofFn fun i =>
    s.takesEvents && headOpen (s.line n) && (s.line n).chain.head?.any fun k => k.coupler = i.val

/-- The valve of trunk `n` (R135). -/
def trunkValve (s : State) (n : Nat) : Bool := s.takesEvents && (s.trunk n).valveOpen

/-- The output of stage record `i` (section 7.5). -/
def stageOutput (s : State) (i : Nat) : Bool := s.takesEvents && (s.stage i).running

/-- The outputs of a cleaning circuit: `recirculate` is the return valve's position, otherwise to drain; one clean valve for each
line (R147). -/
structure CircuitOutputs where
  pump : Bool
  water : Bool
  solution : Bool
  recirculate : Bool
  cleanValves : Vector Bool 48
  deriving DecidableEq, Repr

/-- The step kinds that send the outflow back round the loop (R147). -/
def StepKind.recirculates : StepKind → Bool
  | .circulate => true
  | .soak => true
  | .pause => true
  | .purge => false
  | .rinse => false
  | .fill => false
  | .verify => false

/-- The return valve recirculates: while PAUSED, and in the steps that call for it (R147). -/
def recirculating (s : State) (c : Circuit) : Bool :=
  (s.circuit c).state = .paused ||
    match runningStep s c with
    | some st => st.kind.recirculates
    | none => false

/-- The running step opens the water valve (R147). -/
def waterOpen (s : State) (c : Circuit) : Bool :=
  match runningStep s c with
  | some st => st.kind.drawsWater
  | none => false

/-- The running step opens the solution valve (R147). -/
def solutionOpen (s : State) (c : Circuit) : Bool :=
  match runningStep s c with
  | some st => st.kind = .fill
  | none => false

/-- The clean valve of line `n` to circuit `c`: open while the line is in the circuit's batch (R147). -/
def cleanValve (s : State) (c : Circuit) (n : Nat) : Bool :=
  (s.circuit c).state ≠ .idle && (s.circuit c).batch.contains n

/-- The outputs of circuit `c` (R147, R187). R187 lists no position of the return valve in a stopped part: its output is off, to
drain, the model's DESIGN CHOICE (assumption 50). -/
def circuitOutputs (s : State) (c : Circuit) : CircuitOutputs :=
  { pump := s.takesEvents && pumpOn s c
    water := s.takesEvents && waterOpen s c
    solution := s.takesEvents && solutionOpen s c
    recirculate := s.takesEvents && recirculating s c
    cleanValves := Vector.ofFn fun i => s.takesEvents && cleanValve s c i.val }

end Sys2Proof.Machine
end

