-- ==== Sys2Proof/Machine/Layout.lean ====
section
/-! DEFINITION. The bytes the part sends on the host link: codes of enumerations, journal records (R193), reply and notice bodies
(R192) and whole frames (section 11.2). Where chapter 11 leaves a width or an order open, assumption 17 names the choice. -/

namespace Sys2Proof.Machine

open Sys2Proof

/-! ### Codes: the position in the table or list that defines the name, the first being 0 (section 11.1) -/

/-- Code of a service state (R4). -/
def ServiceState.code : ServiceState → Nat
  | .offline => 0
  | .foul => 1
  | .draining => 2
  | .queued => 3
  | .cleaning => 4
  | .rinsed => 5
  | .priming => 6
  | .serving => 7
  | .dry => 8

/-- Code of a stock level (section 1.1). -/
def StockLevel.code : StockLevel → Nat
  | .normal => 0
  | .low => 1
  | .critical => 2

/-- Code of a tap's presence (section 2.1). -/
def Presence.code : Presence → Nat
  | .absent => 0
  | .present => 1
  | .offline => 2

/-- Code of a map (section 2.3). -/
def MapSel.code : MapSel → Nat
  | .a => 0
  | .b => 1

/-- Code of a pour class (R49, section 11.3). -/
def PourClass.code : PourClass → Nat
  | .portion => 0
  | .free => 1
  | .prime => 2

/-- Code of a tap's pour phase; a tap without a pour is IDLE (R48). -/
def phaseCode : Option PourPhase → Nat
  | none => 0
  | some .granted => 1
  | some .pouring => 2
  | some .orphaned => 3

/-- Code of a node state (section 4.2). -/
def NodeState.code : NodeState → Nat
  | .absent => 0
  | .present => 1
  | .lost => 2

/-- Code of a circuit (section 11.1). -/
def circuitCode : Circuit → Nat
  | .a => 0
  | .b => 1

/-- Code of a circuit state (section 8.5). -/
def CircuitState.code : CircuitState → Nat
  | .idle => 0
  | .running => 1
  | .stopping => 2
  | .paused => 3

/-- Code of a pause cause (section 8.5). -/
def PauseCause.code : PauseCause → Nat
  | .pauseStep => 0
  | .stop => 1

/-- Code of a step kind (section 8.2). -/
def StepKind.code : StepKind → Nat
  | .purge => 0
  | .rinse => 1
  | .fill => 2
  | .soak => 3
  | .circulate => 4
  | .pause => 5
  | .verify => 6

/-- Code of a fault kind, FLOW 1 to RINSE 5 (section 11.3). -/
def FaultKind.code : FaultKind → Nat
  | .flow => 1
  | .sensor => 2
  | .supply => 3
  | .lockout => 4
  | .rinse => 5

/-- Code of a batch's end (section 11.3 note 1). -/
def BatchEnd.code : BatchEnd → Nat
  | .completed => 0
  | .aborted => 1
  | .fault _ => 2

/-- The fault kind's code, 0 for an end that is no fault (section 11.3). -/
def BatchEnd.faultCode : BatchEnd → Nat
  | .completed => 0
  | .aborted => 0
  | .fault k => k.code

/-- The last end status, NONE, COMPLETED, ABORTED or FAULT, and its fault kind (section 8.5), in CIRCUIT GET and the CIRCUIT notice.
The fault kind is coded as in the CLEAN record, FLOW 1 to RINSE 5 and 0 for none, and not by its position from 0: the model's
DESIGN CHOICE (assumption 51). -/
def lastEndField : Option BatchEnd → List Byte
  | none => field 1 0 ++ field 1 0
  | some e => field 1 (e.code + 1) ++ field 1 e.faultCode

/-- Code of a meter kind (section 11.3). -/
def MeterKind.code : MeterKind → Nat
  | .tap => 0
  | .line => 1
  | .circuit => 2

/-- Code of a keg record's cause (R193). -/
def KegCause.code : KegCause → Nat
  | .empty => 0
  | .switched => 1
  | .removed => 2

/-- Code of a watch's target kind (section 11.3). -/
def WatchTarget.code : WatchTarget → Nat
  | .tap _ => 0
  | .line _ => 1
  | .bar _ => 2
  | .all => 3

/-- Number of a watch's target, 0 for ALL (section 11.3). -/
def WatchTarget.number : WatchTarget → Nat
  | .tap n => n
  | .line n => n
  | .bar n => n
  | .all => 0

/-- Code of a watch's condition (section 6.3). -/
def WatchCondition.code : WatchCondition → Nat
  | .anyPour => 0
  | .volumeOver => 1
  | .warm => 2
  | .foamy => 3
  | .shortOrOver => 4

/-- Code of a watch's action (section 6.3). -/
def WatchAction.code : WatchAction → Nat
  | .note => 0
  | .hold => 1

/-- Code of a watch's state (section 6.3). -/
def WatchState.code : WatchState → Nat
  | .off => 0
  | .armed => 1
  | .tripped => 2

/-- Code of a start's cause, in the order in which R178 lists them. -/
def StartCause.code : StartCause → Nat
  | .restart => 0
  | .retentionLost => 1
  | .factoryClear => 2

/-- Code of a reply status (R175, R192). -/
def Status.code : Status → Nat
  | .ok => 0
  | .busy => 1
  | .unknown => 2
  | .format => 3
  | .range => 4
  | .state => 5
  | .locked => 6
  | .tapBusy => 7
  | .lineBusy => 8
  | .full => 9
  | .duplicate => 10
  | .notFound => 11
  | .invalidProgram => 12
  | .programCannotClear => 13

/-- Code of a notice kind (section 9.5). -/
def NoticeKey.code : NoticeKey → Nat
  | .line _ => 0
  | .keg _ => 1
  | .stock _ => 2
  | .node _ => 3
  | .circuit _ => 4
  | .trunk _ => 5
  | .chiller => 6
  | .journal => 7
  | .watch _ => 8
  | .system => 9

/-- Subject of a notice (R182). A CHILLER, JOURNAL or SYSTEM notice has one subject, to which the manual gives no value: 0 is the
model's DESIGN CHOICE (assumption 49). -/
def NoticeKey.subject : NoticeKey → Nat
  | .line n => n
  | .keg n => n
  | .stock n => n
  | .node a => a
  | .circuit c => circuitCode c
  | .trunk n => n
  | .chiller => 0
  | .journal => 0
  | .watch n => n
  | .system => 0

/-- Code of a notice's cause, its position among the causes of its kind (R184, R24, R90, R170, R144, R101, R115, R185). -/
def NoticeCause.code : NoticeCause → Nat
  | .lineState => 0
  | .lineHold => 1
  | .lineFoam => 2
  | .lineDue => 3
  | .lineConfig => 4
  | .kegAdded => 0
  | .kegRemoved => 1
  | .kegEmpty => 2
  | .kegSwitched => 3
  | .stockNormal => 0
  | .stockLow => 1
  | .stockCritical => 2
  | .nodePresent => 0
  | .nodeLost => 1
  | .nodeTaps => 2
  | .nodeAbsent => 3
  | .circuitStarted => 0
  | .circuitStep => 1
  | .circuitPaused => 2
  | .circuitCompleted => 3
  | .circuitAborted => 4
  | .circuitFault => 5
  | .trunkConfig => 0
  | .trunkSensorFault => 1
  | .trunkSensorRestored => 2
  | .trunkAlarm => 3
  | .trunkAlarmClear => 4
  | .stageFault => 0
  | .stageRestored => 1
  | .freeze => 2
  | .freezeClear => 3
  | .bathFault => 4
  | .bathRestored => 5
  | .journalHigh => 0
  | .journalFull => 1
  | .watchTripped => 0
  | .start c => c.code

/-! ### Common fields (section 11.1) -/

/-- A set of members, bit 0 for the first, in `width` bytes (section 11.1). -/
def setField (width : Nat) (members : List Bool) : List Byte :=
  field width (members.foldr (fun b acc => b.toNat + 2 * acc) 0)

/-- A hold set (section 11.1). -/
def holdsField (h : HoldSet) : List Byte := field 1 (holdsByte h)

/-- A clock time with its absence beside it (section 11.1). That the flag follows the 4 bytes and is 1 for absent, the bytes then 0, is
the model's DESIGN CHOICE (assumption 52). -/
def timeField (t : Option Nat) : List Byte := field 4 (t.getD 0) ++ flagField t.isNone

/-- A tally: a 32-bit count and a 48-bit volume (section 5.5). -/
def tallyField (t : Tally) : List Byte := field 4 t.count ++ field 6 t.volume

/-- A line number, 255 for DARK (section 11.1). -/
def lineField (l : Option Nat) : List Byte := field 1 (l.getD 255)

/-- A route: line, portion-only flag, size set (section 2.3). -/
def routeField (r : Route) : List Byte := lineField r.line ++ flagField r.portionOnly ++ field 1 r.sizeSet

/-! ### Journal records (R193) -/

/-- Bytes 23 and 24 of a POUR slot: flags, class and size index (section 11.3 note 2). -/
def flagWord (r : PourRecord) : Nat :=
  r.flags.short.toNat + 2 * r.flags.overTarget.toNat + 4 * r.flags.foamy.toNat + 8 * r.flags.warm.toNat
    + 16 * r.flags.timeout.toNat + 32 * r.flags.forced.toNat + 64 * r.flags.clamped.toNat + 128 * r.flags.cut.toNat
    + 256 * r.flags.lost.toNat + 512 * r.flags.recovered.toNat + 1024 * r.cls.code + 4096 * (r.sizeIndex.getD 0 % 8)

/-- Slot bytes 5 to 24 of a record, unused bytes 0 (section 11.3). -/
def RecordBody.payload : RecordBody → List Byte
  | .pour r =>
    field 1 r.tap ++ field 1 r.line ++ field 1 r.product ++ field 4 r.kegId ++ field 2 (r.target.getD 0)
      ++ field 3 r.volume ++ field 2 r.pulses ++ field 2 r.foamRatio ++ temperatureField r.temperature
      ++ field 2 (flagWord r)
  | .purge line circuit program volume =>
    field 1 line ++ field 1 (circuitCode circuit) ++ field 1 program ++ field 3 volume ++ List.replicate 14 0
  | .keg line kegId product nominal drawn poured variance cause =>
    field 1 line ++ field 1 product ++ field 1 cause.code ++ field 4 kegId ++ field 3 nominal ++ field 3 drawn
      ++ field 3 poured ++ signedField 3 variance ++ [0]
  | .clean line circuit program done total ending mark water solution =>
    field 1 line ++ field 1 (circuitCode circuit) ++ field 1 program ++ field 1 done ++ field 1 total
      ++ field 1 ending.code ++ field 1 ending.faultCode ++ flagField mark ++ field 4 water ++ field 4 solution
      ++ List.replicate 4 0
  | .cal meter number oldGain newGain oldOffset newOffset rReset =>
    field 1 meter.code ++ field 1 number ++ field 2 oldGain ++ field 1 oldOffset ++ field 2 newGain ++ field 1 newOffset
      ++ flagField rReset ++ List.replicate 11 0
  | .watch number target condition threshold tripping =>
    field 1 number ++ field 1 target.code ++ field 1 target.number ++ field 1 condition.code ++ field 3 threshold
      ++ field 4 (tripping.getD 0) ++ List.replicate 9 0

/-- The kind code of a record (R193). -/
def RecordBody.code : RecordBody → Nat
  | .pour _ => 0
  | .purge _ _ _ _ => 1
  | .keg _ _ _ _ _ _ _ _ => 2
  | .clean _ _ _ _ _ _ _ _ _ => 3
  | .cal _ _ _ _ _ _ _ => 4
  | .watch _ _ _ _ _ => 5

/-- The 25-byte slot of a record: time, kind byte with bit 7 for an absent time, payload (R193). The rule gives the 4 time bytes of an
absent time no value; that they are 0 is the model's DESIGN CHOICE (assumption 65). -/
def Record.slot (r : Record) : List Byte :=
  field 4 (r.time.getD 0) ++ field 1 (r.body.code + 128 * r.time.isNone.toNat) ++ r.body.payload

/-- The 32-byte journal status (section 11.3). -/
def statusField (j : JournalStatus) : List Byte :=
  field 2 j.held ++ field 2 j.pourPurge ++ field 4 j.oldest ++ field 4 j.newest ++ field 4 j.next ++ field 4 j.unstoredKeg
    ++ field 4 j.unstoredClean ++ field 4 j.unstoredCal ++ field 4 j.unstoredWatch

/-! ### Records in replies -/

/-- A keg record in the order of section 1.5. -/
def kegField (k : Keg) : List Byte :=
  field 4 k.id ++ field 1 k.coupler ++ field 1 k.product ++ field 3 k.nominal ++ field 4 k.pulses ++ field 3 k.frozen
    ++ field 6 k.poured ++ flagField k.holdAfterSwitch

/-- A keg record with its drawn volume, as KEG LIST returns it (R3). -/
def kegDrawnField (k : Keg × Nat) : List Byte := kegField k.1 ++ field 3 k.2

/-- A line record in the order of section 1.1, every field but the detector armed flag, the keg chain with its records (R3). The
pre-drain state has the code of the service state (section 1.2), not its place in the row of section 1.1: the model's DESIGN CHOICE
(R192, assumption 57). -/
def lineRecordField (l : Line) : List Byte :=
  limitsField l.config ++ field 1 l.stock.code ++ cleaningDueField l.config ++ timeField l.lastClean
    ++ field 4 l.volumeSinceClean ++ flagField l.softAgeNoted ++ flagField l.softVolumeNoted ++ field 1 l.state.code
    ++ optionalField 1 (l.preDrain.map (·.code)) ++ holdsField l.holds ++ flagField l.mark ++ field 2 l.inFlight
    ++ field 2 l.foamCount ++ flagField l.foamAlert ++ field 4 l.primeProgress ++ field 2 l.chain.length
    ++ l.chain.flatMap kegField ++ field 2 l.gain ++ field 6 l.cellarDrawn ++ field 6 l.tapPoured

/-- The in-flight record (R49), preceded by its presence byte; zeros where it is absent. The 3 bytes of a size's target and tolerance
are the model's DESIGN CHOICE (R192, assumption 59). -/
def inFlightField (r : Option InFlight) : List Byte :=
  match r with
  | none => flagField false ++ List.replicate 28 0
  | some r =>
    flagField true ++ field 1 r.token ++ field 1 r.cls.code ++ optionalField 1 (r.size.map (·.index))
      ++ optionalField 3 (r.size.map (·.target)) ++ optionalField 3 (r.size.map (·.tolerance)) ++ field 2 r.budget
      ++ flagField r.clamped ++ field 1 r.maxSeconds ++ field 4 r.grantTime ++ field 1 r.line ++ field 4 r.kegId
      ++ field 2 r.lastRunning ++ flagField r.stopSent

/-- A tap record with its presence, in the order of R31. The learned overrun is a volume that is neither a pour's nor a keg's and has
4 bytes (section 11.1, assumption 36). -/
def tapField (p : Presence) (t : Tap) : List Byte :=
  flagField t.configured ++ field 1 t.bar ++ field 1 p.code ++ flagField t.lockout ++ flagField t.watchBarred
    ++ routeField t.route ++ flagField t.deferred ++ flagField t.withheld ++ field 1 (phaseCode (t.pour.map (·.phase)))
    ++ inFlightField (t.pour.map (·.record)) ++ field 2 t.gain ++ field 2 t.offset ++ field 4 t.overrun
    ++ field 1 t.nextToken ++ tallyField t.portion ++ tallyField t.free ++ tallyField t.prime ++ tallyField t.released
    ++ tallyField t.unjournalled

/-- A trunk record in the order of section 7.1, the valve duty, which follows it, beside the allocation (R127). -/
def trunkField (t : Trunk) : List Byte :=
  signedField 2 t.setpoint ++ field 1 t.kp ++ field 1 t.cls ++ signedField 2 t.alarmThreshold ++ signedField 2 t.reading
    ++ flagField t.sensorFault ++ field 1 t.warm ++ field 1 t.demand ++ field 1 t.allocation ++ field 1 t.allocation
    ++ field 1 t.dutyInForce ++ flagField t.alarm ++ field 2 t.alarmTimer ++ field 1 t.releaseTimer

/-- A trunk record and whether the trunk needed cold at the last period, as COOLING GET returns it (R143). -/
def trunkStateField (t : Trunk) : List Byte := trunkField t ++ flagField t.needed

/-- The chiller's state in the order of R143. The running and the available stages are sent as two sets of one byte and the four times
after them, and not stage by stage: the model's DESIGN CHOICE (assumption 44). -/
def chillerField (c : ChillerView) : List Byte :=
  field 2 c.count ++ field 2 c.points ++ setField 1 c.running.toList ++ setField 1 c.available.toList
    ++ c.times.toList.flatMap (field 2) ++ field 2 c.stagesRunning ++ field 2 c.capacity ++ field 2 c.sumOfDemands
    ++ field 2 c.target ++ signedField 2 c.bath ++ flagField c.bathFault ++ flagField c.freezeHold

/-- A surge plan entry (section 7.3, R133). -/
def surgeField (e : Surge) : List Byte := field 4 e.start ++ field 2 e.duration ++ field 2 e.lead ++ field 1 e.boost

/-- A surge plan entry with its active flag, as COOLING GET returns it (R143). -/
def surgeStateField (e : Surge) : List Byte := surgeField e ++ flagField e.active

/-- A stored step (section 8.2). -/
def programStepField (st : Step) : List Byte :=
  field 1 st.kind.code ++ field 4 st.amount ++ field 4 st.limit ++ flagField st.notify

/-- A program slot; an empty one has a step count of 0 (R150), and a rinse threshold of 0 before it, the model's DESIGN CHOICE
(assumption 53). -/
def programField : Option Program → List Byte
  | none => field 2 0 ++ field 2 0
  | some g => field 2 g.threshold ++ field 2 g.steps.length ++ g.steps.flatMap programStepField

/-- A circuit record in the order of section 8.5 (R157). -/
def circuitRecField (r : CircuitRec) : List Byte :=
  field 1 r.state.code ++ field 2 r.batch.length ++ r.batch.flatMap (field 1) ++ optionalField 1 r.program
    ++ optionalField 1 r.stepIndex ++ field 4 r.progress ++ field 4 r.target ++ field 4 r.settle ++ field 2 r.stepsDone
    ++ optionalField 1 (r.pauseCause.map (·.code)) ++ field 4 r.water ++ field 4 r.solution ++ field 1 r.flowTimer
    ++ lastEndField r.lastEnd ++ field 4 r.unstoredPurge ++ field 2 r.gain ++ field 2 r.offset

/-- What CIRCUIT GET adds to the record: the conductivity, the two inputs, the current step (R157). Section 11.1 has no row for µS/cm:
the signed field of 2 bytes is the model's DESIGN CHOICE (assumption 48). -/
def circuitViewField (c : CircuitView) : List Byte :=
  circuitRecField c.record ++ signedField 2 c.record.conductivity ++ flagField c.waterLow ++ flagField c.solutionLow
    ++ flagField c.step.isSome
    ++ (match c.step with
      | some st => field 1 st.kind.code ++ field 4 st.amount ++ field 4 st.limit
      | none => List.replicate 9 0)

/-- A watch entry in the order of section 6.3. -/
def watchField (w : Watch) : List Byte :=
  field 1 w.target.code ++ field 1 w.target.number ++ field 1 w.condition.code ++ field 4 w.threshold
    ++ field 1 w.action.code ++ field 1 w.state.code ++ field 4 w.count

/-- The calibration window as it is reported (R121). -/
def windowField (w : WindowView) : List Byte := flagField w.isOpen ++ field 2 w.remaining ++ field 1 w.secondsLeft

/-- A meter's figures (R123, R126). The learned overrun, which a line or circuit meter has not, is preceded by a presence byte, zeros
following where it is absent; R192 has that form for fields of requests only, and its use here is the model's DESIGN CHOICE
(assumption 36). -/
def meterField (gain offset : Nat) (overrun : Option Nat) : List Byte :=
  field 2 gain ++ field 2 offset ++ optionalField 4 overrun

/-- The summary in the order of R178. -/
def summaryField (m : Summary) : List Byte :=
  field 4 m.clock ++ flagField m.unset ++ field 1 m.lastStart.code ++ m.linesIn.toList.flatMap (field 2)
    ++ field 2 m.linesHeld ++ m.nodesIn.toList.flatMap (field 2) ++ field 1 m.circuits.a.code ++ field 1 m.circuits.b.code
    ++ field 2 m.queueLength ++ field 2 m.stagesRunning ++ flagField m.freezeHold ++ field 2 m.trunksInAlarm
    ++ field 2 m.held ++ field 4 m.nextSeq ++ field 2 m.notices ++ field 2 m.pace ++ flagField m.calSwitch
    ++ flagField m.windowOpen ++ field 4 m.discarded

/-! ### Replies (R192) -/

/-- The bytes of a reply's body after its status byte (R192). The entries of a ROUTE READ stand first, after their count, and then the
active map, as R37 names them. The head keg's poured volume in a RECONCILE reply has the 6 bytes of a 48-bit total, which it is,
and not the 3 of a volume per keg, the model's DESIGN CHOICE (R112, assumption 35). -/
def ReplyBody.bytes : ReplyBody → List Byte
  | .none => []
  | .summary m => summaryField m
  | .pace n => field 2 n
  | .clock r u => field 4 r ++ flagField u
  | .product c l => field 1 c ++ l.toList
  | .line l => lineRecordField l
  | .kegs ks => field 2 ks.length ++ ks.flatMap kegDrawnField
  | .holds h => holdsField h
  | .coupler n => field 1 n
  | .tap p t => tapField p t
  | .sizes z => sizesField z
  | .limits v t f => field 4 v ++ field 1 t ++ field 2 f
  | .routes m es => field 2 es.length ++ es.flatMap routeField ++ field 1 m.code
  | .swapped m n => field 1 m.code ++ field 2 n
  | .unsafeTap t n => field 1 t ++ field 1 n
  | .routing x y z d w m =>
    routeField x ++ routeField y ++ routeField z ++ flagField d ++ flagField w ++ field 1 m.code
  | .bars b => field 2 b.toNat
  | .trunk t => trunkField t
  | .trunkState t => trunkStateField t
  | .trunks ts => ts.toList.flatMap trunkStateField
  | .chiller c => chillerField c
  | .surgePlan es => field 2 es.length ++ es.flatMap surgeField
  | .surges es => field 2 es.length ++ es.flatMap surgeStateField
  | .program p => programField p
  | .cleanPlace st place c =>
    field 1 st.code ++ optionalField 2 place ++ optionalField 1 (c.map circuitCode)
  | .lineState st => field 1 st.code
  | .circuitState st => field 1 st.code
  | .circuit c => circuitViewField c
  | .records first rs j => field 4 first ++ field 1 rs.length ++ statusField j ++ rs.flatMap Record.slot
  | .released n j => field 2 n ++ statusField j
  | .journalStatus j => statusField j
  | .tapTotals a b c d e => tallyField a ++ tallyField b ++ tallyField c ++ tallyField d ++ tallyField e
  | .sales t => tallyField t
  | .lineVariance c t => field 6 c ++ field 6 t
  | .histogram h => h.toList.flatMap (field 4)
  | .reconciled n c t d id drawn poured =>
    field 1 n ++ field 6 c ++ field 6 t ++ signedField 3 d ++ field 4 id ++ field 3 drawn ++ field 6 poured
  | .watch w => watchField w
  | .watches ws => ws.toList.flatMap watchField
  | .window w => windowField w
  | .meter g o r => meterField g o r
  | .meterAndWindow g o r w => meterField g o r ++ windowField w

/-! ### Notices (R182, R192) -/

/-- The state fields of a notice (R90, R101, R119, R144, R170, R184). The reported tap count of a NODE notice has the 2 bytes of a
count (section 11.1) after a presence byte, since a node that has not replied has reported none; the presence byte is the model's
DESIGN CHOICE (R90, assumption 39). The stages of a CHILLER notice are two sets of one byte (R144, assumption 44). A field that a
notice carries in some states only, as the pre-drain state and the prime progress of a LINE notice, has a presence byte before it
and zeros where it is not carried, the model's DESIGN CHOICE (R184, assumption 17). The pre-drain state has the code of the service
state, the model's DESIGN CHOICE (R192, assumption 57). -/
def NoticeState.bytes : NoticeState → List Byte
  | .line st pre h m foam n p sa sv =>
    field 1 st.code ++ optionalField 1 (pre.map (·.code)) ++ holdsField h ++ flagField m ++ flagField foam ++ field 2 n
      ++ optionalField 4 p ++ flagField sa ++ flagField sv
  | .keg n id c drawn poured => field 2 n ++ field 4 id ++ field 1 c ++ field 3 drawn ++ field 6 poured
  | .stock l r b => field 1 l.code ++ field 4 r ++ flagField b
  | .node st n m i => field 1 st.code ++ optionalField 2 n ++ field 2 m ++ field 2 i
  | .circuit st batch p i done pause w so e =>
    field 1 st.code ++ field 2 batch.length ++ batch.flatMap (field 1) ++ optionalField 1 p ++ optionalField 1 i
      ++ field 2 done ++ optionalField 1 (pause.map (·.code)) ++ field 4 w ++ field 4 so ++ lastEndField e
  | .trunk r f d a du al => signedField 2 r ++ flagField f ++ field 1 d ++ field 1 a ++ field 1 du ++ flagField al
  | .chiller r a b f h => setField 1 r.toList ++ setField 1 a.toList ++ signedField 2 b ++ flagField f ++ flagField h
  | .journal j => statusField j
  | .watch st t c a n =>
    field 1 st.code ++ field 1 t.code ++ field 1 t.number ++ field 1 c.code ++ field 1 a.code ++ field 4 n
  | .system c t u => field 1 c.code ++ field 4 t ++ flagField u

/-- The body of a notice: kind, subject, cause, then the subject's state (R192). -/
def SentNotice.body (n : SentNotice) : List Byte :=
  field 1 n.notice.key.code ++ field 1 n.notice.key.subject ++ field 1 n.notice.cause.code ++ n.state.bytes

/-! ### Frames (section 11.2) -/

/-- A link frame: start marker, length, kind, tag, body and the CRC of all after the marker (section 11.2). -/
def frameBytes (kind tag : Byte) (body : List Byte) : List Byte :=
  0xC3#8 :: withCrc (field 2 (body.length + 2) ++ [kind, tag] ++ body)

/-- The frame of the slot's reply (R175, R192). -/
def Slot.frame (r : Slot) : List Byte := frameBytes r.kind r.tag (field 1 r.status.code ++ r.body.bytes)

/-- The frame of a BUSY reply: the kind, the tag and the status alone (R174). -/
def BusyReply.frame (r : BusyReply) : List Byte := frameBytes r.kind r.tag (field 1 Status.busy.code)

/-- The frame of a notice: kind NOTICE, tag 0 (R182). -/
def SentNotice.frame (n : SentNotice) : List Byte := frameBytes 0x7F#8 0#8 n.body

/-- The bytes the transmitter is sending (R177). -/
def txBytes (s : State) : List Byte :=
  match s.link.tx with
  | .idle => []
  | .reply => (s.link.slot.map Slot.frame).getD []
  | .busyReply => (s.link.busy.map BusyReply.frame).getD []
  | .notice n => n.frame

/-- The bytes of the poll whose reply is awaited (section 11.4). -/
def pollBytes (s : State) : List Byte :=
  match s.bus.phase with
  | .exchange p => p.bytes
  | .emptyRound => []
  | .stopped => []

end Sys2Proof.Machine
end

