-- ==== Sys2Proof/Safety.lean ====
section
/-! DEFINITION. The words the statements use: when the part can take a request, what its reply leaves, and the laws the manual
states of its records. -/

namespace Sys2Proof.Safety

open Sys2Proof Sys2Proof.Machine

/-! ### Requests and their replies -/

/-- The part takes events and the request slot is empty: the next request is dispatched (R174, R187). -/
def Ready (s : State) : Prop := s.takesEvents = true ∧ s.link.slot = none

/-- The calibration window after a request answered with a status other than BUSY: one request fewer, and closed by the last (R122). -/
def countedWindow (w : Window) : Window :=
  if w.isOpen then (if w.remaining ≤ 1 then closedWindow else { w with remaining := w.remaining - 1 }) else w

/-- The state `e` with a reply of kind byte `kind` in the slot: a free transmitter has begun the reply, nothing else of
the link changes (R174, R175, R177). -/
def withReplyTo (kind tag : Byte) (st : Status) (body : ReplyBody) (start : Option StartCause) (e : State) : State :=
  { e with link := { e.link with
      slot := some { kind := kind, tag := tag, status := st, body := body, start := start }
      tx := if e.link.tx = .idle then .reply else e.link.tx } }

/-- The state `e` with a reply to a request of kind `k` in the slot. -/
def withReply (k : RequestKind) (tag : Byte) (st : Status) (body : ReplyBody) (start : Option StartCause) (e : State) : State :=
  withReplyTo (kindCode k) tag st body start e

/-- The state `e` with a further request of the calibration window counted (R122). -/
def counted (e : State) : State := { e with acct := { e.acct with window := countedWindow e.acct.window } }

/-- The state `e` after its request's reply, the request counted in the calibration window. -/
def replied (k : RequestKind) (tag : Byte) (st : Status) (body : ReplyBody) (e : State) : State :=
  withReply k tag st body none (counted e)

/-- The state in which an owner decides a request: the receiver of its frame is hunting again (R173, R174). -/
def hunting (s : State) : State := { s with link := { s.link with receiver := .hunting } }

/-- A refusal: nothing but the reply with the status alone, and the count of the window (R175). -/
def refused (k : RequestKind) (tag : Byte) (st : Status) (e : State) : State := replied k tag st .none e

/-- A frame discarded: the receiver hunts and the frame is counted (R173). -/
def discarding (s : State) : State :=
  { s with link := { s.link with receiver := .hunting, discarded := min 4294967295 (s.link.discarded + 1) } }

/-- A frame of kind byte `kind` that finds the slot held: a BUSY reply in its place, or a discarded frame where the place is
occupied; a free transmitter has begun the slot's reply (R174, R177). -/
def heldAnswer (kind tag : Byte) (s : State) : State :=
  let l : Link := { s.link with receiver := .hunting, tx := if s.link.tx = .idle then .reply else s.link.tx }
  if s.link.busy.isSome then { s with link := { l with discarded := min 4294967295 (s.link.discarded + 1) } }
  else { s with link := { l with busy := some { kind := kind, tag := tag } } }

/-- Every cellar output is off: keg valves and trunk valves shut, stages and pumps off, supply and clean valves shut (R187). -/
def OutputsOff (s : State) : Prop :=
  (∀ n, kegValves s n = Vector.replicate 6 false) ∧ (∀ n, trunkValve s n = false) ∧ (∀ i, stageOutput s i = false)
    ∧ ∀ c, circuitOutputs s c = { pump := false, water := false, solution := false, recirculate := false,
                                  cleanValves := Vector.replicate 48 false }

/-- Every field of a LINE SET is in its range (R2, section 1.1). -/
def ConfigInRange (s : State) (c : LineConfig) : Prop :=
  c.trunk ≤ 11 ∧ (c.product = 0 ∨ ∃ p ∈ s.cellar.products, p.code = c.product)
    ∧ 100 ≤ c.fillVolume ∧ c.fillVolume ≤ 200000 ∧ c.primeMargin ≤ 50000
    ∧ -100 ≤ c.serveLimit ∧ c.serveLimit ≤ 300 ∧ c.serveLimit ≤ c.hardLimit ∧ c.hardLimit ≤ 300
    ∧ c.lowThreshold ≤ 12000000 ∧ c.criticalThreshold ≤ c.lowThreshold
    ∧ 1 ≤ c.softAge ∧ c.softAge ≤ c.hardAge ∧ c.hardAge ≤ 8760
    ∧ c.softVolume ≤ 2000000000 ∧ c.hardVolume ≤ 2000000000
    ∧ (c.softVolume ≠ 0 → c.hardVolume ≠ 0 → c.softVolume ≤ c.hardVolume)

/-- The stock level that thresholds give a remaining stock (R24). -/
def levelOf (remaining low critical : Nat) : StockLevel :=
  if remaining < critical then .critical else if remaining < low then .low else .normal

/-- From `s` to `t` at most line `n`, the accounts, the taps, the bus and the pending notices change. -/
def LineEvent (n : Nat) (s t : State) : Prop :=
  (∀ m, m ≠ n → t.line m = s.line m) ∧ t.cellar.products = s.cellar.products
    ∧ t.cellar.detectorArmed = s.cellar.detectorArmed ∧ t.cool = s.cool ∧ t.clean = s.clean ∧ t.store = s.store
    ∧ t.pins = s.pins ∧ t.pending = s.pending ∧ t.link = { s.link with notices := t.link.notices }

/-- From `s` to `t` at most line `n` and the pending notices change. -/
def OnlyLine (n : Nat) (s t : State) : Prop := LineEvent n s t ∧ t.pour = s.pour ∧ t.bus = s.bus ∧ t.acct = s.acct

/-- From `s` to `t` no pending notice changes but those of the subjects listed. -/
def NoticesOnly (keys : List NoticeKey) (s t : State) : Prop :=
  ∀ x : Notice, x.key ∉ keys → (x ∈ t.link.notices ↔ x ∈ s.link.notices)

/-- A change of a line's hold set from `s` to `t` leaves a pending LINE notice with cause HOLD; the pending LINE notices of a line whose
hold set is the same are as they were (R12). -/
def HoldsNotified (s t : State) : Prop :=
  ∀ n, n < 48 →
    ((t.line n).holds ≠ (s.line n).holds → { key := .line n, cause := .lineHold } ∈ t.link.notices)
    ∧ ((t.line n).holds = (s.line n).holds → ∀ x : Notice, x.key = .line n → (x ∈ t.link.notices ↔ x ∈ s.link.notices))

/-- A change of line `n`'s stock level from `s` to `t` leaves a pending STOCK notice whose cause is the new level; without one the
pending STOCK notices of the line are as they were (R24). -/
def StockNotified (n : Nat) (s t : State) : Prop :=
  let old := (s.line n).stock
  let new := (t.line n).stock
  (new ≠ old → { key := .stock n, cause := stockCause new } ∈ t.link.notices)
    ∧ (new = old → ∀ x : Notice, x.key = .stock n → (x ∈ t.link.notices ↔ x ∈ s.link.notices))

/-- The line `l` after the keg at its head, before the kegs `rest`, has retired (R13, R21, R24). -/
def retiredLine (l : Line) (rest : List Keg) : Line :=
  let heldBy : Bool := match rest with
    | [] => false
    | h :: _ => h.holdAfterSwitch || h.product ≠ l.config.product
  let remaining := (rest.map fun q => q.nominal - drawnVolume l.gain q).sum
  { l with
    chain := rest, cellarDrawn := 0, tapPoured := 0, foamCount := 0, foamAlert := false
    holds := { l.holds with keg := l.holds.keg || heldBy }
    stock := if l.state = .offline then l.stock else levelOf remaining l.config.lowThreshold l.config.criticalThreshold
    state := if rest = [] ∧ l.state = .serving then .dry else l.state }

/-- From `s` to `t` the head keg `k` of line `n` retires with a cause: one KEG record is taken with the keg's own figures, the line
changes as `retiredLine` says, and where a SERVING line runs dry every pour on it is stopped; nothing else changes but pending
notices. KEG is posted with the cause, STOCK at a change of level, and LINE with the last of FOAM, where a set alert is cleared, HOLD,
where the KEG cause is added, and STATE, where the line runs dry, in this order (R12, R21, R24, R25). -/
def Retires (n : Nat) (k : Keg) (rest : List Keg) (cause : KegCause) (s t : State) : Prop :=
  let l := s.line n
  let d := drawnVolume l.gain k
  let dry := rest = [] ∧ l.state = .serving
  LineEvent n s t ∧ t.line n = retiredLine l rest
    ∧ t.acct = (takeRecord (.keg n k.id k.product k.nominal d k.poured ((d : Int) - k.poured) cause) s).acct
    ∧ (dry → t.pour = (stopLine n s).pour ∧ t.bus = (stopLine n s).bus)
    ∧ (¬ dry → t.pour = s.pour ∧ t.bus = s.bus)
    ∧ { key := .keg n, cause := kegNotice cause } ∈ t.link.notices
    ∧ StockNotified n s t ∧ NoticesOnly [.line n, .keg n, .stock n, .journal] s t
    ∧ (dry → { key := .line n, cause := .lineState } ∈ t.link.notices)
    ∧ (¬ dry → (t.line n).holds ≠ l.holds → { key := .line n, cause := .lineHold } ∈ t.link.notices)
    ∧ (¬ dry → (t.line n).holds = l.holds → l.foamAlert = true → { key := .line n, cause := .lineFoam } ∈ t.link.notices)
    ∧ (¬ dry → (t.line n).holds = l.holds → l.foamAlert = false → NoticesOnly [.keg n, .stock n, .journal] s t)

/-! ### The drain condition and routes -/

/-- From `s` to `t` the drain condition of line `n` is evaluated (R6, R151, R156). A DRAINING line with no pour in flight and every tap
routed to it locked becomes QUEUED, its entry ready, and the first IDLE circuit, A before B, serves the queue; a QUEUED line whose
condition fails becomes DRAINING, its entry not ready; anything else stays. -/
def DrainEvaluated (n : Nat) (s t : State) : Prop :=
  let l := s.line n
  let drained := l.inFlight = 0 ∧ ∀ i, i < 128 → (s.tap i).route.line = some n → (s.tap i).lockout = true
  let moved : ServiceState → Bool → State := fun st ready =>
    let u := post (.line n) .lineState (s.setLine n { l with state := st })
    { u with clean := { u.clean with
      queue := s.clean.queue.map fun e => if e.line = n then { e with ready := ready } else e } }
  let queued := moved .queued true
  (l.state = .draining → drained → t = if (s.circuit .a).state = .idle then serve .a queued
      else if (s.circuit .b).state = .idle then serve .b queued else queued)
    ∧ (l.state = .draining → ¬ drained → t = s)
    ∧ (l.state = .queued → drained → t = s)
    ∧ (l.state = .queued → ¬ drained → t = moved .draining false)
    ∧ (l.state ≠ .draining → l.state ≠ .queued → t = s)

/-- From `s` to `t` the drain condition of the line, if any, that a route names is evaluated. -/
def DrainAt (line : Option Nat) (s t : State) : Prop :=
  match line with
  | none => t = s
  | some n => DrainEvaluated n s t

/-- From `s` to `t` a tap's change of line from `old` to `new` is reported: where they differ, the drain conditions of both are evaluated,
the old line's first (R35). That order is the model's choice (assumption 46). -/
def LineChanged (old new : Option Nat) (s t : State) : Prop :=
  (old = new → t = s) ∧ (old ≠ new → ∃ u, DrainAt old s u ∧ DrainAt new u t)

/-- From `s` to `t` the route of tap `i` that waits is applied (R40, R41): without the deferred flag nothing changes; with it the tap takes
its entry of the active map, or, where that names a CLEANING line and the tap is not locked, is withheld with the route DARK. -/
def RouteApplied (i : Nat) (s t : State) : Prop :=
  let x := s.tap i
  let entry := mapEntry (if s.pour.active = .a then s.pour.mapA else s.pour.mapB) i
  let dark : Route := { line := none, portionOnly := false, sizeSet := 0 }
  let withheld := x.lockout = false ∧ ∃ n, entry.line = some n ∧ (s.line n).state = .cleaning
  (x.deferred = false → t = s)
    ∧ (x.deferred = true → withheld →
        LineChanged x.route.line none (s.setTap i { x with deferred := false, withheld := true, route := dark }) t)
    ∧ (x.deferred = true → ¬ withheld →
        LineChanged x.route.line entry.line (s.setTap i { x with deferred := false, route := entry }) t)

/-- From `s` to `t` tap `i` takes up the map a swap has made active (R39): an IDLE tap copies its entry and is withheld no longer, and a
change of its line evaluates the drain conditions of both lines (R6, R35); any other tap is deferred. -/
def TapSwaps (i : Nat) (s t : State) : Prop :=
  let x := s.tap i
  let entry := mapEntry (if s.pour.active = .a then s.pour.mapA else s.pour.mapB) i
  (x.pour = none → LineChanged x.route.line entry.line (s.setTap i { x with route := entry, withheld := false }) t)
    ∧ (x.pour ≠ none → t = s.setTap i { x with deferred := true })

/-- From `s` to `t` tap `i` returns to IDLE: the STOP items of its pour's token leave the list of its node, the pour's record is
discarded, and a deferred route is applied (R40, R48, R79). -/
def TapIdles (i token : Nat) (s t : State) : Prop :=
  let n := s.node (i / 4 + 1)
  let freed := s.setNode (i / 4 + 1) { n with items := n.items.filter fun q => decide (q.item ≠ .stop (i % 4) token) }
  RouteApplied i (freed.setTap i { s.tap i with pour := none }) t

/-! ### The ends of pours -/

/-- The POUR record of a pour at tap `i` that ends measured, its in-flight record `r` and its end `e` (R59 to R64, R94). -/
def measuredRecord (i : Nat) (r : InFlight) (e : PourEnd) (s : State) : PourRecord :=
  let l := s.line r.line
  let v := pulseVolume (s.tap i).gain (s.tap i).offset e.pulses
  let keg : Nat × Nat := match l.chain with
    | [] => (0, l.config.product)
    | k :: _ => (k.id, k.product)
  let ratio := e.fast * 256 / e.pulses
  { tap := i, line := r.line, product := keg.2, kegId := keg.1, cls := r.cls
    sizeIndex := r.size.map (·.index), target := r.size.map (·.target), volume := v, pulses := e.pulses, foamRatio := ratio
    temperature := e.temperature
    flags :=
      { short := r.size.any fun z => decide (v + z.tolerance < z.target)
        overTarget := r.size.any fun z => decide (z.target + z.tolerance < v)
        foamy := decide (s.pour.foamThreshold < ratio)
        warm := e.temperature.any fun x => decide (l.config.serveLimit < x)
        timeout := decide (e.cause = some .timeout)
        forced := decide (e.cause = some .forced)
        clamped := r.clamped
        cut := decide (keg.1 ≠ r.kegId)
        lost := e.lost
        recovered := e.recovered } }

/-- The end of an accepted DONE with the figures of R57: the fast pulses at most the pulses, an unusable temperature absent, an
EXPIRED with pulses a HANDLE; RECOVERED where the pour was ORPHANED (R72). -/
def doneEnd (phase : PourPhase) (pulses fast : Nat) (temperature : Option Int) (cause : EndCause) : PourEnd :=
  { pulses := pulses, fast := min fast pulses
    temperature := temperature.bind fun v => if -300 ≤ v ∧ v ≤ 700 then some v else none
    cause := some (if cause = .expired ∧ pulses ≠ 0 then .handle else cause)
    lost := false, recovered := decide (phase = .orphaned) }

/-- The end of an orphan closed LOST: its last running pulses, no fast pulses, no temperature, no end cause (R73). -/
def lostEnd (r : InFlight) : PourEnd :=
  { pulses := r.lastRunning, fast := 0, temperature := none, cause := none, lost := true, recovered := false }

/-- What every end of the pour `r` at tap `i` does from `s` to `t`: the line's in-flight count goes down by 1; of every other tap
at most the route, the withheld flag and the watch-barred flag change; and no journal record leaves (R23, R57, R58, R66). Where the
tap was not deferred, it keeps its route, and a DRAINING line whose last pour this was becomes QUEUED where every tap routed to it is
locked, and stays so while no circuit is IDLE (R6); where it was deferred, it has its entry of the active map, or is withheld with the
route DARK, which happens only to a tap that is not locked and whose entry names a line (R40, R41). -/
def PourLeaves (i : Nat) (r : InFlight) (s t : State) : Prop :=
  (t.line r.line).inFlight = (s.line r.line).inFlight - 1
    ∧ (∀ m, m ≠ r.line → (t.line m).inFlight = (s.line m).inFlight ∧ (t.line m).chain = (s.line m).chain
        ∧ (t.line m).tapPoured = (s.line m).tapPoured ∧ (t.line m).volumeSinceClean = (s.line m).volumeSinceClean
        ∧ (t.line m).foamCount = (s.line m).foamCount ∧ (t.line m).foamAlert = (s.line m).foamAlert)
    ∧ (∀ j, j ≠ i → t.tap j = { s.tap j with
        route := (t.tap j).route, withheld := (t.tap j).withheld, watchBarred := (t.tap j).watchBarred })
    ∧ s.acct.journal <+: t.acct.journal ∧ t.store = s.store ∧ t.pins = s.pins
    ∧ ((s.tap i).deferred = false → (s.tap i).withheld = false →
        (t.tap i).route = (s.tap i).route ∧ (t.tap i).withheld = false)
    ∧ ((s.tap i).deferred = true → (s.tap i).withheld = false →
        let entry := mapEntry (if s.pour.active = .a then s.pour.mapA else s.pour.mapB) i
        ((t.tap i).route = entry ∧ (t.tap i).withheld = false)
          ∨ ((t.tap i).route = { line := none, portionOnly := false, sizeSet := 0 } ∧ (t.tap i).withheld = true
            ∧ (s.tap i).lockout = false ∧ entry.line ≠ none))
    ∧ ((s.tap i).deferred = false → (s.line r.line).state = .draining →
        (s.circuit .a).state ≠ .idle → (s.circuit .b).state ≠ .idle →
        let drained := (s.line r.line).inFlight ≤ 1
          ∧ ∀ j, j < 128 → (s.tap j).route.line = some r.line → (s.tap j).lockout = true
        (drained → (t.line r.line).state = .queued) ∧ (¬ drained → (t.line r.line).state = .draining))

/-- The pour `r` at tap `i` ends with no pulses from `s` to `t`: the in-flight count goes down, the drain condition of the line is
evaluated, and the tap is IDLE with its deferred route applied; no keg, total, figure of the line or learned overrun changes (R6, R40, R58).
-/
def SilentEnd (i : Nat) (r : InFlight) (s t : State) : Prop :=
  PourLeaves i r s t
    ∧ t.tap i = { s.tap i with
        pour := none, deferred := false, route := (t.tap i).route, withheld := (t.tap i).withheld }
    ∧ (t.line r.line).chain = (s.line r.line).chain ∧ (t.line r.line).tapPoured = (s.line r.line).tapPoured
    ∧ (t.line r.line).volumeSinceClean = (s.line r.line).volumeSinceClean
    ∧ (t.line r.line).foamCount = (s.line r.line).foamCount ∧ (t.line r.line).foamAlert = (s.line r.line).foamAlert
    ∧ t.cellar.products = s.cellar.products ∧ t.cool = s.cool
    ∧ ∃ u, DrainEvaluated r.line (s.setLine r.line { s.line r.line with inFlight := (s.line r.line).inFlight - 1 }) u
        ∧ TapIdles i r.token u t

/-- The pour `r` at tap `i` ends measured, with 1 pulse or more, from `s` to `t` (R23, R59 to R66, R94, R99, R102, R103): the keg at
the head and the line take the volume; the foam count and alert, the TEMP cause and the volume part of the cleaning-due check
follow, and the line's pending notice has the last cause of FOAM, HOLD for TEMP, DUE and HOLD for OVERDUE, in this order, the last two
in the order of R26's text (assumption 18); the POUR record is taken, or the pour folded into the tap's unjournalled tally where the
journal, as the Line Manager's part of the end leaves it, has no room; the totals, the product's figures, the warm counter and the learned
overrun follow; and the tap is IDLE. In between stand `x`, with the Line Manager's part done but for the drain condition, `u`, with the
drain condition evaluated (R6), and `y`, with the accounts and the cooling told, from which the tap returns to IDLE and its deferred route
is applied (R40). -/
def MeasuredEnd (i : Nat) (r : InFlight) (e : PourEnd) (s t : State) : Prop :=
  let l := s.line r.line
  let x := s.tap i
  let p := measuredRecord i r e s
  let v := p.volume
  let up48 : Nat → Nat := fun n => min 281474976710655 (n + v)
  let more : Tally → Tally := fun y => { count := min 4294967295 (y.count + 1), volume := up48 y.volume }
  let total : PourClass → Tally → Tally := fun c y => if r.cls = c then more y else y
  let count := if e.lost then l.foamCount else if p.flags.foamy then min 3 (l.foamCount + 1) else 0
  let since := min 4294967295 (l.volumeSinceClean + v)
  let alert := if e.lost then l.foamAlert else p.flags.foamy && (l.foamAlert || decide (count = 3))
  let newTemp := l.holds.temp = false ∧ ∃ y, e.temperature = some y ∧ l.config.hardLimit < y
  let newDue := l.state ≠ .offline ∧ l.softVolumeNoted = false ∧ l.config.softVolume ≠ 0 ∧ l.config.softVolume ≤ since
  let newOver := l.state ≠ .offline ∧ l.holds.overdue = false ∧ l.config.hardVolume ≠ 0 ∧ l.config.hardVolume ≤ since
  let noted : NoticeCause → List Notice := fun c => mergeNotice (.line r.line) c s.link.notices
  let u := applyPour r.line v p.flags.foamy e.lost e.temperature s
  let room := u.acct.journal.length < 4096 ∧ u.acct.nextSeq ≤ 4294967295 ∧ u.acct.pourPurge < 4032
  PourLeaves i r s t
    ∧ (t.line r.line).chain = (match l.chain with
        | [] => []
        | k :: rest => { k with poured := up48 k.poured } :: rest)
    ∧ (t.line r.line).tapPoured = up48 l.tapPoured ∧ (t.line r.line).volumeSinceClean = since
    ∧ (t.line r.line).foamCount = count
    ∧ (t.line r.line).foamAlert = alert
    ∧ (t.line r.line).holds.temp = (l.holds.temp || e.temperature.any fun y => decide (l.config.hardLimit < y))
    ∧ (l.state ≠ .offline →
        (t.line r.line).softVolumeNoted
          = (l.softVolumeNoted || decide (l.config.softVolume ≠ 0 ∧ l.config.softVolume ≤ since))
        ∧ (t.line r.line).holds.overdue
          = (l.holds.overdue || decide (l.config.hardVolume ≠ 0 ∧ l.config.hardVolume ≤ since)))
    ∧ t.tap i = { x with
        pour := none, deferred := false
        portion := total .portion x.portion, free := total .free x.free, prime := total .prime x.prime
        unjournalled := if room then x.unjournalled else more x.unjournalled
        overrun := if r.cls = .portion ∧ e.cause = some .budget ∧ p.flags.foamy = false ∧ e.lost = false
          then learnOverrun x.overrun ((v : Int) - pulseVolume x.gain x.offset r.budget) else x.overrun
        route := (t.tap i).route, withheld := (t.tap i).withheld, watchBarred := (t.tap i).watchBarred }
    ∧ (room → { seq := u.acct.nextSeq, time := if s.store.unset then none else some s.store.clock, body := .pour p }
        ∈ t.acct.journal)
    ∧ t.cellar.products = (if r.cls = .prime then s.cellar.products
        else s.cellar.products.map fun q => if q.code = p.product then
            (let bucket := if v < 6000 then v / 1000 else if v < 8000 then 6 else 7
             { q with
               sales := more q.sales
               histogram := q.histogram.mapIdx fun b n => if b = bucket then min 4294967295 (n + 1) else n })
          else q)
    ∧ (∀ n, n < 12 → t.trunk n = { s.trunk n with
        warm := if p.flags.warm ∧ n = l.config.trunk then min 255 ((s.trunk n).warm + 1) else (s.trunk n).warm })
    ∧ t.cool = { s.cool with trunks := t.cool.trunks }
    ∧ (∃ x : State, DrainEvaluated r.line x u
        ∧ (x.line r.line).state = l.state ∧ (x.line r.line).inFlight = l.inFlight - 1
        ∧ (∀ m, m ≠ r.line → x.line m = s.line m)
        ∧ (newOver → x.link.notices = noted .lineHold)
        ∧ (¬ newOver → newDue → x.link.notices = noted .lineDue)
        ∧ (¬ newOver → ¬ newDue → newTemp → x.link.notices = noted .lineHold)
        ∧ (¬ newOver → ¬ newDue → ¬ newTemp → x.link.notices
            = if alert = l.foamAlert then s.link.notices else noted .lineFoam)
        ∧ x = { s with
            cellar := { s.cellar with lines := x.cellar.lines }, link := { s.link with notices := x.link.notices } })
    ∧ (∃ y, TapIdles i r.token y t
        ∧ (∀ j, (y.tap j).route = (u.tap j).route ∧ (y.tap j).deferred = (u.tap j).deferred
            ∧ (y.tap j).withheld = (u.tap j).withheld ∧ (y.tap j).lockout = (u.tap j).lockout)
        ∧ (∀ m, (y.line m).state = (u.line m).state ∧ (y.line m).inFlight = (u.line m).inFlight)
        ∧ y = { u with
            cellar := { u.cellar with lines := y.cellar.lines, products := y.cellar.products }
            pour := { u.pour with taps := y.pour.taps, barOpen := y.pour.barOpen }
            acct := y.acct, cool := { u.cool with trunks := y.cool.trunks }
            link := { u.link with notices := y.link.notices } })

/-! ### The tap bus -/

/-- Three bytes spell the status of one tap: bit 0 is lockout, bit 1 says that a pour is open, and then the two bytes after it are its
running pulses; every other bit is ignored, and so are the pulses where no pour is open (section 11.4, R194). -/
def TapSpelled (b : List Byte) (x : TapStatus) : Prop :=
  ∃ st high low : Byte, b = [st, high, low] ∧ x.lockout = st.getLsbD 0
    ∧ x.running = if st.getLsbD 1 then some (high.toNat * 256 + low.toNat) else none

/-- The bytes of one event: its number and its kind in the first byte, its local index in the second, then the size byte of an ASK, or
the token, the pulses, the fast pulses, the temperature and the end cause of a DONE, a code above 4 taken as HANDLE (section 11.4,
R194). -/
def EventSpelled (b : List Byte) (e : Event) : Prop :=
  ∃ head loc : Byte, e.number = head.toNat % 16 ∧ e.loc = loc.toNat ∧ loc.toNat ≤ 3
    ∧ ((head.toNat / 16 = 1 ∧ ∃ size : Byte, b = [head, loc, size] ∧ e.body = .ask size.toNat)
      ∨ (head.toNat / 16 = 2 ∧ ∃ token p1 p0 f1 f0 t1 t0 cause : Byte,
          b = [head, loc, token, p1, p0, f1, f0, t1, t0, cause]
          ∧ (let tenths := t1.toNat * 256 + t0.toNat
             e.body = .done token.toNat (p1.toNat * 256 + p0.toNat) (f1.toNat * 256 + f0.toNat)
              (if tenths = 32768 then none else some (if tenths < 32768 then (tenths : Int) else (tenths : Int) - 65536))
              (([EndCause.budget, .handle, .timeout, .forced, .expired][cause.toNat]?).getD .handle))))

/-- The bytes `b` spell the reply `r` up to its CRC: the address, 1 to 4 taps behind their count, and at most 4 events behind theirs
(section 11.4, R194). -/
def ReplySpelled (b : List Byte) (r : BusReply) : Prop :=
  ∃ (address : Byte) (taps events : List (List Byte)),
    r.address = address.toNat ∧ List.Forall₂ TapSpelled taps r.taps ∧ List.Forall₂ EventSpelled events r.events
    ∧ 1 ≤ r.taps.length ∧ r.taps.length ≤ 4 ∧ r.events.length ≤ 4
    ∧ b = address :: BitVec.ofNat 8 r.taps.length :: taps.flatten ++ BitVec.ofNat 8 r.events.length :: events.flatten

/-- From `s` to `t` the STOP items of tap `i` and a token leave the list of the tap's node, and nothing else of the bus changes (R79). -/
def StopGone (i token : Nat) (s t : State) : Prop :=
  (∀ b, 1 ≤ b → t.node b = if b = i / 4 + 1
      then { s.node b with items := (s.node b).items.filter fun q => decide (q.item ≠ .stop (i % 4) token) } else s.node b)
    ∧ t.bus = { s.bus with nodes := t.bus.nodes }

/-- The node record of address `a` in `t` is `old` with the fast threshold computed again from the taps of `t`: 5 / 3 of the lowest
gain of the node's configured taps, rounded down, setup due where it differs; without a configured tap the record is `old` (R80). -/
def Rethresholded (a : Nat) (old : Node) (t : State) : Prop :=
  let x : Nat → Tap := fun i => t.tap (4 * (a - 1) + i)
  ((∀ i, i < 4 → (x i).configured = false) → t.node a = old)
    ∧ (∀ i, i < 4 → (x i).configured = true → (∀ j, j < 4 → (x j).configured = true → (x i).gain ≤ (x j).gain) →
        let th := (x i).gain * 5 / 3
        t.node a = { old with threshold := th, setupDue := old.setupDue || decide (th ≠ old.threshold) })

/-- Address `a` is due in a round of number `round`: configured, and PRESENT or the round a probe round (R76). -/
def DueIn (round : Nat) (s : State) (a : Nat) : Prop :=
  nodeConfigured s a = true ∧ ((s.node a).state = .present ∨ round = 0)

/-- `b` is the first due address of the round from address `first` on (R76). -/
def FirstDue (round first : Nat) (s : State) (b : Nat) : Prop :=
  first ≤ b ∧ b ≤ 32 ∧ DueIn round s b ∧ ∀ c, first ≤ c → c < b → ¬ DueIn round s c

/-- From `s` to `t` address `b` is polled in a round of number `round`: the exchange is begun with the poll of the node's record, the
items it has places for are marked as carried and none leaves the list; nothing else changes (R74, R77). -/
def Polls (round b : Nat) (s t : State) : Prop :=
  let n := s.node b
  let places := if n.setupDue then 3 else 4
  t.node b = { n with items := n.items.zipIdx.map fun x => { x.1 with carried := decide (x.2 < places) } }
    ∧ (∀ c, 1 ≤ c → c ≠ b → t.node c = s.node c)
    ∧ t = { s with bus := { s.bus with
        nodes := t.bus.nodes, round := round, phase := .exchange (formPoll b n), abandoned := none } }

/-- From `s` to `t` the round ends and the next begins: its number is 1 higher, 0 after 7; its first due address is polled, or, where
none is due, the round is empty (R76). -/
def NextRound (s t : State) : Prop :=
  let round := (s.bus.round + 1) % 8
  (∀ b, FirstDue round 1 s b → Polls round b s t)
    ∧ ((∀ b, 1 ≤ b → b ≤ 32 → ¬ DueIn round s b) →
        t = { s with bus := { s.bus with round := round, phase := .emptyRound, abandoned := none } })

/-! ### Tags -/

/-- The tag a request carries; 0 for a command that is no request. -/
def tagOf : Instr → Byte
  | .status t => t
  | .noticePace t _ => t
  | .timeSet t _ => t
  | .timeGet t => t
  | .restart t => t
  | .factoryClear t => t
  | .productRegister t _ _ => t
  | .productRemove t _ => t
  | .productRead t _ => t
  | .lineSet t _ _ => t
  | .lineGet t _ => t
  | .lineClear t _ => t
  | .lineHoldApply t _ _ => t
  | .lineHoldRelease t _ _ => t
  | .kegAdd t _ _ _ _ _ => t
  | .kegRemove t _ _ => t
  | .kegSwitch t _ => t
  | .kegList t _ => t
  | .tapSetAssign t _ _ => t
  | .tapSetUnassign t _ _ => t
  | .tapSetCloseOrphan t _ _ => t
  | .tapGet t _ => t
  | .sizeSetWrite t _ _ => t
  | .sizeSetRead t _ => t
  | .freeLimitsWrite t _ _ _ => t
  | .freeLimitsRead t => t
  | .routeWrite t _ _ _ => t
  | .routeRead t _ _ _ => t
  | .routeSwap t => t
  | .routeCheck t _ => t
  | .barStateSet t _ => t
  | .barStateClear t _ => t
  | .barStateToggle t _ => t
  | .trunkSet t _ _ _ _ _ => t
  | .chillerSet t _ _ => t
  | .surgeAdd t _ _ _ _ => t
  | .surgeRemove t _ => t
  | .coolingGet t _ _ => t
  | .programLoad t _ _ _ => t
  | .programRead t _ => t
  | .cleanRequest t _ _ => t
  | .cleanWithdraw t _ => t
  | .cleanStop t _ => t
  | .cleanContinue t _ => t
  | .cleanAbort t _ => t
  | .circuitGet t _ => t
  | .returnToService t _ => t
  | .journalRead t _ => t
  | .journalRelease t _ => t
  | .totalsRead t _ _ => t
  | .histogramRead t _ => t
  | .totalsClear t => t
  | .reconcile t _ => t
  | .watchSet t _ _ => t
  | .watchClear t _ => t
  | .watchGet t _ => t
  | .calOpen t => t
  | .calWrite t _ _ _ _ _ => t
  | .calRead t _ _ => t
  | .unknownRequest _ t _ => t
  | .busyReply _ t _ => t
  | .frameDiscarded _ => 0
  | .interByteTimeout => 0
  | .startMarkerReceived => 0
  | .replyTransmitted _ => 0
  | .noticeTransmitted => 0
  | .noticePaceWaitEnd => 0
  | .clockSecond => 0
  | .cleaningDueAgeCheck => 0
  | .mainPowerFail => 0
  | .backupSupplyBelowMinimum => 0
  | .powerUp _ _ => 0
  | .resetAsserted => 0
  | .resetReleased _ => 0
  | .replyWindowExpiry => 0
  | .replyByteGapTimeout => 0
  | .replyFormatBroken => 0
  | .replyReceived _ => 0
  | .emptyRoundExpiry => 0
  | .foamOnBeerTrip _ => 0
  | .detectorRearm _ => 0
  | .cellarMeterPulse _ => 0
  | .sensorSample _ _ => 0
  | .alarmTimerExpiry _ => 0
  | .releaseTimerExpiry _ => 0
  | .controlPeriodExpiry => 0
  | .dutyWindowStart => 0
  | .valveDutyExpiry _ => 0
  | .stageFault _ => 0
  | .stageRestored _ => 0
  | .circuitMeterPulse _ => 0
  | .conductivityReading _ _ => 0
  | .supplyLow _ _ _ => 0
  | .flowTimerExpiry _ => 0
  | .timedStepExpiry _ => 0
  | .calSwitchOff _ => 0
  | .calWindowTimeout => 0

/-! ### The laws of the records -/

/-- The law of the journal: sequence numbers without gaps up to the next number less 1, and the counts within their bounds (R91 to
R93). -/
def JournalLaw (s : State) : Prop :=
  s.acct.journal.map (·.seq) = List.range' (s.acct.nextSeq - s.acct.journal.length) s.acct.journal.length
    ∧ s.acct.journal.length < s.acct.nextSeq
    ∧ s.acct.nextSeq ≤ 4294967296
    ∧ s.acct.journal.length ≤ 4096
    ∧ s.acct.pourPurge = s.acct.journal.countP (fun r => r.body.isPourPurge)
    ∧ s.acct.pourPurge ≤ 4032

/-- The law of the notice list: at most one entry for any kind and subject; and the pace lies in 1–50 (R179, R181). -/
def NoticeLaw (s : State) : Prop :=
  (s.link.notices.map (·.key)).Nodup ∧ 1 ≤ s.link.pace ∧ s.link.pace ≤ 50

/-- Every keg id of the part, line by line. -/
def kegIds (s : State) : List Nat := s.cellar.lines.toList.flatMap fun l => l.chain.map (·.id)

/-- The law of chains: no keg id appears twice, and no chain holds more than 6 kegs (R18). -/
def ChainLaw (s : State) : Prop := (kegIds s).Nodup ∧ ∀ l ∈ s.cellar.lines.toList, l.chain.length ≤ 6

/-- Number of taps whose in-flight pour names line `n`. -/
def poursOn (s : State) (n : Nat) : Nat :=
  s.pour.taps.toList.countP fun t => t.pour.any fun p => p.record.line = n

/-- The law of in-flight pours: a line's count equals the number of taps whose in-flight pour names it (R17). -/
def InFlightLaw (s : State) : Prop := ∀ n, n < 48 → (s.line n).inFlight = poursOn s n

/-- A tap's token, overrun and granted budget are in their ranges (R49, R55, R65). -/
def TapOk (t : Tap) : Prop :=
  t.nextToken ≤ 255 ∧ t.overrun ≤ 300
    ∧ ∀ p ∈ t.pour, p.record.token ≤ 255 ∧ 1 ≤ p.record.budget ∧ p.record.budget ≤ 65535

/-- Every tap's metering figures are in their ranges (R55, R65). -/
def MeteringLaw (s : State) : Prop := ∀ t ∈ s.pour.taps.toList, TapOk t

/-- Volume of the POUR records of tap `t` that the journal holds. -/
def heldVolume (s : State) (t : Nat) : Nat :=
  (s.acct.journal.map fun r => match r.body with
    | .pour p => if p.tap = t then p.volume else 0
    | .purge _ _ _ _ => 0
    | .keg _ _ _ _ _ _ _ _ => 0
    | .clean _ _ _ _ _ _ _ _ _ => 0
    | .cal _ _ _ _ _ _ _ => 0
    | .watch _ _ _ _ _ => 0).sum

/-- The law of conservation: a tap's class volumes are what the journal holds of it, plus what was released, plus what was not
journaled (R107). -/
def ConservationLaw (s : State) : Prop :=
  ∀ t, t < 128 → (s.tap t).portion.volume + (s.tap t).free.volume + (s.tap t).prime.volume
    = heldVolume s t + (s.tap t).released.volume + (s.tap t).unjournalled.volume

/-- No volume of a tap has reached the maximum at which it saturates (R104). -/
def Unsaturated (s : State) : Prop :=
  ∀ t, t < 128 → (s.tap t).portion.volume < 281474976710655 ∧ (s.tap t).free.volume < 281474976710655
    ∧ (s.tap t).prime.volume < 281474976710655 ∧ (s.tap t).released.volume < 281474976710655
    ∧ (s.tap t).unjournalled.volume < 281474976710655

/-- The sum of the trunks' allocations. -/
def totalAllocation (s : State) : Nat := (s.cool.trunks.toList.map (·.allocation)).sum

/-- The law of allocation: the allocations stay within the capacity of the running stages, and every duty in 0–100 %; classes and
demands are in their ranges (R131, R134). -/
def AllocationLaw (s : State) : Prop :=
  totalAllocation s ≤ s.cool.running * s.cool.points
    ∧ ∀ t ∈ s.cool.trunks.toList, t.demand ≤ 100 ∧ t.allocation ≤ 100 ∧ t.dutyInForce ≤ 100 ∧ 1 ≤ t.cls ∧ t.cls ≤ 3
        ∧ 1 ≤ t.allocCls ∧ t.allocCls ≤ 3

/-- The law of staging: a running stage is configured and available, and none runs while the part is stopped (R137, R187). -/
def StagingLaw (s : State) : Prop :=
  ∀ i, i < 4 → (s.stage i).running = true → stageAvailable s i = true ∧ s.takesEvents = true

/-- What the law of the mark says of a line in service state `st` (R11). -/
def markFits (st : ServiceState) (mark : Bool) : Prop :=
  ((st = .offline ∨ st = .foul) → mark = true)
    ∧ ((st = .rinsed ∨ st = .priming ∨ st = .serving ∨ st = .dry) → mark = false)

/-- The pre-drain states (R5). -/
def isPreDrain (st : ServiceState) : Prop :=
  st = .foul ∨ st = .rinsed ∨ st = .priming ∨ st = .serving ∨ st = .dry

/-- The law of the mark, for a line: by its state, and for a DRAINING or QUEUED line by the state it returns to (R5, R11). -/
def LineMarkLaw (l : Line) : Prop :=
  markFits l.state l.mark
    ∧ ((l.state = .draining ∨ l.state = .queued) → ∃ st, l.preDrain = some st ∧ isPreDrain st ∧ markFits st l.mark)

/-- The law of the mark (R11). -/
def MarkLaw (s : State) : Prop := ∀ n, n < 48 → LineMarkLaw (s.line n)

/-- The law of the queue: at most one entry per line, a line has one exactly when it is DRAINING or QUEUED, and its ready flag is
set exactly while it is QUEUED (R151). -/
def QueueLaw (s : State) : Prop :=
  (s.clean.queue.map (·.line)).Nodup
    ∧ (∀ e ∈ s.clean.queue, e.line < 48)
    ∧ (∀ n, n < 48 → ((∃ e ∈ s.clean.queue, e.line = n) ↔ ((s.line n).state = .draining ∨ (s.line n).state = .queued)))
    ∧ (∀ e ∈ s.clean.queue, (e.ready = true ↔ (s.line e.line).state = .queued))

/-- A line is CLEANING exactly when it is in a circuit's batch; no line is in both, and an IDLE circuit has no batch (R147, R155,
R169). -/
def BatchLaw (s : State) : Prop :=
  (∀ n, n < 48 → ((s.line n).state = .cleaning ↔ (n ∈ (s.circuit .a).batch ∨ n ∈ (s.circuit .b).batch)))
    ∧ (∀ n ∈ (s.circuit .a).batch, n < 48 ∧ n ∉ (s.circuit .b).batch)
    ∧ (∀ n ∈ (s.circuit .b).batch, n < 48)
    ∧ (s.circuit .a).batch.Nodup ∧ (s.circuit .b).batch.Nodup
    ∧ ((s.circuit .a).state = .idle → (s.circuit .a).batch = [])
    ∧ ((s.circuit .b).state = .idle → (s.circuit .b).batch = [])

/-- Every tap routed to a QUEUED or CLEANING line has lockout on, as last reported (R6, R168). -/
def LockLaw (s : State) : Prop :=
  ∀ n, n < 48 → ((s.line n).state = .queued ∨ (s.line n).state = .cleaning) → tapsLocked s n = true

/-- The law of taking: while circuit A or circuit B is IDLE no queue entry is ready, because an IDLE circuit takes the entries that become
ready (R156). -/
def TakingLaw (s : State) : Prop :=
  (s.circuit .a).state = .idle ∨ (s.circuit .b).state = .idle → ∀ e ∈ s.clean.queue, e.ready = false

/-- The laws of cleaning together (R11, R147, R151). -/
def CleaningLaws (s : State) : Prop := MarkLaw s ∧ QueueLaw s ∧ BatchLaw s

end Sys2Proof.Safety
end

