-- ==== Sys2Proof/Certificates/Slice0/Obligations.lean ====
section
/-! DEFINITION. The statements about the model: what a step runs, what the link does with frames, what each family of commands
changes and leaves, and the laws every step keeps. An equation `exec c s = .next t` states the whole next state: every block and
field that `t` does not change is as it was. Requests are stated from `Ready` states; their effect is applied to `hunting s`, the
state in which the owner decides. -/

open Sys2Proof Sys2Proof.Machine Sys2Proof.Safety

/-! ### The step and the link -/

/-- A step runs the command at the front of the queue on the state with the queue's rest. -/
def Obligations.StepRunsFront : Prop :=
  ∀ (c : Instr) (q : List Instr) (s : State), step (s.withPending (c :: q)) = exec c (s.withPending q)

/-- Every command answers a next state and leaves the queue: no command faults and none is refused by the model. That the manual gives
every command an effect in every condition, so that nothing ends a run, is the model's deduction (assumption 33). -/
def Obligations.EveryCommandCompletes : Prop :=
  ∀ (c : Instr) (s : State), ∃ t, exec c s = .next t ∧ t.pending = s.pending

/-- While the part is stopped it takes no request, and no other command but those of the clock, the supplies and the reset input
changes more than the level of an input. That a stopped part discards what arrives and still follows its input levels is the
model's deduction (assumption 4).
The loss of main power and the reset input stop the part: every cellar output is off, it transmits on neither path, and every
record of lines, taps, journal and cleaning stays as it was (R187, R190). That the records of stages and trunk valves of the stopped
part read as off and shut is the model's deduction too (assumption 22); that the return valve's output off is the position to drain is
its choice (assumption 50), and so is that the loss of main power leaves the retention lost latch as it was, whatever the backup supply
stands at (assumption 63). -/
def Obligations.StoppedPart : Prop :=
  (∀ (c : Instr) (s : State), s.takesEvents = false →
      ((∃ f, decisionOf c = some f) → exec c s = .next s)
      ∧ (c ≠ .clockSecond → c ≠ .mainPowerFail → c ≠ .backupSupplyBelowMinimum → c ≠ .resetAsserted →
          (∀ ok start, c ≠ .powerUp ok start) → (∀ start, c ≠ .resetReleased start) →
          ∃ p, exec c s = .next { s with pins := p }))
  ∧ (∀ (c : Instr) (s : State), (c = .mainPowerFail ∨ c = .resetAsserted) →
      ∃ t, exec c s = .next t ∧ t.takesEvents = false ∧ OutputsOff t
        ∧ t.bus.phase = .stopped ∧ t.bus.nodes = s.bus.nodes ∧ t.bus.round = s.bus.round
        ∧ t.link = { s.link with tx := .idle }
        ∧ t.cellar = s.cellar ∧ t.pour = s.pour ∧ t.acct = s.acct ∧ t.clean = s.clean ∧ t.pins = s.pins
        ∧ (∀ i, i < 4 → (t.stage i).running = false) ∧ (∀ n, n < 12 → (t.trunk n).valveOpen = false)
        ∧ (c = .mainPowerFail → t.store = { s.store with mainPower := false, heldColdStart := false })
        ∧ (c = .resetAsserted → t.store = { s.store with resetHeld := true }))

/-- Every request that finds the slot empty is decided by its owner and answered with the owner's status and body; where the
calibration window was open and the answer is not BUSY, the request is counted (R122, R174, R175). -/
def Obligations.RequestAnswered : Prop :=
  ∀ (c : Instr) (f : State → Decision) (s : State), decisionOf c = some f → Ready s →
    ∃ k b, encodeRequest c = some (k, b)
      ∧ exec c s = .next (withReply k (tagOf c) (f (hunting s)).status (f (hunting s)).body (f (hunting s)).start
          (if s.acct.window.isOpen = true ∧ (f (hunting s)).status ≠ .busy then counted (f (hunting s)).state
           else (f (hunting s)).state))

/-- The body a host sends for a well-formed request is at most 240 bytes long and is read back as that request, under the kind
that its kind code names. The widths and the order of the fields where chapter 11 leaves them open, the flag bytes and the fixed
shape of a program step are the model's choices (assumptions 17, 59, 5 and 16). -/
def Obligations.BodyRoundTrip : Prop :=
  ∀ (c : Instr) (k : RequestKind) (b : List Byte), c.wf = true → encodeRequest c = some (k, b) →
    readRequest k (tagOf c) b = some (some c) ∧ kindOfCode (kindCode k) = some k ∧ b.length ≤ 240

/-- A frame that takes the slot and spells no request is answered UNKNOWN where its kind names none, FORMAT where its body does
not match the kind, RANGE where its operation is not defined, FREE LIMITS with its values beside it (R50); nothing else changes.
A frame of any kind that finds the slot held is answered BUSY from the BUSY reply place, or discarded and counted where that
place is occupied, and changes nothing else (R174, R175). A frame whose body is above 240 bytes is discarded for its length (R173). That one
command stands for a whole received frame is the model's choice (assumption 13). -/
def Obligations.FramesAnswered : Prop :=
  (∀ (kind tag : Byte) (b : List Byte) (s : State), Ready s → b.length ≤ 240 →
      (kindOfCode kind = none →
        exec (.unknownRequest kind tag b) s = .next (withReplyTo kind tag .unknown .none none (counted (hunting s))))
      ∧ (∀ k, kindOfCode kind = some k → readRequest k tag b = none →
        exec (.unknownRequest kind tag b) s = .next (withReplyTo kind tag .format .none none (counted (hunting s))))
      ∧ (∀ k, kindOfCode kind = some k → readRequest k tag b = some none →
        exec (.unknownRequest kind tag b) s = .next (withReplyTo kind tag .range
          (if k = .freeLimits then .limits s.pour.vfree s.pour.freeSeconds s.pour.foamThreshold else .none) none
          (counted (hunting s)))))
  ∧ (∀ (s : State), s.takesEvents = true → s.link.slot.isSome = true →
      (∀ c k b, encodeRequest c = some (k, b) → exec c s = .next (heldAnswer (kindCode k) (tagOf c) s))
      ∧ (∀ kind tag b, b.length ≤ 240 → exec (.unknownRequest kind tag b) s = .next (heldAnswer kind tag s))
      ∧ (∀ kind tag b, b.length ≤ 240 → exec (.busyReply kind tag b) s = .next (heldAnswer kind tag s)))
  ∧ (∀ (kind tag : Byte) (b : List Byte) (s : State), s.takesEvents = true → 240 < b.length →
      exec (.unknownRequest kind tag b) s = .next (transmit (discarding s))
      ∧ exec (.busyReply kind tag b) s = .next (transmit (discarding s)))

/-- The receiver reads a hunting part's bytes: a byte other than the start marker is nothing, a length below 2 or above 242 and a CRC that
does not match discard the frame, a frame cut short is in progress, and a frame whose CRC matches is received as a whole frame is.
Bytes that come later go on with a frame in progress: the length's two bytes, one by one, then the bytes up to the last of the CRC,
which receives or discards the frame; so a frame whose bytes arrive in two commands is received as a whole one is, at the second.
A framing error and a pause discard a frame in progress and are nothing while hunting; a start marker moves a hunting receiver to
reading the length and is a byte like any other inside a frame; that a command carries the bytes received is the model's choice
(assumption 13).
The end of a transmission: the last byte of the slot's reply releases the slot, or begins the start that an accepted RESTART or
FACTORY CLEAR calls for, which may be cut in the middle (assumption 6); that of a BUSY reply frees its place; that of a notice frees
the transmitter; and a notice start that becomes 1,000 ms old leaves the count (R173, R174, R177, R180, R183, R190). -/
def Obligations.LinkEvents : Prop :=
  (∀ (s : State), s.takesEvents = true →
      (s.link.receiver = .hunting →
          (∀ b, b ≠ 0xC3#8 → exec (.frameDiscarded ⟨[b], false⟩) s = .next (transmit s))
          ∧ (∀ hi lo : Byte, ¬ (2 ≤ hi.toNat * 256 + lo.toNat ∧ hi.toNat * 256 + lo.toNat ≤ 242) →
              exec (.frameDiscarded ⟨[0xC3#8, hi, lo], false⟩) s = .next (transmit (discarding s)))
          ∧ (∀ hi lo : Byte, ∀ got : List Byte, 2 ≤ hi.toNat * 256 + lo.toNat → hi.toNat * 256 + lo.toNat ≤ 242 →
              got.length < hi.toNat * 256 + lo.toNat + 2 →
              exec (.frameDiscarded ⟨0xC3#8 :: hi :: lo :: got, false⟩) s
                = .next (transmit { s with link := { s.link with
                    receiver := .readingFrame (hi.toNat * 256 + lo.toNat) got } })
              ∧ exec (.frameDiscarded ⟨0xC3#8 :: hi :: lo :: got, true⟩) s = .next (transmit (discarding s)))
          ∧ (∀ kind tag body, body.length ≤ 240 →
              exec (.frameDiscarded ⟨frameBytes kind tag body, false⟩) s = exec (.unknownRequest kind tag body) s)
          ∧ (∀ (kind tag : Byte) (body : List Byte) (crc : BitVec 16), body.length ≤ 240 →
              let front := bytesOf 2 (body.length + 2) ++ kind :: tag :: body
              crc ≠ crc16 front →
              exec (.frameDiscarded ⟨0xC3#8 :: front ++ bytesOf 2 crc.toNat, false⟩) s = .next (transmit (discarding s)))
          ∧ exec (.frameDiscarded ⟨[], true⟩) s = .next (transmit s)
          ∧ exec .interByteTimeout s = .next (transmit s)
          ∧ exec .startMarkerReceived s
              = .next (transmit { s with link := { s.link with receiver := .readingLength none } }))
      ∧ (s.link.receiver = .hunting → ∀ (kind tag : Byte) (body front rest : List Byte), body.length ≤ 240 →
          frameBytes kind tag body = front ++ rest → rest ≠ [] →
          ∃ t, exec (.frameDiscarded ⟨front, false⟩) s = .next t
            ∧ t = transmit { s with link := { s.link with receiver := t.link.receiver } }
            ∧ exec (.frameDiscarded ⟨rest, false⟩) t = exec (.unknownRequest kind tag body) (hunting t))
      ∧ (∀ b, s.link.receiver = .readingLength none → exec (.frameDiscarded ⟨[b], false⟩) s
          = .next (transmit { s with link := { s.link with receiver := .readingLength (some b) } }))
      ∧ (∀ hi lo, s.link.receiver = .readingLength (some hi) →
          let length := hi.toNat * 256 + lo.toNat
          (2 ≤ length → length ≤ 242 → exec (.frameDiscarded ⟨[lo], false⟩) s
            = .next (transmit { s with link := { s.link with receiver := .readingFrame length [] } }))
          ∧ (length < 2 ∨ 242 < length → exec (.frameDiscarded ⟨[lo], false⟩) s = .next (transmit (discarding s))))
      ∧ (∀ length got bytes, s.link.receiver = .readingFrame length got →
          (got.length + bytes.length < length + 2 →
            exec (.frameDiscarded ⟨bytes, false⟩) s = .next (transmit { s with link := { s.link with
              receiver := .readingFrame length (got ++ bytes) } })
            ∧ exec (.frameDiscarded ⟨bytes, true⟩) s = .next (transmit (discarding s)))
          ∧ (∀ (kind tag : Byte) (body : List Byte) (crc : BitVec 16), bytes ≠ [] → body.length ≤ 240 →
              length = body.length + 2 → got ++ bytes = kind :: tag :: body ++ bytesOf 2 crc.toNat →
              let front := bytesOf 2 length ++ kind :: tag :: body
              (crc = crc16 front →
                exec (.frameDiscarded ⟨bytes, false⟩) s = exec (.unknownRequest kind tag body) (hunting s))
              ∧ (crc ≠ crc16 front → exec (.frameDiscarded ⟨bytes, false⟩) s = .next (transmit (discarding s)))))
      ∧ (s.link.receiver ≠ .hunting →
          exec (.frameDiscarded ⟨[], true⟩) s = .next (transmit (discarding s))
          ∧ exec .interByteTimeout s = .next (transmit (discarding s)))
      ∧ exec .startMarkerReceived s = exec (.frameDiscarded ⟨[0xC3#8], false⟩) s)
  ∧ (∀ (s : State) (straps : Straps) (cut : Option StartCut), s.takesEvents = true →
      (∀ x, s.link.tx = .reply → s.link.slot = some x → x.start = none →
        exec (.replyTransmitted ⟨straps, cut⟩) s = .next (transmit { s with link := { s.link with slot := none, tx := .idle } }))
      ∧ (∀ x cause, s.link.tx = .reply → s.link.slot = some x → x.start = some cause →
        exec (.replyTransmitted ⟨straps, none⟩) s = .next (startFor cause straps s)
        ∧ ∀ y, exec (.replyTransmitted ⟨straps, some y⟩) s = .next (abandonStart y (decide (cause ≠ .restart)) s))
      ∧ (s.link.tx = .busyReply →
        exec (.replyTransmitted ⟨straps, cut⟩) s = .next (transmit { s with link := { s.link with busy := none, tx := .idle } }))
      ∧ (∀ n, s.link.tx = .notice n →
        exec .noticeTransmitted s = .next (transmit { s with link := { s.link with tx := .idle } }))
      ∧ exec .noticePaceWaitEnd s = .next (transmit { s with link := { s.link with starts := s.link.starts - 1 } }))

/-- What the transmitter chooses: a frame begun goes on; a free one takes the slot's reply, then a BUSY reply, then the oldest notice
while fewer notices than the pace have begun, with its subject's state as it stands; otherwise it waits.
A posting merges: where the list holds an entry of the kind and subject the order of the entries stays and one entry takes the
cause, otherwise the new entry joins the tail; no other entry changes, and nothing else of the part does (R177, R181 to R183).
The state a notice carries is that of its subject when it is sent, with the fields its kind has, whatever its cause (R90, R98, R101,
R119, R144, R170, R182, R184). That the stages running and available of a CHILLER notice are two sets is the model's choice (assumption
44). -/
def Obligations.NoticesPostedAndSent : Prop :=
  (∀ (s : State),
      (s.link.tx ≠ .idle → transmit s = s)
      ∧ (s.link.tx = .idle → s.link.slot.isSome = true → transmit s = { s with link := { s.link with tx := .reply } })
      ∧ (s.link.tx = .idle → s.link.slot = none →
          (s.link.busy.isSome = true → transmit s = { s with link := { s.link with tx := .busyReply } })
          ∧ (s.link.busy = none →
              (∀ n rest, s.link.notices = n :: rest → s.link.starts < s.link.pace →
                transmit s = { s with link := { s.link with
                  notices := rest, starts := s.link.starts + 1,
                  tx := .notice { notice := n, state := noticeState s n } } })
              ∧ (s.link.notices = [] ∨ s.link.pace ≤ s.link.starts → transmit s = s))))
  ∧ (∀ (key : NoticeKey) (cause : NoticeCause) (s : State),
      post key cause s = { s with link := { s.link with notices := (post key cause s).link.notices } }
      ∧ (post key cause s).link.notices.map (·.key)
          = (if key ∈ s.link.notices.map (·.key) then s.link.notices.map (·.key) else s.link.notices.map (·.key) ++ [key])
      ∧ { key := key, cause := cause } ∈ (post key cause s).link.notices
      ∧ (∀ n, n.key ≠ key → (n ∈ (post key cause s).link.notices ↔ n ∈ s.link.notices)))
  ∧ (∀ (cause : NoticeCause) (s : State),
      let carried : NoticeKey → NoticeState := fun key => noticeState s { key := key, cause := cause }
      (∀ n,
        let l := s.line n
        let drawn : Keg → Nat := fun k => k.frozen + (k.pulses * l.gain + 500) / 1000
        carried (.line n) = .line l.state (if l.state = .draining ∨ l.state = .queued then l.preDrain else none) l.holds l.mark
            l.foamAlert l.inFlight (if l.state = .priming then some l.primeProgress else none) l.softAgeNoted l.softVolumeNoted
        ∧ (l.chain = [] → carried (.keg n) = .keg 0 0 0 0 0)
        ∧ (∀ k rest, l.chain = k :: rest →
            carried (.keg n) = .keg (rest.length + 1) k.id k.coupler (drawn k) k.poured)
        ∧ carried (.stock n) = .stock l.stock ((l.chain.map fun k => k.nominal - drawn k).sum)
            (decide (l.stock = .critical ∧ l.config.ration = true)))
      ∧ (∀ a, carried (.node a)
          = .node (s.node a).state (s.node a).tapCount (s.node a).misses (s.node a).items.length)
      ∧ (∀ c, let r := s.circuit c
          carried (.circuit c)
            = .circuit r.state r.batch r.program r.stepIndex r.stepsDone r.pauseCause r.water r.solution r.lastEnd)
      ∧ (∀ n, let r := s.trunk n
          carried (.trunk n) = .trunk r.reading r.sensorFault r.demand r.allocation r.dutyInForce r.alarm)
      ∧ (∃ running available, carried .chiller
            = .chiller running available s.cool.bath s.cool.bathFault s.cool.freezeHold
          ∧ ∀ i : Fin 4, running[i] = (s.stage i.val).running
            ∧ available[i] = (decide (i.val < s.cool.count) && !s.pins.stageFault[i]))
      ∧ (let a := s.acct
         carried .journal = .journal
          { held := a.journal.length, pourPurge := a.pourPurge, oldest := a.nextSeq - a.journal.length, newest := a.nextSeq - 1
            next := a.nextSeq, unstoredKeg := a.unstoredKeg, unstoredClean := a.unstoredClean, unstoredCal := a.unstoredCal
            unstoredWatch := a.unstoredWatch })
      ∧ (∀ w, let e := s.watch w
          carried (.watch w) = .watch e.state e.target e.condition e.action e.count)
      ∧ carried .system = .system s.store.lastStart s.store.clock s.store.unset)

/-- NOTICE PACE stores the pace brought into 1–50 or reads it, and the reply carries it as stored; the pace is kept at restart and
is 20 after a cold start (R179). -/
def Obligations.NoticePace : Prop :=
  (∀ (tag : Byte) (n : Nat) (s : State), Ready s →
    exec (.noticePace tag (some n)) s
      = .next (replied .noticePace tag .ok (.pace (max 1 (min 50 n)))
          { hunting s with link := { (hunting s).link with pace := max 1 (min 50 n) } }))
  ∧ (∀ (tag : Byte) (s : State), Ready s →
    exec (.noticePace tag none) s = .next (replied .noticePace tag .ok (.pace s.link.pace) (hunting s)))
  ∧ (∀ (straps : Straps) (s : State), (restart straps s).link.pace = s.link.pace)
  ∧ (∀ (cause : StartCause) (straps : Straps) (s : State), (coldStart cause straps s).link.pace = 20)

/-! ### The clock, the supplies and the starts -/

/-- The clock: TIME SET replaces the reading and clears the unset flag, TIME GET reads both, and each second the reading advances by 1
and passes from 4,294,967,295 to 0, the unset flag keeping its value, whether or not the part is stopped (R189). The note of a
whole minute, which a second leaves where the part takes events, the clock is set and the new reading is a multiple of 60, and the
window's open time, counted up to 30 while the window is open, are the model's (assumptions 10 and 11).
The age check at a whole minute noted: for every configured line with a last-clean time, the soft-age noted flag is set from the soft
age on and the OVERDUE cause from the hard age on, a negative age counting as 0; nothing else of any line changes (R26, R189). A line
that gains the flag posts LINE with cause DUE, and one that gains OVERDUE posts LINE with cause HOLD (R12); where both come at once HOLD
is the last, the order of R26's text (assumption 18). No other pending notice changes. Without the note, and while the clock is unset, the
check changes nothing. -/
def Obligations.ClockAndAges : Prop :=
  ((∀ (tag : Byte) (r : Nat) (s : State), Ready s →
      exec (.timeSet tag r) s
        = .next (replied .timeSet tag .ok (.clock r false)
            { hunting s with store := { s.store with clock := r, unset := false, minuteReached := false } }))
    ∧ (∀ (tag : Byte) (s : State), Ready s →
      exec (.timeGet tag) s = .next (replied .timeGet tag .ok (.clock s.store.clock s.store.unset) (hunting s)))
    ∧ (∀ (s : State),
        let reading := (s.store.clock + 1) % 4294967296
        let w := s.acct.window
        exec .clockSecond s
        = .next { s with
            store := { s.store with
              clock := reading
              minuteReached := decide (s.takesEvents = true ∧ s.store.unset = false ∧ reading % 60 = 0) }
            acct := { s.acct with window := { w with
              openTime := if s.takesEvents = true ∧ w.isOpen = true then min 30 (w.openTime + 1) else w.openTime } } }))
  ∧ (∀ (s : State), s.takesEvents = true → s.store.minuteReached = false ∨ s.store.unset = true →
      exec .cleaningDueAgeCheck s = .next (transmit s))
  ∧ (∀ (s : State), s.takesEvents = true → s.store.minuteReached = true → s.store.unset = false →
      ∃ t, exec .cleaningDueAgeCheck s = .next (transmit t)
        ∧ (∀ n, n < 48 →
            let l := s.line n
            let reached : Nat → Bool := fun hours => match l.lastClean with
              | some c => l.state ≠ .offline && decide (hours * 3600 ≤ s.store.clock - c)
              | none => false
            t.line n = { l with
              softAgeNoted := l.softAgeNoted || reached l.config.softAge
              holds := { l.holds with overdue := l.holds.overdue || reached l.config.hardAge } }
            ∧ (let due := l.softAgeNoted = false ∧ reached l.config.softAge = true
               let hard := l.holds.overdue = false ∧ reached l.config.hardAge = true
               (hard → { key := .line n, cause := .lineHold } ∈ t.link.notices)
               ∧ (due → ¬ hard → { key := .line n, cause := .lineDue } ∈ t.link.notices)
               ∧ (¬ due → ¬ hard → ∀ x : Notice, x.key = .line n → (x ∈ t.link.notices ↔ x ∈ s.link.notices))))
        ∧ NoticesOnly ((List.range 48).map .line) s t
        ∧ t.cellar.products = s.cellar.products ∧ t.cellar.detectorArmed = s.cellar.detectorArmed
        ∧ t.pour = s.pour ∧ t.bus = s.bus ∧ t.acct = s.acct ∧ t.cool = s.cool ∧ t.clean = s.clean
        ∧ t.store = { s.store with minuteReached := false } ∧ t.pins = s.pins
        ∧ t.link = { s.link with notices := t.link.notices })

/-- RESTART is accepted in any state; FACTORY CLEAR is refused with LOCKED while the calibration switch is off and with STATE while a
circuit is not IDLE. The start waits in the slot for the end of the reply.
The retention lost latch and the starts: the latch is set while main power is absent; at power-up a set latch or a failed check
makes the start a cold start with cause RETENTION LOST, otherwise it is a restart; an asserted reset input holds the start back,
and its release begins it where main power is present.
A start cut in the middle by the loss of main power or by the reset input is abandoned: the part is stopped with its outputs off and
retained memory is as it was; a cold start cut so leaves the latch set (R180, R188, R190, R191).
That a start is one step to which what cuts it is told, that a cut cold start always leaves the latch set and that the release of
reset then finds it are the model's choices (assumption 6), and so is the position of a return valve whose output is off (assumption
50); that a power-up under reset is remembered and that a command which
brings no change of its input is void are the model's deductions (assumption 25), and so is that LOCKED comes before STATE where both
checks of FACTORY CLEAR fail (assumption 15). That a fall of the backup supply while main power is present is forgotten, so that the
latch needs a fall while it is absent, is the model's choice (assumption 63), and so is that the outcome of the integrity check comes in
with POWER_UP and no check word is held (assumption 64). -/
def Obligations.StartsBegin : Prop :=
  (∀ (tag : Byte) (s : State), Ready s →
      exec (.restart tag) s = .next (withReply .restart tag .ok .none (some .restart) (counted (hunting s)))
      ∧ (s.pins.calSwitch = false → exec (.factoryClear tag) s = .next (refused .factoryClear tag .locked (hunting s)))
      ∧ (s.pins.calSwitch = true → ¬ ((s.circuit .a).state = .idle ∧ (s.circuit .b).state = .idle) →
          exec (.factoryClear tag) s = .next (refused .factoryClear tag .state (hunting s)))
      ∧ (s.pins.calSwitch = true → (s.circuit .a).state = .idle → (s.circuit .b).state = .idle →
          exec (.factoryClear tag) s
            = .next (withReply .factoryClear tag .ok .none (some .factoryClear) (counted (hunting s)))))
  ∧ (∀ (s : State) (straps : Straps) (cut : Option StartCut),
      let begun : Bool → State := fun cold => match cut with
        | none => if cold then coldStart .retentionLost straps s else restart straps s
        | some x => abandonStart x cold s
      (s.store.mainPower = true → exec .backupSupplyBelowMinimum s = .next s)
      ∧ (s.store.mainPower = false →
          exec .backupSupplyBelowMinimum s = .next { s with store := { s.store with retentionLost := true } })
      ∧ (∀ ok, s.store.mainPower = true → exec (.powerUp ok ⟨straps, cut⟩) s = .next s)
      ∧ (∀ ok, s.store.mainPower = false → s.store.resetHeld = false →
          exec (.powerUp ok ⟨straps, cut⟩) s = .next (begun (s.store.retentionLost || !ok)))
      ∧ (∀ ok, s.store.mainPower = false → s.store.resetHeld = true →
          exec (.powerUp ok ⟨straps, cut⟩) s
            = .next { s with store := { s.store with mainPower := true, heldColdStart := s.store.retentionLost || !ok } })
      ∧ (s.store.resetHeld = false → exec (.resetReleased ⟨straps, cut⟩) s = .next s)
      ∧ (s.store.resetHeld = true → s.store.mainPower = false →
          exec (.resetReleased ⟨straps, cut⟩) s = .next { s with store := { s.store with resetHeld := false } })
      ∧ (s.store.resetHeld = true → s.store.mainPower = true →
          exec (.resetReleased ⟨straps, cut⟩) s = .next (begun (s.store.retentionLost || s.store.heldColdStart))))
  ∧ (∀ (x : StartCut) (cold : Bool) (s : State),
      let t := abandonStart x cold s
      t.takesEvents = false ∧ OutputsOff t ∧ t.bus.phase = .stopped ∧ t.link = { s.link with tx := .idle }
        ∧ t.cellar = s.cellar ∧ t.pour = s.pour ∧ t.acct = s.acct ∧ t.clean = s.clean ∧ t.pins = s.pins
        ∧ t.cool.count = s.cool.count ∧ t.cool.points = s.cool.points ∧ t.cool.surges = s.cool.surges
        ∧ (∀ n, n < 12 → (t.trunk n).setpoint = (s.trunk n).setpoint ∧ (t.trunk n).kp = (s.trunk n).kp
            ∧ (t.trunk n).cls = (s.trunk n).cls ∧ (t.trunk n).alarmThreshold = (s.trunk n).alarmThreshold)
        ∧ t.store = { s.store with
            mainPower := decide (x = .resetAsserted), resetHeld := decide (x = .resetAsserted)
            retentionLost := s.store.retentionLost || cold, heldColdStart := false })

/-- What a restart does to lines, taps, accounts, cooling and cleaning: retained figures stay, DRAINING and QUEUED lines return to
their pre-drain states, CLEANING lines take RINSED or FOUL by their marks, pours in flight are ORPHANED, the queue is empty, the
circuits and stages are idle, and one SYSTEM notice is the first sent (R22, R28, R46, R108, R145, R171, R185). The node table is rebuilt,
each record fresh with the threshold of its configured taps, and round 0 begins with the first poll, or is empty (R76, R89). The step
target, the pulse count and the settling condition of each circuit, 0 and clear, the open time of 0 of the closed window, the class an
allocation takes before the first period, the threshold of a node without a configured tap and the address kept of an abandoned exchange are
the model's choices (assumptions 45, 37, 43, 28 and 21). -/
def Obligations.RestartKeeps : Prop :=
  ∀ (straps : Straps) (s : State),
    let t := restart straps s
    (∀ n, n < 48 →
      t.line n = { s.line n with
        state := match (s.line n).state with
          | .draining => returnedState (s.line n)
          | .queued => returnedState (s.line n)
          | .cleaning => if (s.line n).mark then .foul else .rinsed
          | st => st
        foamCount := 0, foamAlert := false })
    ∧ t.cellar.products = s.cellar.products ∧ t.cellar.detectorArmed = s.pins.detectorFull
    ∧ (∀ i, i < 128 →
        t.tap i = { s.tap i with
          pour := (s.tap i).pour.map fun p => { p with phase := .orphaned }
          route := if (s.tap i).withheld then s.activeEntry i else (s.tap i).route
          withheld := false })
    ∧ { t.pour with taps := s.pour.taps } = s.pour
    ∧ (∀ i, i < 128 → presence t i = .absent)
    ∧ (∀ a, 1 ≤ a → a ≤ 32 → Rethresholded a
        { state := .absent, misses := 0, tapCount := none, lastTaken := none, freshDue := true, setupDue := true, threshold := 3333
          items := [] } t)
    ∧ t.bus.round = 0
    ∧ t.bus.abandoned = (match s.bus.phase with
        | .exchange p => some p.address
        | _ => s.bus.abandoned)
    ∧ (∀ b, FirstDue 0 1 t b → t.bus.phase = .exchange
        { address := b, fresh := true, takenThrough := none, setup := some (t.node b).threshold, items := [] })
    ∧ ((∀ b, 1 ≤ b → b ≤ 32 → ¬ DueIn 0 t b) → t.bus.phase = .emptyRound)
    ∧ t.acct = { s.acct with window := { isOpen := false, remaining := 0, openTime := 0 } }
    ∧ (∀ n, n < 12 → t.trunk n =
        (let r := s.trunk n
         { setpoint := r.setpoint, kp := r.kp, cls := r.cls, alarmThreshold := r.alarmThreshold, reading := r.setpoint
           sensorFault := false, warm := 0, demand := 0, allocCls := r.cls, allocation := 0, dutyInForce := 0, alarm := false
           alarmTimer := 0, releaseTimer := 0, needed := false, valveOpen := false }))
    ∧ (∀ i, i < 4 → t.stage i = { running := false, time := 0 })
    ∧ t.cool.count = s.cool.count ∧ t.cool.points = s.cool.points ∧ t.cool.freezeHold = false ∧ t.cool.bathFault = false
    ∧ t.cool.bath = 0 ∧ t.cool.target = 0 ∧ t.cool.capacity = 0 ∧ t.cool.controlTimer = 0 ∧ t.cool.dutyTimer = 0
    ∧ (∀ i : Fin 4, t.cool.startFaults[i] = (decide (i.val < s.cool.count) && s.pins.stageFault[i]))
    ∧ t.cool.surges.map (fun e => (e.start, e.duration, e.lead, e.boost))
        = s.cool.surges.map (fun e => (e.start, e.duration, e.lead, e.boost))
    ∧ t.clean.programs = s.clean.programs ∧ t.clean.queue = []
    ∧ (∀ c, t.circuit c =
        { state := .idle, batch := [], program := none, stepIndex := none, progress := 0, target := 0, pulses := 0, settle := 0
          settling := false, stepsDone := 0, pauseCause := none, water := 0, solution := 0, flowTimer := 0, lastEnd := none
          unstoredPurge := (s.circuit c).unstoredPurge, gain := (s.circuit c).gain, offset := (s.circuit c).offset, conductivity := 0 })
    ∧ t.link = { slot := none, busy := none, notices := [], starts := 1, pace := s.link.pace, receiver := .hunting, discarded := 0,
                 rate := if straps.tied1 = true then 115200 else if straps.tied2 = true then 230400 else 57600,
                 tx := .notice { notice := { key := .system, cause := .start .restart },
                                 state := .system .restart s.store.clock s.store.unset } }
    ∧ t.store.clock = s.store.clock ∧ t.store.unset = s.store.unset ∧ t.store.lastStart = .restart
    ∧ t.takesEvents = true ∧ t.pending = s.pending

/-- The values of a cold start: every line OFFLINE, marked and empty; every tap unconfigured, DARK and IDLE; the journal, totals and
watches empty; the trunks and the chiller at their settings; no program, no queue, both circuits IDLE; the clock 0 and unset
(R29, R47, R109, R120, R146, R172, R190). Every node record is fresh, no node is configured, and round 0 is empty (R76, R89); the slot,
the BUSY place and the notice list are empty and one SYSTEM notice is the first sent (R185); bath, flags, target and timers of cooling
are those of a restart (R145). The step target, the pulse count and the settling condition of each circuit, 0 and clear, the open time of 0
of the closed window, the class an allocation takes before the first period, the threshold of a node without a configured tap and the
address kept of an abandoned exchange are the model's choices (assumptions 45, 37, 43, 28 and 21). -/
def Obligations.ColdStartValues : Prop :=
  ∀ (cause : StartCause) (straps : Straps) (s : State),
    let t := coldStart cause straps s
    (∀ n, n < 48 →
      t.line n =
        { config := { trunk := 0, product := 0, fillVolume := 100, primeMargin := 0, serveLimit := 60, hardLimit := 90,
                      lowThreshold := 0, criticalThreshold := 0, ration := false, softAge := 168, hardAge := 336,
                      softVolume := 0, hardVolume := 0 }
          stock := .normal, lastClean := none, volumeSinceClean := 0, softAgeNoted := false, softVolumeNoted := false,
          state := .offline, preDrain := none,
          holds := { host := false, keg := false, temp := false, watch := false, overdue := false }
          mark := true, inFlight := 0, foamCount := 0, foamAlert := false, primeProgress := 0, chain := [], gain := 2000,
          cellarDrawn := 0, tapPoured := 0 }
      ∧ kegValves t n = Vector.replicate 6 false)
    ∧ t.cellar.products = [] ∧ t.cellar.detectorArmed = s.pins.detectorFull
    ∧ (∀ i, i < 128 →
        t.tap i =
          { configured := false, bar := 0, lockout := false, watchBarred := false,
            route := { line := none, portionOnly := false, sizeSet := 0 }, deferred := false, withheld := false, pour := none,
            gain := 2000, offset := 0, overrun := 0, nextToken := 0, portion := Tally.zero, free := Tally.zero,
            prime := Tally.zero, released := Tally.zero, unjournalled := Tally.zero }
        ∧ presence t i = .absent
        ∧ mapEntry t.pour.mapA i = { line := none, portionOnly := false, sizeSet := 0 }
        ∧ mapEntry t.pour.mapB i = { line := none, portionOnly := false, sizeSet := 0 })
    ∧ t.pour.active = .a ∧ t.pour.barOpen = 0#16
    ∧ t.pour.sizes = Vector.replicate 4 (Vector.replicate 4 { target := 0, tolerance := 0 })
    ∧ t.pour.vfree = 10000 ∧ t.pour.freeSeconds = 30 ∧ t.pour.foamThreshold = 64
    ∧ (∀ a, 1 ≤ a → a ≤ 32 → nodeConfigured t a = false ∧ t.node a =
        { state := .absent, misses := 0, tapCount := none, lastTaken := none, freshDue := true, setupDue := true, threshold := 3333
          items := [] })
    ∧ t.bus.round = 0 ∧ t.bus.phase = .emptyRound
    ∧ t.bus.abandoned = (match s.bus.phase with
        | .exchange p => some p.address
        | _ => s.bus.abandoned)
    ∧ t.acct = { journal := [], nextSeq := 1, pourPurge := 0, highNoted := false, fullNoted := false, unstoredKeg := 0,
                 unstoredClean := 0, unstoredCal := 0, unstoredWatch := 0,
                 watches := Vector.replicate 8 { target := .all, condition := .anyPour, threshold := 0, action := .note,
                                                 state := .off, count := 0 }
                 window := { isOpen := false, remaining := 0, openTime := 0 } }
    ∧ (∀ n, n < 12 → t.trunk n =
        { setpoint := 40, kp := 10, cls := 2, alarmThreshold := 70, reading := 40, sensorFault := false, warm := 0, demand := 0
          allocCls := 2, allocation := 0, dutyInForce := 0, alarm := false, alarmTimer := 0, releaseTimer := 0, needed := false
          valveOpen := false })
    ∧ (∀ i, i < 4 → t.stage i = { running := false, time := 0 })
    ∧ t.cool.count = 2 ∧ t.cool.points = 100 ∧ t.cool.surges = [] ∧ t.cool.freezeHold = false ∧ t.cool.bathFault = false
    ∧ t.cool.bath = 0 ∧ t.cool.target = 0 ∧ t.cool.capacity = 0 ∧ t.cool.controlTimer = 0 ∧ t.cool.dutyTimer = 0
    ∧ (∀ i : Fin 4, t.cool.startFaults[i] = (decide (i.val < 2) && s.pins.stageFault[i]))
    ∧ t.clean.programs = Vector.replicate 8 none ∧ t.clean.queue = []
    ∧ (∀ c, t.circuit c =
        { state := .idle, batch := [], program := none, stepIndex := none, progress := 0, target := 0, pulses := 0, settle := 0
          settling := false, stepsDone := 0, pauseCause := none, water := 0, solution := 0, flowTimer := 0, lastEnd := none
          unstoredPurge := 0, gain := 2000, offset := 0, conductivity := 0 })
    ∧ t.store = { clock := 0, unset := true, minuteReached := false, lastStart := cause, mainPower := true, resetHeld := false,
                  retentionLost := false, heldColdStart := false }
    ∧ t.link = { slot := none, busy := none, notices := [], starts := 1, pace := 20, receiver := .hunting, discarded := 0,
                 rate := if straps.tied1 = true then 115200 else if straps.tied2 = true then 230400 else 57600,
                 tx := .notice { notice := { key := .system, cause := .start cause }, state := .system cause 0 true } }
    ∧ t.takesEvents = true ∧ t.pins = { s.pins with straps := straps } ∧ t.pending = s.pending

/-- The state after reset is the one a cold start with cause RETENTION LOST and both straps open leaves of any stopped part whose inputs
are inactive, with no exchange abandoned and no command waiting. It meets every law that the steps are stated to keep. That the
machine's reset is the part right after such a cold start, and that every input is inactive, is the model's choice (assumptions 1 and
3). -/
def Obligations.ResetMeetsLaws : Prop :=
  (∀ s : State, s.pins = quietPins → s.bus.phase = .stopped → s.bus.abandoned = none → s.pending = [] →
      State.reset = coldStart .retentionLost { tied1 := false, tied2 := false } s)
    ∧ (State.reset.line 0).state = .offline ∧ State.reset.pending = [] ∧ State.reset.takesEvents = true
    ∧ JournalLaw State.reset ∧ NoticeLaw State.reset ∧ ChainLaw State.reset ∧ InFlightLaw State.reset
    ∧ MeteringLaw State.reset ∧ ConservationLaw State.reset ∧ AllocationLaw State.reset ∧ StagingLaw State.reset
    ∧ CleaningLaws State.reset ∧ LockLaw State.reset ∧ TakingLaw State.reset

/-! ### Lines and kegs -/

/-- The reads of lines and products: the line record, the chain with each keg's drawn volume rounded half up, and the label of a
registered code; nothing changes.
PRODUCT SET REGISTER and REMOVE: a held code takes the new label, a code not held takes a free entry with totals of zero, and
the refusals RANGE, FULL, NOT FOUND and STATE stand where R1 gives them (R1, R3, R20). That every label is stored as it comes is the
model's choice (assumption 34); that RANGE comes before FULL is its deduction (assumption 15). -/
def Obligations.LineReadsAndProducts : Prop :=
  (∀ (tag : Byte) (s : State), Ready s →
      (∀ n, n ≤ 47 → exec (.lineGet tag n) s = .next (replied .lineGet tag .ok (.line (s.line n)) (hunting s)))
      ∧ (∀ n, n ≤ 47 → exec (.kegList tag n) s
          = .next (replied .kegList tag .ok
              (.kegs ((s.line n).chain.map fun k => (k, k.frozen + (k.pulses * (s.line n).gain + 500) / 1000))) (hunting s)))
      ∧ (∀ c p, s.cellar.products.find? (fun p => p.code = c) = some p →
          exec (.productRead tag c) s = .next (replied .productSet tag .ok (.product c p.label) (hunting s)))
      ∧ (∀ c, (∀ p ∈ s.cellar.products, p.code ≠ c) →
          exec (.productRead tag c) s = .next (refused .productSet tag .notFound (hunting s))))
  ∧ (∀ (tag : Byte) (code : Nat) (label : Label) (s : State), Ready s →
      let held := ∃ p ∈ s.cellar.products, p.code = code
      let named := ∃ n, n < 48 ∧ ((s.line n).config.product = code ∨ ∃ k ∈ (s.line n).chain, k.product = code)
      let zero : Product → Prop := fun p => p.sales = { count := 0, volume := 0 } ∧ p.histogram = Vector.replicate 8 0
      (code = 0 → exec (.productRegister tag code label) s = .next (refused .productSet tag .range (hunting s)))
      ∧ (code ≠ 0 → held → exec (.productRegister tag code label) s
          = .next (replied .productSet tag .ok .none
              ((hunting s).setProducts (s.cellar.products.map fun p => if p.code = code then { p with label := label } else p))))
      ∧ (code ≠ 0 → ¬ held → s.cellar.products.length < 32 → exec (.productRegister tag code label) s
          = .next (replied .productSet tag .ok .none ((hunting s).setProducts (s.cellar.products
              ++ [{ code := code, label := label, sales := { count := 0, volume := 0 }, histogram := Vector.replicate 8 0 }]))))
      ∧ (code ≠ 0 → ¬ held → 32 ≤ s.cellar.products.length →
          exec (.productRegister tag code label) s = .next (refused .productSet tag .full (hunting s)))
      ∧ (¬ held → exec (.productRemove tag code) s = .next (refused .productSet tag .notFound (hunting s)))
      ∧ (∀ p, s.cellar.products.find? (fun p => p.code = code) = some p →
          (named ∨ ¬ zero p → exec (.productRemove tag code) s = .next (refused .productSet tag .state (hunting s)))
          ∧ (¬ named → zero p → exec (.productRemove tag code) s
              = .next (replied .productSet tag .ok .none
                  ((hunting s).setProducts (s.cellar.products.filter fun q => q.code ≠ code))))))

/-- LINE SET: a field out of range is refused with RANGE; otherwise the whole configuration is stored, an OFFLINE line becomes FOUL
with its mark set, a PRIMING line whose progress suffices becomes SERVING, the stock level and the KEG cause follow the new
thresholds and product, a changed soft limit clears its noted flag, and a LINE notice is posted, and STOCK at a change of level; no
other line changes (R2, R9, R13, R24). That the list's entry has the cause CONFIG, posted after the others, and that the figures an OFFLINE
line keeps are left as they stand, is the model's choice (assumption 18). -/
def Obligations.LineSet : Prop :=
  ∀ (tag : Byte) (n : Nat) (c : LineConfig) (s : State), Ready s →
    (¬ (n ≤ 47 ∧ ConfigInRange s c) → exec (.lineSet tag n c) s = .next (refused .lineSet tag .range (hunting s)))
    ∧ (n ≤ 47 → ConfigInRange s c → ∃ t, exec (.lineSet tag n c) s = .next (replied .lineSet tag .ok .none t)
        ∧ OnlyLine n (hunting s) t
        ∧ t.line n =
            (let l := s.line n
             { l with
               config := c
               softAgeNoted := l.softAgeNoted && decide (c.softAge = l.config.softAge)
               softVolumeNoted := l.softVolumeNoted && decide (c.softVolume = l.config.softVolume)
               state := if l.state = .offline then .foul
                 else if l.state = .priming ∧ c.fillVolume + c.primeMargin ≤ l.primeProgress then .serving else l.state
               mark := l.mark || decide (l.state = .offline)
               stock := levelOf (remainingStock l) c.lowThreshold c.criticalThreshold
               holds := match l.chain with
                 | [] => l.holds
                 | k :: _ => if c.product = l.config.product then l.holds
                   else { l.holds with keg := decide (k.product ≠ c.product) } })
        ∧ { key := .line n, cause := .lineConfig } ∈ t.link.notices
        ∧ StockNotified n (hunting s) t ∧ NoticesOnly [.line n, .stock n] s t)

/-- LINE CLEAR and RETURN TO SERVICE. A SERVING, DRY, RINSED or FOUL line with no routed tap and no pour in flight becomes OFFLINE
with its mark set and its chain empty, a KEG record with cause REMOVED being taken for each keg, head first; the refusals are STATE
and LINE BUSY; a LINE and a KEG notice are posted, and STOCK where the level was not NORMAL. A RINSED line with a keg becomes PRIMING
with progress 0 and posts LINE; any other is refused with STATE (R9, R10, R24). The line
state in the reply of RETURN TO SERVICE is the model's choice (assumption 14), and so is that LINE CLEAR keeps the pre-drain state and
the prime progress (assumption 29) and makes one net change of holds and stock level, which decides that a level NORMAL before posts no
STOCK (assumption 58); that STATE is the last cause of its LINE notice is the model's deduction (assumption 18). -/
def Obligations.LineClearAndReturn : Prop :=
  ∀ (tag : Byte) (n : Nat) (s : State), Ready s → n ≤ 47 →
    let l := s.line n
    let clearable := l.state = .serving ∨ l.state = .dry ∨ l.state = .rinsed ∨ l.state = .foul
    let busy := (∃ i, i < 128 ∧ (s.tap i).route.line = some n) ∨ l.inFlight ≠ 0
    (¬ clearable → exec (.lineClear tag n) s = .next (refused .lineClear tag .state (hunting s)))
    ∧ (clearable → busy → exec (.lineClear tag n) s = .next (refused .lineClear tag .lineBusy (hunting s)))
    ∧ (clearable → ¬ busy → ∃ t, exec (.lineClear tag n) s = .next (replied .lineClear tag .ok .none t)
        ∧ LineEvent n (hunting s) t ∧ t.pour = s.pour ∧ t.bus = s.bus
        ∧ t.line n = { l with
            state := .offline, mark := true,
            holds := { host := false, keg := false, temp := false, watch := l.holds.watch, overdue := false }
            foamCount := 0, foamAlert := false, stock := .normal, lastClean := none, volumeSinceClean := 0,
            softAgeNoted := false, softVolumeNoted := false, cellarDrawn := 0, tapPoured := 0, chain := [] }
        ∧ t.acct = (l.chain.foldl (fun u k => takeRecord (.keg n k.id k.product k.nominal (drawnVolume l.gain k) k.poured
            ((drawnVolume l.gain k : Int) - k.poured) .removed) u) (hunting s)).acct
        ∧ { key := .line n, cause := .lineState } ∈ t.link.notices ∧ { key := .keg n, cause := .kegRemoved } ∈ t.link.notices
        ∧ StockNotified n (hunting s) t ∧ NoticesOnly [.line n, .keg n, .stock n, .journal] s t)
    ∧ (l.state = .rinsed ∧ l.chain ≠ [] → exec (.returnToService tag n) s
        = .next (replied .returnToService tag .ok (.lineState .priming)
            (post (.line n) .lineState ((hunting s).setLine n { l with state := .priming, primeProgress := 0 }))))
    ∧ (¬ (l.state = .rinsed ∧ l.chain ≠ []) →
        exec (.returnToService tag n) s = .next (refused .returnToService tag .state (hunting s)))

/-- LINE HOLD: APPLY adds HOST, and with the stop option orders a stop for every pour GRANTED or POURING on the line that has none;
RELEASE removes the named HOST, KEG and TEMP causes and is refused with STATE where it names WATCH or OVERDUE; both are refused with
STATE on an OFFLINE line. The reply carries the hold set, and a change of it posts a LINE notice. An ordered stop sets the pour's
stop-sent flag and joins its node's list as a STOP item with the pour's token, tap by tap; nothing else changes (R12, R67, R78). That
the taps are visited in ascending number, which orders two STOPs of one list, is the model's choice (assumption 46). -/
def Obligations.LineHold : Prop :=
  ∀ (tag : Byte) (n : Nat) (s : State), Ready s → n ≤ 47 →
    let l := s.line n
    let held : HoldSet → State := fun h =>
      if h = l.holds then hunting s else post (.line n) .lineHold ((hunting s).setLine n { l with holds := h })
    (l.state = .offline →
      (∀ stop, exec (.lineHoldApply tag n stop) s = .next (refused .lineHold tag .state (hunting s)))
      ∧ ∀ causes, exec (.lineHoldRelease tag n causes) s = .next (refused .lineHold tag .state (hunting s)))
    ∧ (l.state ≠ .offline →
        exec (.lineHoldApply tag n false) s
          = .next (replied .lineHold tag .ok (.holds { l.holds with host := true }) (held { l.holds with host := true }))
        ∧ exec (.lineHoldApply tag n true) s
          = .next (replied .lineHold tag .ok (.holds { l.holds with host := true })
              (stopLine n (held { l.holds with host := true }))))
    ∧ (∀ causes, l.state ≠ .offline → causes.watch = true ∨ causes.overdue = true →
        exec (.lineHoldRelease tag n causes) s = .next (refused .lineHold tag .state (hunting s)))
    ∧ (∀ causes, l.state ≠ .offline → causes.watch = false → causes.overdue = false →
        let h : HoldSet := { l.holds with host := l.holds.host && !causes.host, keg := l.holds.keg && !causes.keg,
                                          temp := l.holds.temp && !causes.temp }
        exec (.lineHoldRelease tag n causes) s = .next (replied .lineHold tag .ok (.holds h) (held h)))
    ∧ (∀ u i, i < 128 → (stopLine n u).tap i = { u.tap i with
        pour := (u.tap i).pour.map fun p =>
          if p.phase ≠ .orphaned ∧ p.record.line = n then { p with record := { p.record with stopSent := true } } else p })
    ∧ (∀ u : State,
        let ordered : Nat → Pour → Prop := fun i p => (u.tap i).pour = some p ∧ p.phase ≠ .orphaned ∧ p.record.line = n
          ∧ p.record.stopSent = false
        let v := stopLine n u
        (∀ i p, i < 128 → ordered i p →
            ∃ q ∈ (v.node (i / 4 + 1)).items, q.item = .stop (i % 4) p.record.token ∧ q.carried = false)
        ∧ (∀ a, 1 ≤ a → a ≤ 32 → v.node a = { u.node a with
            items := (List.range 4).foldl (fun items k => match (u.tap (4 * (a - 1) + k)).pour with
              | none => items
              | some p => if p.phase ≠ .orphaned ∧ p.record.line = n ∧ p.record.stopSent = false
                  then enqueueItem (.stop k p.record.token) items else items) (u.node a).items })
        ∧ v = { u with pour := { u.pour with taps := v.pour.taps }, bus := { u.bus with nodes := v.bus.nodes } })

/-- KEG ADD appends a keg with zero counts at the lowest coupler no keg of the chain holds, makes it the head of an empty chain with
the KEG cause decided, brings a DRY line back to SERVING, and recomputes the stock level; it is refused with RANGE, STATE, FULL and
DUPLICATE. KEG REMOVE takes a waiting keg out by its id and the rest keep their couplers; it is refused with NOT
FOUND and, for the head keg, STATE. Both post KEG, and STOCK at a change of level; KEG ADD posts LINE with the last of HOLD, where the
KEG cause is added, and STATE, where the line leaves DRY. No record is written (R12, R13, R18, R19, R24). R18 and R19 list no order of
the refusals: the order RANGE, STATE, FULL, DUPLICATE is the model's deduction (assumption 15). R12, R13 and R18 give no order of HOLD and
STATE where KEG ADD posts both: that STATE is the last cause is the model's deduction too (assumption 18). -/
def Obligations.KegAddAndRemove : Prop :=
  ∀ (tag : Byte) (n id product nominal : Nat) (hold : Bool) (s : State), Ready s →
    let l := s.line n
    let inRange := n ≤ 47 ∧ id ≠ 0 ∧ (∃ p ∈ s.cellar.products, p.code = product) ∧ 10000 ≤ nominal ∧ nominal ≤ 2000000
    let elsewhere := ∃ m, m < 48 ∧ ∃ k ∈ (s.line m).chain, k.id = id
    (¬ inRange → exec (.kegAdd tag n id product nominal hold) s = .next (refused .kegAdd tag .range (hunting s)))
    ∧ (inRange → l.state = .offline →
        exec (.kegAdd tag n id product nominal hold) s = .next (refused .kegAdd tag .state (hunting s)))
    ∧ (inRange → l.state ≠ .offline → 6 ≤ l.chain.length →
        exec (.kegAdd tag n id product nominal hold) s = .next (refused .kegAdd tag .full (hunting s)))
    ∧ (inRange → l.state ≠ .offline → l.chain.length < 6 → elsewhere →
        exec (.kegAdd tag n id product nominal hold) s = .next (refused .kegAdd tag .duplicate (hunting s)))
    ∧ (inRange → l.state ≠ .offline → l.chain.length < 6 → ¬ elsewhere →
        ∃ t c, exec (.kegAdd tag n id product nominal hold) s = .next (replied .kegAdd tag .ok (.coupler c) t)
          ∧ c < 6 ∧ (∀ k ∈ l.chain, k.coupler ≠ c) ∧ (∀ d, d < c → ∃ k ∈ l.chain, k.coupler = d)
          ∧ OnlyLine n (hunting s) t
          ∧ t.line n = { l with
              chain := l.chain ++ [{ id := id, coupler := c, product := product, nominal := nominal, pulses := 0, frozen := 0,
                                     poured := 0, holdAfterSwitch := hold }]
              holds := { l.holds with
                keg := l.holds.keg || (l.chain.isEmpty && (hold || decide (product ≠ l.config.product))) }
              state := if l.chain = [] ∧ l.state = .dry then .serving else l.state
              stock := levelOf (remainingStock l + nominal) l.config.lowThreshold l.config.criticalThreshold }
          ∧ { key := .keg n, cause := .kegAdded } ∈ t.link.notices
          ∧ StockNotified n (hunting s) t ∧ NoticesOnly [.line n, .keg n, .stock n] s t
          ∧ ((t.line n).state ≠ l.state → { key := .line n, cause := .lineState } ∈ t.link.notices)
          ∧ ((t.line n).state = l.state → (t.line n).holds ≠ l.holds → { key := .line n, cause := .lineHold } ∈ t.link.notices)
          ∧ ((t.line n).state = l.state → (t.line n).holds = l.holds → NoticesOnly [.keg n, .stock n] s t))
    ∧ (n ≤ 47 → (∀ k ∈ l.chain, k.id ≠ id) →
        exec (.kegRemove tag n id) s = .next (refused .kegRemove tag .notFound (hunting s)))
    ∧ (∀ k rest, n ≤ 47 → l.chain = k :: rest → k.id = id →
        exec (.kegRemove tag n id) s = .next (refused .kegRemove tag .state (hunting s)))
    ∧ (∀ k rest, n ≤ 47 → l.chain = k :: rest → k.id ≠ id → (∃ w ∈ rest, w.id = id) →
        ∃ t, exec (.kegRemove tag n id) s = .next (replied .kegRemove tag .ok .none t)
          ∧ OnlyLine n (hunting s) t
          ∧ t.line n = { l with
              chain := k :: rest.filter fun w => w.id ≠ id
              stock := if l.state = .offline then l.stock
                else levelOf (((k :: rest.filter fun w => w.id ≠ id).map fun w => w.nominal - drawnVolume l.gain w).sum)
                  l.config.lowThreshold l.config.criticalThreshold }
          ∧ { key := .keg n, cause := .kegRemoved } ∈ t.link.notices
          ∧ StockNotified n (hunting s) t ∧ NoticesOnly [.keg n, .stock n] s t)

/-- The head keg retires on KEG SWITCH with cause SWITCHED and on a trip of an armed detector with cause EMPTY, on a line that is
SERVING, PRIMING or DRAINING, with the KEG, STOCK and LINE notices of a retirement; any other trip only disarms the detector, and a
detector that reads full is armed. KEG SWITCH with an empty chain is refused with STATE (R12, R21, R22, R24, R25). That the stops
ordered when the line runs dry go to its taps in ascending number is the model's choice (assumption 46). -/
def Obligations.HeadRetires : Prop :=
  (∀ (tag : Byte) (n : Nat) (s : State), Ready s → n ≤ 47 →
    ((s.line n).chain = [] → exec (.kegSwitch tag n) s = .next (refused .kegSwitch tag .state (hunting s)))
    ∧ (∀ k rest, (s.line n).chain = k :: rest →
        ∃ t, exec (.kegSwitch tag n) s = .next (replied .kegSwitch tag .ok .none t)
          ∧ Retires n k rest .switched (hunting s) t))
  ∧ (∀ (n : Fin 48) (s : State), s.takesEvents = true →
    let u : State := { s with
      cellar := { s.cellar with detectorArmed := s.cellar.detectorArmed.set n.val false }
      pins := { s.pins with detectorFull := s.pins.detectorFull.set n.val false } }
    let trips := s.cellar.detectorArmed[n.val] = true ∧ ((s.line n.val).state = .serving ∨ (s.line n.val).state = .priming
      ∨ (s.line n.val).state = .draining)
    (∀ k rest, trips → (s.line n.val).chain = k :: rest →
      ∃ t, exec (.foamOnBeerTrip n) s = .next (transmit t) ∧ Retires n.val k rest .empty u t)
    ∧ (¬ trips ∨ (s.line n.val).chain = [] → exec (.foamOnBeerTrip n) s = .next (transmit u))
    ∧ exec (.detectorRearm n) s = .next (transmit { s with
        cellar := { s.cellar with detectorArmed := s.cellar.detectorArmed.set n.val true }
        pins := { s.pins with detectorFull := s.pins.detectorFull.set n.val true } }))

/-- The keg valves of a line: the valve of the head keg's coupler is open while the line is SERVING, PRIMING or DRAINING from one of these,
and every other one is closed (R4).
A pulse of a cellar meter while the head keg's valve is open: the keg counts it, the increase of its drawn volume is added to the
line's cellar-drawn counter and, in PRIMING, to the prime progress, which may complete the prime and post LINE; the stock level
follows, and a change of it posts STOCK with the new level as cause. Any other pulse is ignored (R4, R9, R20, R24). -/
def Obligations.CellarPulse : Prop :=
  ∀ (n : Fin 48) (s : State), s.takesEvents = true →
    let l := s.line n.val
    let isOpen := l.state = .serving ∨ l.state = .priming
      ∨ (l.state = .draining ∧ (l.preDrain = some .serving ∨ l.preDrain = some .priming))
    (∀ i : Fin 6, (kegValves s n.val)[i] = true ↔ isOpen ∧ ∃ k rest, l.chain = k :: rest ∧ k.coupler = i.val)
    ∧ (¬ isOpen ∨ l.chain = [] → exec (.cellarMeterPulse n) s = .next (transmit s))
    ∧ (∀ k rest, isOpen → l.chain = k :: rest →
        let k' : Keg := { k with pulses := min 4294967295 (k.pulses + 1) }
        let d := (k'.pulses * l.gain + 500) / 1000 - (k.pulses * l.gain + 500) / 1000
        let progress := if l.state = .priming then min 4294967295 (l.primeProgress + d) else l.primeProgress
        let primed := l.state = .priming ∧ l.config.fillVolume + l.config.primeMargin ≤ progress
        let level := levelOf (((k' :: rest).map fun w => w.nominal - drawnVolume l.gain w).sum) l.config.lowThreshold
          l.config.criticalThreshold
        let noted := if primed then mergeNotice (.line n.val) .lineState s.link.notices else s.link.notices
        ∃ t, exec (.cellarMeterPulse n) s = .next (transmit t)
          ∧ OnlyLine n.val s t
          ∧ t.line n.val = { l with
              chain := k' :: rest
              cellarDrawn := min 281474976710655 (l.cellarDrawn + d)
              primeProgress := progress
              state := if primed then .serving else l.state
              stock := level }
          ∧ t.link.notices = if level = l.stock then noted else mergeNotice (.stock n.val) (stockCause level) noted)

/-! ### Taps, routes, sizes and bars -/

/-- TAP GET returns the whole tap record with its presence computed at the reply, ROUTE READ a run of entries of one map with the
active map named; both change nothing and refuse with RANGE what names nothing. ROUTE CHECK, SIZE SET READ and FREE LIMITS READ return
what they name and change nothing (R31, R37, R42, R45, R50, R175). -/
def Obligations.TapReads : Prop :=
  ∀ (tag : Byte) (s : State), Ready s →
    (∀ i, i ≤ 127 → exec (.tapGet tag i) s = .next (replied .tapGet tag .ok (.tap (presence s i) (s.tap i)) (hunting s)))
    ∧ (∀ i, 127 < i → exec (.tapGet tag i) s = .next (refused .tapGet tag .range (hunting s)))
    ∧ (∀ m first count, m ≤ 1 → 1 ≤ count → count ≤ 32 → first + count ≤ 128 →
        exec (.routeRead tag m first count) s
          = .next (replied .routeRead tag .ok
              (.routes s.pour.active ((List.range count).map fun i =>
                mapEntry (if m = 0 then s.pour.mapA else s.pour.mapB) (first + i))) (hunting s)))
    ∧ (∀ m first count, ¬ (m ≤ 1 ∧ 1 ≤ count ∧ count ≤ 32 ∧ first + count ≤ 128) →
        exec (.routeRead tag m first count) s = .next (refused .routeRead tag .range (hunting s)))
    ∧ (∀ i, i ≤ 127 → exec (.routeCheck tag i) s
        = .next (replied .routeCheck tag .ok
            (.routing (mapEntry (if s.pour.active = .a then s.pour.mapA else s.pour.mapB) i)
              (mapEntry (if s.pour.active = .a then s.pour.mapB else s.pour.mapA) i) (s.tap i).route (s.tap i).deferred
              (s.tap i).withheld s.pour.active) (hunting s)))
    ∧ (∀ n : Fin 4, exec (.sizeSetRead tag n.val) s
        = .next (replied .sizeSet tag .ok (.sizes s.pour.sizes[n]) (hunting s)))
    ∧ exec (.freeLimitsRead tag) s
        = .next (replied .freeLimits tag .ok (.limits s.pour.vfree s.pour.freeSeconds s.pour.foamThreshold) (hunting s))

/-- TAP SET. ASSIGN sets the configured flag and the bar, and the first configured tap of a node starts its record afresh with the
threshold of its gain; UNASSIGN clears the flag and is refused with TAP BUSY while a pour is in flight; where it takes the node's last
configured tap, the node leaves the table: ABSENT, its list empty, a NODE notice posted where it was not ABSENT already, and an
exchange in progress with it abandoned for the next poll. CLOSE ORPHAN closes an orphan
whose tap is not PRESENT as LOST, with the pulses last seen running and no temperature: measured where there were any, silently where
there were none; it is refused with STATE in any other condition. Each of them computes the threshold of a node that stays configured
again, and changes no other node (R30, R73, R75, R80). A tap above 127 or a bar above 15 is refused with RANGE; that this comes before
TAP BUSY and STATE, for every operation, is the model's deduction (assumption 15), and so is that UNASSIGN keeps the address of the
exchange it abandons (assumption 21). That CLOSE ORPHAN, where the tap's deferred route changes its line, evaluates the drain condition
of the old line before that of the new one is the model's choice (assumption 46), and that a measured end posts DUE before HOLD its
deduction (assumption 18). -/
def Obligations.TapSet : Prop :=
  ∀ (tag : Byte) (i bar : Nat) (s : State), Ready s →
    let a := i / 4 + 1
    let orphan := ∃ p, (s.tap i).pour = some p ∧ p.phase = .orphaned
    (¬ (i ≤ 127 ∧ bar ≤ 15) →
      exec (.tapSetAssign tag i bar) s = .next (refused .tapSet tag .range (hunting s))
      ∧ exec (.tapSetUnassign tag i bar) s = .next (refused .tapSet tag .range (hunting s))
      ∧ exec (.tapSetCloseOrphan tag i bar) s = .next (refused .tapSet tag .range (hunting s)))
    ∧ (i ≤ 127 → bar ≤ 15 →
      (∃ t, exec (.tapSetAssign tag i bar) s = .next (replied .tapSet tag .ok (.tap (presence t i) (t.tap i)) t)
        ∧ t.tap i = { s.tap i with configured := true, bar := bar }
        ∧ (∀ j, j ≠ i → t.tap j = s.tap j) ∧ (∀ b, 1 ≤ b → b ≠ a → t.node b = s.node b)
        ∧ (nodeConfigured s a = false → t.node a = freshNode ((s.tap i).gain * 5 / 3))
        ∧ (nodeConfigured s a = true → Rethresholded a (s.node a) t)
        ∧ t = { hunting s with pour := { s.pour with taps := t.pour.taps }, bus := { s.bus with nodes := t.bus.nodes } })
      ∧ ((s.tap i).pour ≠ none → exec (.tapSetUnassign tag i bar) s = .next (refused .tapSet tag .tapBusy (hunting s)))
      ∧ ((s.tap i).pour = none →
        ∃ t, exec (.tapSetUnassign tag i bar) s = .next (replied .tapSet tag .ok (.tap (presence t i) (t.tap i)) t)
          ∧ t.tap i = { s.tap i with configured := false } ∧ (∀ j, j ≠ i → t.tap j = s.tap j)
          ∧ (nodeConfigured t a = true ∨ nodeConfigured s a = false →
              Rethresholded a (s.node a) t ∧ (∀ b, 1 ≤ b → b ≠ a → t.node b = s.node b)
              ∧ t = { hunting s with pour := { s.pour with taps := t.pour.taps }, bus := { s.bus with nodes := t.bus.nodes } })
          ∧ (nodeConfigured t a = false → nodeConfigured s a = true →
              let n := s.node a
              let u : State := { hunting s with
                pour := { s.pour with taps := t.pour.taps }
                bus := { s.bus with nodes := s.bus.nodes.setIfInBounds (a - 1) { n with
                  state := .absent, items := [], lastTaken := none, tapCount := none, freshDue := true, setupDue := true } }
                link := { (hunting s).link with
                  notices := if n.state = .absent then s.link.notices else mergeNotice (.node a) .nodeAbsent s.link.notices } }
              let v := nextPoll a u
              ((∀ p, s.bus.phase = .exchange p → p.address ≠ a) → t = u)
              ∧ (∀ p, s.bus.phase = .exchange p → p.address = a →
                  t = { v with bus := { v.bus with abandoned := some a } } ∧ t.node a = u.node a)))
      ∧ (¬ (orphan ∧ presence s i ≠ .present) →
          exec (.tapSetCloseOrphan tag i bar) s = .next (refused .tapSet tag .state (hunting s)))
      ∧ (orphan → presence s i ≠ .present →
        ∃ t, exec (.tapSetCloseOrphan tag i bar) s = .next (replied .tapSet tag .ok (.tap (presence t i) (t.tap i)) t)
          ∧ (t.tap i).pour = none ∧ (t.tap i).configured = (s.tap i).configured ∧ (t.tap i).bar = (s.tap i).bar
          ∧ (∀ j, j ≠ i → (t.tap j).pour = (s.tap j).pour)
          ∧ (∀ p, (s.tap i).pour = some p → p.record.line < 48 →
              (∃ u, (p.record.lastRunning ≠ 0 → MeasuredEnd i p.record (lostEnd p.record) (hunting s) u)
                ∧ (p.record.lastRunning = 0 → SilentEnd i p.record (hunting s) u)
                ∧ t = { u with bus := { u.bus with nodes := t.bus.nodes } })
              ∧ Rethresholded a { s.node a with
                  items := (s.node a).items.filter fun q => decide (q.item ≠ .stop (i % 4) p.record.token) } t)
          ∧ (∀ b, 1 ≤ b → b ≠ a → t.node b = s.node b) ∧ t.bus = { s.bus with nodes := t.bus.nodes }
          ∧ t.store = s.store ∧ t.pins = s.pins ∧ t.link = { (hunting s).link with notices := t.link.notices }))

/-- SIZE SET WRITE and FREE LIMITS WRITE store their values and the reply carries them; a value out of its range is refused with
RANGE and nothing is written, and a refusal of FREE LIMITS carries the values as they stand (R45, R50). -/
def Obligations.SizesAndLimits : Prop :=
  ∀ (tag : Byte) (s : State), Ready s →
    (∀ (n : Nat) (z : SizeSet),
      let ok := n ≤ 3 ∧ ∀ x ∈ z.toList, (x.target = 0 ∨ (100 ≤ x.target ∧ x.target ≤ 20000)) ∧ x.tolerance ≤ 500
      (ok → exec (.sizeSetWrite tag n z) s
        = .next (replied .sizeSet tag .ok (.sizes z)
            { hunting s with pour := { s.pour with sizes := s.pour.sizes.setIfInBounds n z } }))
      ∧ (¬ ok → exec (.sizeSetWrite tag n z) s = .next (refused .sizeSet tag .range (hunting s))))
    ∧ (∀ v t f,
      let ok := 1000 ≤ v ∧ v ≤ 50000 ∧ 1 ≤ t ∧ t ≤ 120 ∧ f ≤ 256
      (ok → exec (.freeLimitsWrite tag v t f) s
        = .next (replied .freeLimits tag .ok (.limits v t f)
            { hunting s with pour := { s.pour with vfree := v, freeSeconds := t, foamThreshold := f } }))
      ∧ (¬ ok → exec (.freeLimitsWrite tag v t f) s
        = .next (replied .freeLimits tag .range (.limits s.pour.vfree s.pour.freeSeconds s.pour.foamThreshold) (hunting s))))

/-- BAR STATE adds, removes or toggles every bar of the mask, the reply carries the open set after it, and nothing else changes; an
unknown operation spells no request and is refused with RANGE. A HOLD watch's trip removes its bar and a withdrawn trip reopens
none (R44). -/
def Obligations.BarState : Prop :=
  (∀ (tag : Byte) (mask : BitVec 16) (s : State), Ready s →
    let after : BitVec 16 → Host.Outcome State Fault Refusal := fun bars =>
      .next (replied .barState tag .ok (.bars bars) { hunting s with pour := { s.pour with barOpen := bars } })
    (∃ bars, exec (.barStateSet tag mask) s = after bars
      ∧ ∀ b, b < 16 → bars.getLsbD b = (s.pour.barOpen.getLsbD b || mask.getLsbD b))
    ∧ (∃ bars, exec (.barStateClear tag mask) s = after bars
      ∧ ∀ b, b < 16 → bars.getLsbD b = (s.pour.barOpen.getLsbD b && !mask.getLsbD b))
    ∧ (∃ bars, exec (.barStateToggle tag mask) s = after bars
      ∧ ∀ b, b < 16 → bars.getLsbD b = (s.pour.barOpen.getLsbD b ^^ mask.getLsbD b)))
  ∧ (∀ (tag op hi lo : Byte) (s : State), 3 ≤ op.toNat → Ready s →
    exec (.unknownRequest 0x28#8 tag [op, hi, lo]) s = .next (refused .barState tag .range (hunting s)))
  ∧ (∀ (n : Nat) (s : State), withdrawHold (.bar n) s = s)
  ∧ (∀ (n : Nat) (s : State), n < 16 → ∃ bars, applyHold (.bar n) s = { s with pour := { s.pour with barOpen := bars } }
      ∧ ∀ b, b < 16 → bars.getLsbD b = (s.pour.barOpen.getLsbD b && decide (b ≠ n)))

/-- ROUTE WRITE replaces a run of entries of the inactive map and changes nothing else; a bad map, run, line or size set is refused
with RANGE, and the active map with STATE.
ROUTE SWAP is refused with BUSY while a tap is deferred, and with LINE BUSY, naming the lowest failing tap and its line, while an
entry of the incoming map would put an unlocked tap on a marked, DRAINING, QUEUED or CLEANING line. An accepted swap changes the
selector, gives every IDLE tap its new entry and clears its withheld flag, defers every other tap, and reports how many it deferred;
it changes no map, bar, size or pour (R36, R38, R39). Where an IDLE tap changes its line the drain conditions of the line it leaves and
of the line it joins are evaluated (R6, R35), which may queue a line and let a circuit take it (R156); what no evaluation can reach
stays: lines that were neither DRAINING nor QUEUED, circuits that were not IDLE, products, programs, the held records and the counts, and
everything of cellar, accounts and cleaning where no line was DRAINING or QUEUED. The order RANGE before STATE of ROUTE WRITE is the
model's deduction (assumption 15); that the taps are visited in ascending number and that of a tap's two lines the old one's condition
is evaluated first is the model's choice (assumption 46). -/
def Obligations.RouteChanges : Prop :=
  (∀ (tag : Byte) (m first : Nat) (es : List RouteEntry) (s : State), Ready s →
      let ok := m ≤ 1 ∧ 1 ≤ es.length ∧ es.length ≤ 32 ∧ first + es.length ≤ 128
        ∧ ∀ e ∈ es, (e.line ≤ 47 ∨ e.line = 255) ∧ e.sizeSet ≤ 3
      let sel : MapSel := if m = 0 then .a else .b
      let route : RouteEntry → Route := fun e =>
        { line := if e.line = 255 then none else some e.line, portionOnly := e.portionOnly, sizeSet := e.sizeSet }
      (¬ ok → exec (.routeWrite tag m first es) s = .next (refused .routeWrite tag .range (hunting s)))
      ∧ (ok → sel = s.pour.active → exec (.routeWrite tag m first es) s = .next (refused .routeWrite tag .state (hunting s)))
      ∧ (ok → sel ≠ s.pour.active → ∃ v : Vector Route 128,
          exec (.routeWrite tag m first es) s
            = .next (replied .routeWrite tag .ok .none { hunting s with pour :=
                if m = 0 then { s.pour with mapA := v } else { s.pour with mapB := v } })
          ∧ ∀ i, i < 128 → mapEntry v i = match (if first ≤ i then es[i - first]? else none) with
              | some e => route e
              | none => mapEntry (if m = 0 then s.pour.mapA else s.pour.mapB) i))
  ∧ (∀ (tag : Byte) (s : State), Ready s →
      let incoming : Nat → Route := fun i => mapEntry (if s.pour.active = .a then s.pour.mapB else s.pour.mapA) i
      let anyWaits := ∃ i, i < 128 ∧ (s.tap i).deferred = true
      let fails : Nat → Nat → Prop := fun i n => i < 128 ∧ (incoming i).line = some n ∧ (s.tap i).lockout = false
        ∧ ((s.line n).mark = true ∨ (s.line n).state = .draining ∨ (s.line n).state = .queued ∨ (s.line n).state = .cleaning)
      (anyWaits → exec (.routeSwap tag) s = .next (withReply .routeSwap tag .busy .none none (hunting s)))
      ∧ (∀ i n, ¬ anyWaits → fails i n → (∀ j k, j < i → ¬ fails j k) →
          exec (.routeSwap tag) s = .next (replied .routeSwap tag .lineBusy (.unsafeTap i n) (hunting s)))
      ∧ (¬ anyWaits → (∀ i n, ¬ fails i n) → ∃ t k,
          exec (.routeSwap tag) s = .next (replied .routeSwap tag .ok (.swapped t.pour.active k) t)
          ∧ t.pour.active = (if s.pour.active = .a then .b else .a)
          ∧ (∀ i, i < 128 → (s.tap i).pour = none → t.tap i = { s.tap i with route := incoming i, withheld := false })
          ∧ (∀ i, i < 128 → (s.tap i).pour ≠ none → (s.tap i).withheld = false → t.tap i = { s.tap i with deferred := true })
          ∧ k = (List.range 128).countP (fun i => (s.tap i).pour.isSome)
          ∧ { t.pour with taps := s.pour.taps, active := s.pour.active } = s.pour
          ∧ (∃ v : Nat → State,
              v 0 = { hunting s with pour := { s.pour with active := if s.pour.active = .a then .b else .a } }
              ∧ (∀ i, i < 128 → TapSwaps i (v i) (v (i + 1))) ∧ t = v 128)
          ∧ t.cellar = { s.cellar with lines := t.cellar.lines }
          ∧ (∀ n, (s.line n).state ≠ .draining → (s.line n).state ≠ .queued → (∀ e ∈ s.clean.queue, e.line ≠ n) →
              t.line n = s.line n)
          ∧ s.acct.journal <+: t.acct.journal
          ∧ t.acct = { s.acct with
              journal := t.acct.journal, nextSeq := t.acct.nextSeq, highNoted := t.acct.highNoted
              fullNoted := t.acct.fullNoted, unstoredClean := t.acct.unstoredClean }
          ∧ t.clean.programs = s.clean.programs
          ∧ (∀ c, (s.circuit c).state ≠ .idle → t.circuit c = s.circuit c)
          ∧ ((∀ n, n < 48 → (s.line n).state ≠ .draining ∧ (s.line n).state ≠ .queued) →
              t.cellar = s.cellar ∧ t.acct = s.acct ∧ t.clean = s.clean ∧ t.link = (hunting s).link)
          ∧ t.bus = s.bus ∧ t.cool = s.cool ∧ t.store = s.store ∧ t.pins = s.pins
          ∧ t.link = { (hunting s).link with notices := t.link.notices }))

/-! ### Pours -/

/-- An ask is refused with the reason of the first failing check in the order of R51, and otherwise granted: the tap takes the in-flight
record of R49 with the next token, the line's count goes up by 1, and a GRANT joins the node's items; nothing else changes
(R51 to R55). The checks read the tap's presence, which follows from its configured flag, its node's state and the node's tap count
(R32), the line's servability and the reason where it is not servable (R16), and its ration (R24).
An item joins the list of the tap's node at its tail; at a list of 8 a REFUSE is dropped, and a GRANT or STOP displaces the oldest
REFUSE (R78). -/
def Obligations.AskAndGrant : Prop :=
  ∀ (i z : Nat) (s : State), i < 128 →
    let r := s.tap i
    let n := r.route.line.getD 0
    let l := s.line n
    let a := i / 4 + 1
    let node := s.node a
    let fitted := r.configured && node.tapCount.any fun c => decide (i % 4 < c)
    let serves := (l.state = .serving ∨ l.state = .priming) ∧ l.chain ≠ [] ∧ l.mark = false
      ∧ l.holds.host = false ∧ l.holds.keg = false ∧ l.holds.temp = false ∧ l.holds.watch = false ∧ l.holds.overdue = false
    let checks : List (Bool × Reason) :=
      [(!(fitted && decide (node.state = .present)), .offline), (decide (r.route.line = none), .dark),
       (!s.pour.barOpen.getLsbD r.bar, .closed), (r.lockout, .locked), (r.watchBarred, .barred),
       (decide (¬ serves), if l.state = .dry ∨ l.chain = [] then .dry else .notReady),
       (r.pour.isSome, .busy), (decide (z = 0) && r.route.portionOnly, .portionOnly),
       (decide (z = 0 ∧ l.stock = .critical) && l.config.ration, .rationed),
       (decide (z ≠ 0) && decide ((sizeOf s r.route.sizeSet z).target = 0), .noSize)]
    let budget := if z = 0 then freeBudget s.pour.vfree r.gain r.offset
      else portionBudget (sizeOf s r.route.sizeSet z).target r.overrun r.gain r.offset
    let seconds := if z = 0 then s.pour.freeSeconds else 60
    askRefusal i z s = (checks.find? (·.1)).map (·.2)
    ∧ presence s i = (if fitted then (match node.state with
        | .absent => .absent
        | .present => .present
        | .lost => .offline) else .absent)
    ∧ (∀ set k : Fin 4, sizeOf s set.val (k.val + 1) = s.pour.sizes[set][k])
    ∧ (∀ set k, 4 < k → (sizeOf s set k).target = 0)
    ∧ (∀ (it : Item) (items : List QueuedItem),
        let q : QueuedItem := { item := it, carried := false }
        let refuses : Item → Prop := fun x => ∃ k reason, x = .refuse k reason
        (items.length < 8 → enqueueItem it items = items ++ [q])
        ∧ (8 ≤ items.length → refuses it → enqueueItem it items = items)
        ∧ (8 ≤ items.length → ¬ refuses it → ∀ before x after, items = before ++ x :: after → refuses x.item →
            (∀ y ∈ before, ¬ refuses y.item) → enqueueItem it items = before ++ after ++ [q]))
    ∧ (∀ it,
        let t := queueItem i it s
        t.node a = { node with items := enqueueItem it node.items } ∧ (∀ b, 1 ≤ b → b ≠ a → t.node b = s.node b)
        ∧ t = { s with bus := { s.bus with nodes := t.bus.nodes } })
    ∧ (∀ reason, askRefusal i z s = some reason → ask i z s = queueItem i (.refuse (i % 4) reason) s)
    ∧ (askRefusal i z s = none →
        (ask i z s).tap i = { r with
          nextToken := (r.nextToken + 1) % 256
          pour := some { phase := .granted, record :=
            { token := r.nextToken
              cls := if (s.line n).state = .priming then .prime else if z = 0 then .free else .portion
              size := if z = 0 then none else some { index := z, target := (sizeOf s r.route.sizeSet z).target,
                                                     tolerance := (sizeOf s r.route.sizeSet z).tolerance }
              budget := budget.1, clamped := budget.2, maxSeconds := seconds, grantTime := s.store.clock, line := n,
              kegId := match (s.line n).chain with
                | [] => 0
                | k :: _ => k.id
              lastRunning := 0, stopSent := false } } }
        ∧ (∀ j, j ≠ i → (ask i z s).tap j = s.tap j)
        ∧ (ask i z s).line n = { s.line n with inFlight := (s.line n).inFlight + 1 }
        ∧ (∀ m, m ≠ n → (ask i z s).line m = s.line m)
        ∧ (ask i z s).node (i / 4 + 1)
            = { s.node (i / 4 + 1) with
                items := enqueueItem (.grant (i % 4) r.nextToken budget.1 seconds) (s.node (i / 4 + 1)).items }
        ∧ ask i z s = { s with
            cellar := { s.cellar with lines := (ask i z s).cellar.lines }
            pour := { s.pour with taps := (ask i z s).pour.taps }
            bus := { s.bus with nodes := (ask i z s).bus.nodes } })

/-- The figures of metering: a volume is the pulses and the offset at the gain, rounded half up, and 0 without pulses; a budget lies in
1–65,535 and is flagged as clamped exactly where the computed one is larger; a learned overrun moves by an eighth of its difference from the
observed one, rounded half away from zero, and is clamped to 0–300 tenths (R54, R55, R59, R65). -/
def Obligations.MeteringFigures : Prop :=
  (∀ g o n, pulseVolume g o n = if n = 0 then 0 else ((n + o) * g + 500) / 1000)
  ∧ (∀ target overrun gain offset : Nat, 1 ≤ gain →
      let whole : Nat := ((target - overrun) * 1000 + gain - 1) / gain
      let figure : Int := (whole : Int) - offset
      let b := portionBudget target overrun gain offset
      1 ≤ b.1 ∧ b.1 ≤ 65535
      ∧ (target ≤ overrun → b = (1, false))
      ∧ (overrun < target → (b.1 : Int) = max 1 (min 65535 figure) ∧ (b.2 = true ↔ 65535 < figure)))
  ∧ (∀ vfree gain offset : Nat, 1 ≤ gain →
      let whole : Nat := (vfree * 1000 + gain - 1) / gain
      let figure : Int := (whole : Int) - offset
      let b := freeBudget vfree gain offset
      (b.1 : Int) = max 1 (min 65535 figure) ∧ (b.2 = true ↔ 65535 < figure))
  ∧ (∀ (overrun : Nat) (observed : Int),
      let d := observed - overrun
      let eighth : Int := if 0 ≤ d then (d + 4) / 8 else -((4 - d) / 8)
      (learnOverrun overrun observed : Int) = max 0 (min 300 (overrun + eighth)))

/-- A DONE event with another token, or at an IDLE tap, changes nothing. With the pour's token it ends the pour: the tap is IDLE, no
other tap's pour changes, the line's in-flight count goes down by 1, and with pulses the volume is added to the total of the pour's
class and to the line's tap-poured counter, each saturating; with no pulses neither changes (R23, R57, R58, R102, R104).
With pulses the end is measured, its figures those of R57: the keg at the head, the line's volume since clean, foam count and TEMP
cause follow and post LINE (R23, R25, R26), the POUR record and its flags are taken or the pour is folded into the tap's unjournalled tally
(R59 to R64, R66, R94, R99), the product's figures and the warm counter follow (R103), and the learned overrun moves (R65); without pulses
it is silent (R58). A STOP item of the pour still in its node's list leaves it, and nothing else of the bus changes (R79). At every end the
drain condition of the line is evaluated with the count gone down, so that a DRAINING line whose last pour ends with every routed tap locked
becomes QUEUED (R6), and then the tap's deferred route is applied or withheld (R40, R41). That of two lines the old one's condition is
evaluated first is the model's choice (assumption 46), and that of the notices of a measured end DUE comes before the HOLD of OVERDUE is
its deduction (assumption 18). -/
def Obligations.PourEnds : Prop :=
  ∀ (i token pulses fast : Nat) (temp : Option Int) (cause : EndCause) (s : State), i < 128 →
    let t := finishPour i token pulses fast temp cause s
    ((s.tap i).pour = none → t = s)
    ∧ (∀ p, (s.tap i).pour = some p → p.record.token ≠ token → t = s)
    ∧ (∀ p, (s.tap i).pour = some p → p.record.token = token → p.record.line < 48 →
        let v := pulseVolume (s.tap i).gain (s.tap i).offset pulses
        let after : Tally → PourClass → Tally := fun x c => if pulses ≠ 0 ∧ p.record.cls = c then
          { count := min 4294967295 (x.count + 1), volume := min 281474976710655 (x.volume + v) } else x
        (pulses ≠ 0 → MeasuredEnd i p.record (doneEnd p.phase pulses fast temp cause) s t)
        ∧ (pulses = 0 → SilentEnd i p.record s t)
        ∧ StopGone i token s t
        ∧ (t.tap i).pour = none ∧ (∀ j, j ≠ i → (t.tap j).pour = (s.tap j).pour)
        ∧ (t.line p.record.line).inFlight = (s.line p.record.line).inFlight - 1
        ∧ (∀ m, m ≠ p.record.line → (t.line m).inFlight = (s.line m).inFlight)
        ∧ (t.tap i).portion = after (s.tap i).portion .portion ∧ (t.tap i).free = after (s.tap i).free .free
        ∧ (t.tap i).prime = after (s.tap i).prime .prime
        ∧ (t.line p.record.line).tapPoured
            = (if pulses = 0 then (s.line p.record.line).tapPoured
               else min 281474976710655 ((s.line p.record.line).tapPoured + v)))

/-! ### The tap bus -/

/-- A missed exchange, by an expired window, a stopped reply or a broken format: a PRESENT node counts the miss and keeps its items, and
at the third in a row becomes LOST with its list emptied, its pours ORPHANED and a NODE notice posted; a node that is not PRESENT
counts none; the part goes on to the next poll. Without an exchange nothing happens (R74, R85, R194).
The next poll goes to the next due address of the round, configured and PRESENT or in a probe round; after the last the round number
advances and the next round begins with its first due address, or is empty. A poll carries the node's fresh flag, its last-taken number
and up to four items, a SETUP first while one is due and then the list's oldest, which all stay in the list (R76, R77). -/
def Obligations.MissedExchange : Prop :=
  ∀ (c : Instr) (s : State), (c = .replyWindowExpiry ∨ c = .replyByteGapTimeout ∨ c = .replyFormatBroken) →
    s.takesEvents = true →
    ((∀ p, s.bus.phase ≠ .exchange p) → exec c s = .next (transmit s))
    ∧ (∀ p, s.bus.phase = .exchange p → 1 ≤ p.address → p.address ≤ 32 →
        let n := s.node p.address
        let kept := n.items.map fun q => { q with carried := false }
        ∃ u, exec c s = .next (transmit (nextPoll p.address u))
          ∧ (n.state ≠ .present → u.node p.address = { n with items := kept } ∧ u.pour = s.pour ∧ u.link = s.link)
          ∧ (n.state = .present → n.misses + 1 < 3 →
              u.node p.address = { n with misses := n.misses + 1, items := kept } ∧ u.pour = s.pour ∧ u.link = s.link)
          ∧ (n.state = .present → 3 ≤ n.misses + 1 →
              u.node p.address = { n with
                state := .lost, misses := 3, items := [], lastTaken := none, freshDue := true, setupDue := true }
              ∧ (∀ i, i < 128 → u.tap i = if i / 4 + 1 = p.address
                  then { s.tap i with pour := (s.tap i).pour.map fun q => { q with phase := .orphaned } } else s.tap i)
              ∧ u.link = { s.link with notices := mergeNotice (.node p.address) .nodeLost s.link.notices })
          ∧ (∀ b, 1 ≤ b → b ≠ p.address → u.node b = s.node b)
          ∧ u = { s with
              pour := { s.pour with taps := u.pour.taps }, bus := { s.bus with nodes := u.bus.nodes }
              link := { s.link with notices := u.link.notices } })
    ∧ (∀ (a : Nat) (v : State), 1 ≤ a → a ≤ 32 →
        (∀ b, FirstDue v.bus.round (a + 1) v b → Polls v.bus.round b v (nextPoll a v))
        ∧ ((∀ b, a < b → b ≤ 32 → ¬ DueIn v.bus.round v b) → NextRound v (nextPoll a v)))
    ∧ (∀ (a : Nat) (n : Node), formPoll a n =
        { address := a, fresh := n.freshDue, takenThrough := n.lastTaken
          setup := if n.setupDue then some n.threshold else none
          items := (n.items.take (if n.setupDue then 3 else 4)).map (·.item) })

/-- A reply. The bytes of a complete one, and they alone, are read: address, taps and events behind their counts in the layout of section
11.4, and the CRC of all of them (R194). A valid one from the polled address is handled and the next poll follows: the node is PRESENT with
no misses and the tap count it reported; bytes that are no valid reply of that address make the exchange missed; bytes outside an exchange
are discarded. An empty round ends with the next round, whose first due address is polled (R74 to R76).
The handling runs through the steps of R81: the misses end, an ABSENT or LOST node is found with a NODE notice (R86), the items carried
leave the list and the fresh and setup flags the poll carried are cleared (R79, R80); the tap count is taken (R82), then every tap's
lockout and running pulses (R33, R56), then the events by their numbers (R83, R84); and a reply without events closes the orphans that
it shows not running as LOST, measured or silently (R73).
The model's choices: bytes behind the CRC are not read, and the late reply of an abandoned exchange is discarded without a miss
(assumption 21), unless it comes from the very address polled, which it then answers (assumption 40); a node's first tap count is no
change of it (assumption 12); the taps are visited in ascending local index, and of a tap's two lines the old one first (assumption 46); and a measured end
posts DUE before the HOLD of OVERDUE (assumption 18). -/
def Obligations.ReplyAndRound : Prop :=
  (∀ b r, readReply b = some r ↔
      ∃ front rest, ReplySpelled front r ∧ b = front ++ bytesOf 2 (crc16 front).toNat ++ rest)
  ∧ ∀ (s : State), s.takesEvents = true →
    (∀ p b r, s.bus.phase = .exchange p → 1 ≤ p.address → p.address ≤ 32 → readReply b = some r → r.address = p.address →
      ∃ t, exec (.replyReceived b) s = .next (transmit t)
        ∧ t = nextPoll p.address (handleReply p r s)
        ∧ (t.node p.address).state = .present ∧ (t.node p.address).misses = 0
        ∧ (t.node p.address).tapCount = some r.taps.length ∧ t.store = s.store ∧ t.pins = s.pins)
    ∧ (∀ p b r, s.bus.phase = .exchange p → readReply b = some r → r.address ≠ p.address → s.bus.abandoned = some r.address →
      exec (.replyReceived b) s = .next (transmit { s with bus := { s.bus with abandoned := none } }))
    ∧ (∀ p b, s.bus.phase = .exchange p →
        (∀ r, readReply b = some r → r.address ≠ p.address ∧ s.bus.abandoned ≠ some r.address) →
        exec (.replyReceived b) s = exec .replyWindowExpiry s)
    ∧ (∀ b, (∀ p, s.bus.phase ≠ .exchange p) → exec (.replyReceived b) s = .next (transmit s))
    ∧ (s.bus.phase ≠ .emptyRound → exec .emptyRoundExpiry s = .next (transmit s))
    ∧ (s.bus.phase = .emptyRound → ∃ t, exec .emptyRoundExpiry s = .next (transmit t) ∧ NextRound s t)
    ∧ (∀ (p : Poll) (r : BusReply),
        let a := p.address
        let n := s.node a
        let found : State := if n.state = .present then s else post (.node a) .nodePresent s
        let confirmed : State := found.setNode a { n with
          state := .present, misses := 0, items := n.items.filter fun q => q.carried = false
          freshDue := n.freshDue && !p.fresh, setupDue := n.setupDue && !decide (p.setup = some n.threshold) }
        let told : State := r.taps.zipIdx.foldl (fun u x => takeStatus (4 * (a - 1) + x.2) x.1 u)
          (takeTapCount a r.taps.length confirmed)
        let taken : State := r.events.foldl (fun u e => takeEvent a e u) told
        1 ≤ a → a ≤ 32 → handleReply p r s = if r.events = []
          then r.taps.zipIdx.foldl (fun u x => closeIfSilent (4 * (a - 1) + x.2) x.1 u) taken else taken)
    ∧ (∀ a count, 1 ≤ a → a ≤ 32 →
        let n := s.node a
        let counted : State := s.setNode a { n with tapCount := some count }
        let u := takeTapCount a count s
        (n.tapCount = none ∨ n.tapCount = some count → u = counted)
        ∧ (∀ old, n.tapCount = some old → old < count → u = post (.node a) .nodeTaps counted)
        ∧ (∀ old, n.tapCount = some old → count < old →
            u.node a = { n with tapCount := some count, items := n.items.filter fun q => q.item.loc < count }
            ∧ (∀ b, 1 ≤ b → b ≠ a → u.node b = s.node b)
            ∧ (∀ i, i < 128 → u.tap i = if i / 4 + 1 = a ∧ count ≤ i % 4
                then { s.tap i with pour := (s.tap i).pour.map fun q => { q with phase := .orphaned } } else s.tap i)
            ∧ { key := .node a, cause := .nodeTaps } ∈ u.link.notices
            ∧ u = { s with pour := { s.pour with taps := u.pour.taps }, bus := { s.bus with nodes := u.bus.nodes }
                           link := { s.link with notices := u.link.notices } }))
    ∧ (∀ i, i < 128 →
        (∀ on,
          let u := reportLockout i on s
          let stored : State := s.setTap i { s.tap i with lockout := on }
          let drained : State := match (s.tap i).route.line with
            | none => stored
            | some m => evalDrain m stored
          (u.tap i).lockout = on ∧ (∀ j, j ≠ i → (u.tap j).lockout = (s.tap j).lockout)
          ∧ (∀ j, (u.tap j).pour = (s.tap j).pour)
          ∧ ((s.tap i).lockout = on → u = s)
          ∧ ((s.tap i).lockout = false → on = true → (drained.tap i).withheld = false → u = drained)
          ∧ ((s.tap i).lockout = false → on = true → (drained.tap i).withheld = true →
              let x := drained.tap i
              let entry := mapEntry (if drained.pour.active = .a then drained.pour.mapA else drained.pour.mapB) i
              LineChanged x.route.line entry.line (drained.setTap i { x with withheld := false, route := entry }) u)
          ∧ ((s.tap i).lockout = true → on = false → u = match (s.tap i).route.line with
              | none => drained
              | some m => lockoutFault m drained))
        ∧ (∀ st : TapStatus, takeStatus i st s = match st.running with
            | none => reportLockout i st.lockout s
            | some k => reportRunning i k (reportLockout i st.lockout s))
        ∧ (∀ k, (s.tap i).pour = none → reportRunning i k s = s)
        ∧ (∀ k q, (s.tap i).pour = some q → reportRunning i k s = s.setTap i { s.tap i with
            pour := some { phase := if q.phase = .granted then .pouring else q.phase
                           record := { q.record with lastRunning := k } } })
        ∧ (∀ st : TapStatus, closeIfSilent i st s
            = if presence s i = .present ∧ st.running = none then closeLost i s else s)
        ∧ ((∀ q, (s.tap i).pour = some q → q.phase ≠ .orphaned) → closeLost i s = s)
        ∧ (∀ q, (s.tap i).pour = some q → q.phase = .orphaned → q.record.line < 48 →
            (q.record.lastRunning ≠ 0 → MeasuredEnd i q.record (lostEnd q.record) s (closeLost i s))
            ∧ (q.record.lastRunning = 0 → SilentEnd i q.record s (closeLost i s))
            ∧ StopGone i q.record.token s (closeLost i s)))
    ∧ (∀ a (e : Event), 1 ≤ a → a ≤ 32 →
        let n := s.node a
        let accepted := n.lastTaken = none ∨ ∃ k, n.lastTaken = some k ∧ e.number = (k + 1) % 16
        let u : State := s.setNode a { n with lastTaken := some e.number }
        let i := 4 * (a - 1) + e.loc
        (¬ accepted → takeEvent a e s = s)
        ∧ (accepted → takeEvent a e s = match e.body with
            | .ask z => ask i z u
            | .done token pulses fast temp cause => finishPour i token pulses fast temp cause u))

/-! ### The journal, the totals, the watches and the calibration -/

/-- STATUS returns the summary of the part, each figure as it stands when the reply is formed, and changes nothing (R178). That the
calibration window's open flag is read before the request itself is counted in the window, so that the last further request of R122
shows it open, is the model's deduction (assumption 20). -/
def Obligations.StatusReport : Prop :=
  ∀ (tag : Byte) (s : State), Ready s →
    let lines : ServiceState → Nat := fun st => s.cellar.lines.toList.countP fun l => l.state = st
    let nodes : NodeState → Nat := fun st =>
      (List.range' 1 32).countP fun a => nodeConfigured s a && decide ((s.node a).state = st)
    exec (.status tag) s = .next (replied .status tag .ok
      (.summary
        { clock := s.store.clock, unset := s.store.unset, lastStart := s.store.lastStart
          linesIn := #v[lines .offline, lines .foul, lines .draining, lines .queued, lines .cleaning, lines .rinsed,
            lines .priming, lines .serving, lines .dry]
          linesHeld := s.cellar.lines.toList.countP fun l =>
            l.holds.host || l.holds.keg || l.holds.temp || l.holds.watch || l.holds.overdue
          nodesIn := #v[nodes .absent, nodes .present, nodes .lost]
          circuits := { a := (s.circuit .a).state, b := (s.circuit .b).state }
          queueLength := s.clean.queue.length
          stagesRunning := s.cool.stages.toList.countP (·.running)
          freezeHold := s.cool.freezeHold
          trunksInAlarm := s.cool.trunks.toList.countP (·.alarm)
          held := s.acct.journal.length, nextSeq := s.acct.nextSeq
          notices := s.link.notices.length, pace := s.link.pace
          calSwitch := s.pins.calSwitch, windowOpen := s.acct.window.isOpen, discarded := s.link.discarded }) (hunting s))

/-- Taking a record: while the journal holds fewer than 4,096 records, a number remains, and for a POUR or PURGE fewer than 4,032 of
these are held, the record joins the newest end with the next number and the present time; otherwise it is lost, its kind is counted
where the count is the Accounting Unit's, and FULL is noted. HIGH is noted at 3,584 records. Nothing else changes (R91 to R93, R99
to R101). That a HIGH which follows a FULL still pending replaces its cause (R181) is the model's choice (assumption 54). -/
def Obligations.TakeRecord : Prop :=
  ∀ (b : RecordBody) (s : State),
    let a := s.acct
    let pourOrPurge := (∃ p, b = .pour p) ∨ ∃ l c p v, b = .purge l c p v
    let room := a.journal.length < 4096 ∧ a.nextSeq ≤ 4294967295 ∧ (pourOrPurge → a.pourPurge < 4032)
    let up : Nat → Nat := fun n => min 4294967295 (n + 1)
    (room → takeRecord b s = { s with
      acct := { a with
        journal := a.journal ++
          [{ seq := a.nextSeq, time := if s.store.unset then none else some s.store.clock, body := b }]
        nextSeq := a.nextSeq + 1
        pourPurge := a.pourPurge + (if b.isPourPurge then 1 else 0)
        highNoted := a.highNoted || decide (3584 ≤ a.journal.length + 1) }
      link := { s.link with
        notices := if a.highNoted = false ∧ 3584 ≤ a.journal.length + 1 then mergeNotice .journal .journalHigh s.link.notices
        else s.link.notices } })
    ∧ (¬ room → takeRecord b s = { s with
      acct := { a with
        fullNoted := true
        unstoredKeg := match b with
          | .keg _ _ _ _ _ _ _ _ => up a.unstoredKeg
          | _ => a.unstoredKeg
        unstoredClean := match b with
          | .clean _ _ _ _ _ _ _ _ _ => up a.unstoredClean
          | _ => a.unstoredClean
        unstoredCal := match b with
          | .cal _ _ _ _ _ _ _ => up a.unstoredCal
          | _ => a.unstoredCal
        unstoredWatch := match b with
          | .watch _ _ _ _ _ => up a.unstoredWatch
          | _ => a.unstoredWatch }
      link := { s.link with
        notices := if a.fullNoted then s.link.notices else mergeNotice .journal .journalFull s.link.notices } })
    ∧ (b.isPourPurge = true ↔ pourOrPurge)

/-- JOURNAL READ from n returns the first 8 held records numbered n or higher with the number of the first and the journal status, and
changes nothing. JOURNAL RELEASE through n removes the records numbered n or lower, adds each POUR removed to its tap's released
tally, and clears the noted flags; it is refused with RANGE below the oldest less 1 or above the newest, and that reply too
carries the journal status (R91, R97, R98). -/
def Obligations.JournalRequests : Prop :=
  ∀ (tag : Byte) (n : Nat) (s : State), Ready s → JournalLaw s →
    let a := s.acct
    let oldest := a.nextSeq - a.journal.length
    let status : Accounts → JournalStatus := fun x =>
      { held := x.journal.length, pourPurge := x.pourPurge, oldest := x.nextSeq - x.journal.length, newest := x.nextSeq - 1,
        next := x.nextSeq, unstoredKeg := x.unstoredKeg, unstoredClean := x.unstoredClean, unstoredCal := x.unstoredCal,
        unstoredWatch := x.unstoredWatch }
    let found := (a.journal.filter fun r => n ≤ r.seq).take 8
    let gone := a.journal.filter fun r => r.seq ≤ n
    let kept := a.journal.filter fun r => n < r.seq
    let first := match found with
      | [] => a.nextSeq
      | r :: _ => r.seq
    exec (.journalRead tag n) s = .next (replied .journalRead tag .ok (.records first found (status a)) (hunting s))
    ∧ (n + 1 < oldest ∨ a.nextSeq - 1 < n →
        exec (.journalRelease tag n) s
          = .next (replied .journalRelease tag .range (.journalStatus (status a)) (hunting s)))
    ∧ (oldest ≤ n + 1 → n ≤ a.nextSeq - 1 →
        ∃ t, exec (.journalRelease tag n) s
            = .next (replied .journalRelease tag .ok (.released gone.length (status t.acct)) t)
          ∧ t = { hunting s with acct := t.acct, pour := { s.pour with taps := t.pour.taps } }
          ∧ t.acct = { a with
              journal := kept, pourPurge := kept.countP (fun r => r.body.isPourPurge)
              fullNoted := if gone = [] then a.fullNoted else false
              highNoted := if kept.length < 3584 then false else a.highNoted }
          ∧ (∀ i, i < 128 → t.tap i = { s.tap i with
              released := gone.foldl (fun x r => match r.body with
                | .pour p => if p.tap = i then x.plus p.volume else x
                | _ => x) (s.tap i).released }))

/-- TOTALS READ returns the figures of a tap, the sales of a product or the variance counters of a line, HISTOGRAM READ the buckets of a
product; both change nothing, and refuse with RANGE or NOT FOUND what names nothing. -/
def Obligations.TotalsReads : Prop :=
  ∀ (tag : Byte) (n : Nat) (s : State), Ready s →
    (n ≤ 127 → exec (.totalsRead tag 0 n) s
      = .next (replied .totalsRead tag .ok (.tapTotals (s.tap n).portion (s.tap n).free (s.tap n).prime (s.tap n).released
          (s.tap n).unjournalled) (hunting s)))
    ∧ (127 < n → exec (.totalsRead tag 0 n) s = .next (refused .totalsRead tag .range (hunting s)))
    ∧ (∀ p, s.cellar.products.find? (fun p => p.code = n) = some p →
        exec (.totalsRead tag 1 n) s = .next (replied .totalsRead tag .ok (.sales p.sales) (hunting s))
        ∧ exec (.histogramRead tag n) s = .next (replied .histogramRead tag .ok (.histogram p.histogram) (hunting s)))
    ∧ ((∀ p ∈ s.cellar.products, p.code ≠ n) →
        exec (.totalsRead tag 1 n) s = .next (refused .totalsRead tag .notFound (hunting s))
        ∧ exec (.histogramRead tag n) s = .next (refused .histogramRead tag .notFound (hunting s)))
    ∧ (n ≤ 47 → exec (.totalsRead tag 2 n) s
        = .next (replied .totalsRead tag .ok (.lineVariance (s.line n).cellarDrawn (s.line n).tapPoured) (hunting s)))
    ∧ (47 < n → exec (.totalsRead tag 2 n) s = .next (refused .totalsRead tag .range (hunting s)))
    ∧ (∀ scope, 2 < scope → exec (.totalsRead tag scope n) s = .next (refused .totalsRead tag .range (hunting s)))

/-- TOTALS CLEAR, refused with STATE while a record is held, sets the tallies of every tap, the figures of every product, the unstored
counts and the unstored-purge counts to 0 and changes nothing else. RECONCILE returns a line's counters, their difference and the head
keg's volumes, and sets both counters to 0. -/
def Obligations.ClearAndReconcile : Prop :=
  ∀ (tag : Byte) (s : State), Ready s →
    let zero : Tally := { count := 0, volume := 0 }
    (s.acct.journal ≠ [] → exec (.totalsClear tag) s = .next (refused .totalsClear tag .state (hunting s)))
    ∧ (s.acct.journal = [] → ∃ taps, exec (.totalsClear tag) s = .next (replied .totalsClear tag .ok .none { hunting s with
          pour := { s.pour with taps := taps }
          cellar := { s.cellar with
            products := s.cellar.products.map fun p => { p with sales := zero, histogram := Vector.replicate 8 0 } }
          acct := { s.acct with unstoredKeg := 0, unstoredClean := 0, unstoredCal := 0, unstoredWatch := 0 }
          clean := { s.clean with
            circuits := { a := { s.circuit .a with unstoredPurge := 0 }, b := { s.circuit .b with unstoredPurge := 0 } } } })
        ∧ ∀ i, i < 128 → taps[i]? = some { s.tap i with
            portion := zero, free := zero, prime := zero, released := zero, unjournalled := zero })
    ∧ (∀ n, 47 < n → exec (.reconcile tag n) s = .next (refused .reconcile tag .range (hunting s)))
    ∧ (∀ n, n ≤ 47 →
        let l := s.line n
        let answer : Nat → Nat → Nat → Host.Outcome State Fault Refusal := fun id drawn poured =>
          .next (replied .reconcile tag .ok
            (.reconciled n l.cellarDrawn l.tapPoured ((l.cellarDrawn : Int) - l.tapPoured) id drawn poured)
            ((hunting s).setLine n { l with cellarDrawn := 0, tapPoured := 0 }))
        (l.chain = [] → exec (.reconcile tag n) s = answer 0 0 0)
        ∧ (∀ k rest, l.chain = k :: rest →
            exec (.reconcile tag n) s = answer k.id (k.frozen + (k.pulses * l.gain + 500) / 1000) k.poured))

/-- WATCH SET writes an ARMED entry with trip count 0 and WATCH CLEAR turns one OFF, its count standing; where the entry was TRIPPED with
action HOLD its effects are first withdrawn: the tap it barred, or the WATCH cause of each line, unless another such entry stands; a
closed bar stays closed. A line that loses the cause posts LINE with cause HOLD, and no other pending notice changes (R12, R118). A
target kind, condition or action beyond those the manual lists, a TAP number above 127, a LINE number above 47, a BAR number above 15, a
watch number above 7 and a threshold above 3,947,400 are refused with RANGE. WATCH GET returns one entry or all and changes nothing
(R113, R118, R119). -/
def Obligations.WatchRequests : Prop :=
  ∀ (tag : Byte) (w : Nat) (s : State), Ready s →
    let old := s.watch w
    let stands : WatchTarget → Bool := fun x => (List.range 8).any fun v =>
      v ≠ w && (s.watch v).state = .tripped && (s.watch v).action = .hold && (s.watch v).target = x
    let lifts := old.state = .tripped ∧ old.action = .hold
    let onLines : Bool := match old.target with
      | .line _ => true
      | .all => true
      | .tap _ => false
      | .bar _ => false
    let written : RequestKind → Watch → Instr → Prop := fun k e c =>
      ∃ t, exec c s = .next (replied k tag .ok (.watch e) t)
        ∧ t.acct = { s.acct with watches := s.acct.watches.setIfInBounds w e }
        ∧ (∀ i, i < 128 → t.tap i = { s.tap i with
            watchBarred := (s.tap i).watchBarred && !decide (lifts ∧ old.target = .tap i ∧ stands (.tap i) = false) })
        ∧ (∀ n, n < 48 → t.line n = { s.line n with holds := { (s.line n).holds with
            watch := if lifts ∧ onLines = true
            then (s.line n).holds.watch && (stands (.line n) || stands .all) else (s.line n).holds.watch } })
        ∧ { t.pour with taps := s.pour.taps } = s.pour
        ∧ HoldsNotified (hunting s) t ∧ NoticesOnly ((List.range 48).map .line) (hunting s) t
        ∧ t = { hunting s with
            acct := t.acct, pour := t.pour, cellar := { s.cellar with lines := t.cellar.lines }
            link := { (hunting s).link with notices := t.link.notices } }
    let target : WatchEntry → Option WatchTarget := fun e =>
      if e.targetKind = 0 ∧ e.targetNumber ≤ 127 then some (.tap e.targetNumber)
      else if e.targetKind = 1 ∧ e.targetNumber ≤ 47 then some (.line e.targetNumber)
      else if e.targetKind = 2 ∧ e.targetNumber ≤ 15 then some (.bar e.targetNumber)
      else if e.targetKind = 3 then some .all else none
    let condition : WatchEntry → Option WatchCondition := fun e =>
      [WatchCondition.anyPour, .volumeOver, .warm, .foamy, .shortOrOver][e.condition]?
    let action : WatchEntry → Option WatchAction := fun e => [WatchAction.note, .hold][e.action]?
    (∀ (e : WatchEntry), w ≤ 7 → e.threshold ≤ 3947400 → ∀ x c a, target e = some x → condition e = some c → action e = some a →
        written .watchSet { target := x, condition := c, threshold := e.threshold, action := a, state := .armed, count := 0 }
          (.watchSet tag w e))
    ∧ (∀ (e : WatchEntry), 7 < w ∨ 3947400 < e.threshold ∨ target e = none ∨ condition e = none ∨ action e = none →
        exec (.watchSet tag w e) s = .next (refused .watchSet tag .range (hunting s)))
    ∧ (w ≤ 7 → written .watchClear { old with state := .off } (.watchClear tag w))
    ∧ (7 < w → exec (.watchClear tag w) s = .next (refused .watchClear tag .range (hunting s))
        ∧ exec (.watchGet tag (some w)) s = .next (refused .watchGet tag .range (hunting s)))
    ∧ (w ≤ 7 → exec (.watchGet tag (some w)) s = .next (replied .watchGet tag .ok (.watch old) (hunting s)))
    ∧ exec (.watchGet tag none) s = .next (replied .watchGet tag .ok (.watches s.acct.watches) (hunting s))

/-- The visit of one watch entry at a POUR record. An entry that is OFF or does not match does nothing; a TRIPPED one that matches counts
the trip; an ARMED one trips: it takes a WATCH record, posts its notice and, with action HOLD, bars its tap, adds the WATCH cause to
its line or to every line, or closes its bar; a NOTE does no more (R114 to R117). Each line that gains the cause posts LINE with cause
HOLD; no other pending notice changes but those of the watch and of the record (R12, R101, R116). That the record carries the entry's
threshold whatever its condition is the model's choice (assumption 60). -/
def Obligations.WatchVisit : Prop :=
  ∀ (r : PourRecord) (seq : Option Nat) (w : Nat) (s : State), w < 8 →
    let e := s.watch w
    let hits := (match e.target with
        | .tap n => r.tap = n
        | .line n => r.line = n
        | .bar n => (s.tap r.tap).bar = n
        | .all => True)
      ∧ (match e.condition with
        | .anyPour => True
        | .volumeOver => e.threshold < r.volume
        | .warm => r.flags.warm = true
        | .foamy => r.flags.foamy = true
        | .shortOrOver => r.flags.short = true ∨ r.flags.overTarget = true)
    let t := visitWatch r seq w s
    let body := RecordBody.watch w e.target e.condition e.threshold seq
    let tripped := s.setWatch w { e with state := .tripped, count := 1 }
    let hold := e.action = .hold
    (e.state = .off ∨ ¬ hits → t = s)
    ∧ (e.state = .tripped → hits → t = s.setWatch w { e with count := min 4294967295 (e.count + 1) })
    ∧ (e.state = .armed → hits →
        t.acct = (takeRecord body tripped).acct ∧ t.watch w = { e with state := .tripped, count := 1 }
        ∧ { key := .watch w, cause := .watchTripped } ∈ t.link.notices ∧ HoldsNotified s t
        ∧ (∀ x : Notice, x.key ≠ .watch w → (∀ n, x.key ≠ .line n) →
            (x ∈ t.link.notices ↔ x ∈ (takeRecord body tripped).link.notices))
        ∧ (∀ i, i < 128 → t.tap i = { s.tap i with
            watchBarred := (s.tap i).watchBarred || decide (hold ∧ e.target = .tap i) })
        ∧ (∀ n, n < 48 → t.line n = { s.line n with holds := { (s.line n).holds with
            watch := (s.line n).holds.watch || decide (hold ∧ (e.target = .line n ∨ e.target = .all)) } })
        ∧ (∀ b, b < 16 → t.pour.barOpen.getLsbD b = (s.pour.barOpen.getLsbD b && !decide (hold ∧ e.target = .bar b)))
        ∧ { t.pour with taps := s.pour.taps, barOpen := s.pour.barOpen } = s.pour
        ∧ t = { s with
            acct := t.acct, pour := t.pour, cellar := { s.cellar with lines := t.cellar.lines }
            link := { s.link with notices := t.link.notices } })

/-- The calibration window. CAL OPEN is refused with LOCKED while the switch is off and with STATE while the window is open; otherwise the
window opens with 4 further requests and 30 s. The switch turning off, and the 30 s, close it at once, with no notice; the switch
turning on does not open it.
CAL READ returns the figures of a tap, line or circuit meter with the window's open flag, requests remaining and seconds left, and
changes no meter; a kind or number that names none is refused with RANGE (R121, R122, R126). The model's choices: the window's time is
counted by the clock, and its expiry closes it at any open time (assumption 11); CAL READ shows the window before its own count
(assumption 20); one command turns the switch either way (assumption 24); a closed window has open time 0 and no seconds left
(assumptions 37 and 38); a refused CAL OPEN carries the status alone (assumption 47). -/
def Obligations.CalWindowAndRead : Prop :=
  ((∀ (tag : Byte) (s : State), Ready s →
      (s.pins.calSwitch = false → exec (.calOpen tag) s = .next (refused .calOpen tag .locked (hunting s)))
      ∧ (s.pins.calSwitch = true → s.acct.window.isOpen = true →
          exec (.calOpen tag) s = .next (refused .calOpen tag .state (hunting s)))
      ∧ (s.pins.calSwitch = true → s.acct.window.isOpen = false →
          exec (.calOpen tag) s = .next (withReply .calOpen tag .ok (.window { isOpen := true, remaining := 4, secondsLeft := 30 })
            none { hunting s with acct := { s.acct with window := { isOpen := true, remaining := 4, openTime := 0 } } })))
    ∧ (∀ (s : State), s.takesEvents = true →
      let shut : Window := { isOpen := false, remaining := 0, openTime := 0 }
      let pin : Bool → State := fun on => { s with pins := { s.pins with calSwitch := on } }
      exec .calWindowTimeout s = .next (transmit { s with acct := { s.acct with window := shut } })
      ∧ exec (.calSwitchOff true) s = .next (transmit { pin false with acct := { s.acct with window := shut } })
      ∧ exec (.calSwitchOff false) s = .next (transmit (pin true))))
  ∧ (∀ (tag : Byte) (n : Nat) (s : State), Ready s →
      let w := s.acct.window
      let view : WindowView :=
        { isOpen := w.isOpen, remaining := w.remaining, secondsLeft := if w.isOpen then 30 - w.openTime else 0 }
      let read : Nat → Nat → Nat → Option Nat → Prop := fun kind gain offset r =>
        exec (.calRead tag kind n) s = .next (replied .calRead tag .ok (.meterAndWindow gain offset r view) (hunting s))
      let range : Nat → Prop := fun kind => exec (.calRead tag kind n) s = .next (refused .calRead tag .range (hunting s))
      (n ≤ 127 → read 0 (s.tap n).gain (s.tap n).offset (some (s.tap n).overrun)) ∧ (127 < n → range 0)
      ∧ (n ≤ 47 → read 1 (s.line n).gain 0 none) ∧ (47 < n → range 1)
      ∧ (n = 0 → read 2 (s.circuit .a).gain (s.circuit .a).offset none)
      ∧ (n = 1 → read 2 (s.circuit .b).gain (s.circuit .b).offset none) ∧ (1 < n → range 2)
      ∧ (∀ kind, 2 < kind → range kind))

/-- CAL WRITE. It is refused with LOCKED while the window is closed, with RANGE for a meter or figure out of range, with TAP BUSY for a tap
that is not IDLE, with STATE for a circuit that is not IDLE. Otherwise the meter takes the figures, a line meter after its head keg's
drawn volume is frozen and without an offset, a CAL record with the old and new figures is taken, and nothing else changes but the
fast threshold of the tap meter's node, computed again from its configured taps (R80), and notices of the journal (R123 to R125). -/
def Obligations.CalWrite : Prop :=
  ∀ (tag : Byte) (kind n gain offset : Nat) (rReset : Bool) (s : State), Ready s →
    let c : Instr := .calWrite tag kind n gain offset rReset
    let good := ((kind = 0 ∧ n ≤ 127) ∨ (kind = 1 ∧ n ≤ 47) ∨ (kind = 2 ∧ n ≤ 1)) ∧ 500 ≤ gain ∧ gain ≤ 60000 ∧ offset ≤ 255
    let isOpen := s.acct.window.isOpen = true
    let circuit : Circuit := if n = 0 then .a else .b
    let rest : RecordBody → State → Prop := fun b t =>
      t.acct = (takeRecord b s).acct ∧ t.cool = s.cool ∧ t.store = s.store ∧ t.pins = s.pins
        ∧ t.link = { (hunting s).link with notices := (takeRecord b s).link.notices }
    (¬ isOpen → exec c s = .next (refused .calWrite tag .locked (hunting s)))
    ∧ (isOpen → ¬ good → exec c s = .next (refused .calWrite tag .range (hunting s)))
    ∧ (isOpen → good → kind = 0 → (s.tap n).pour ≠ none → exec c s = .next (refused .calWrite tag .tapBusy (hunting s)))
    ∧ (isOpen → good → kind = 2 → (s.circuit circuit).state ≠ .idle →
        exec c s = .next (refused .calWrite tag .state (hunting s)))
    ∧ (isOpen → good → kind = 0 → (s.tap n).pour = none →
        let r := if rReset then 0 else (s.tap n).overrun
        ∃ t, exec c s = .next (replied .calWrite tag .ok (.meter gain offset (some r)) t)
          ∧ rest (.cal .tap n (s.tap n).gain gain (s.tap n).offset offset rReset) t
          ∧ t.tap n = { s.tap n with gain := gain, offset := offset, overrun := r } ∧ (∀ i, i ≠ n → t.tap i = s.tap i)
          ∧ { t.pour with taps := s.pour.taps } = s.pour ∧ t.cellar = s.cellar ∧ t.clean = s.clean
          ∧ t.bus = { s.bus with nodes := t.bus.nodes } ∧ (∀ b, 1 ≤ b → b ≠ n / 4 + 1 → t.node b = s.node b)
          ∧ Rethresholded (n / 4 + 1) (s.node (n / 4 + 1)) t)
    ∧ (isOpen → good → kind = 1 →
        let l := s.line n
        ∃ t, exec c s = .next (replied .calWrite tag .ok (.meter gain 0 none) t)
          ∧ rest (.cal .line n l.gain gain 0 0 false) t
          ∧ t.line n = { l with
              gain := gain
              chain := match l.chain with
                | [] => []
                | k :: ks => { k with frozen := k.frozen + (k.pulses * l.gain + 500) / 1000, pulses := 0 } :: ks }
          ∧ (∀ m, m ≠ n → t.line m = s.line m) ∧ { t.cellar with lines := s.cellar.lines } = s.cellar
          ∧ t.pour = s.pour ∧ t.bus = s.bus ∧ t.clean = s.clean)
    ∧ (isOpen → good → kind = 2 → (s.circuit circuit).state = .idle →
        let o := s.circuit circuit
        ∃ t, exec c s = .next (replied .calWrite tag .ok (.meter gain offset none) t)
          ∧ rest (.cal .circuit n o.gain gain o.offset offset false) t
          ∧ t.clean = { s.clean with circuits := s.clean.circuits.put circuit { o with gain := gain, offset := offset } }
          ∧ t.cellar = s.cellar ∧ t.pour = s.pour ∧ t.bus = s.bus)

/-! ### Cooling -/

/-- The requests of cooling. TRUNK SET writes a trunk's four settings, sets its timers to 0 and posts a TRUNK notice. CHILLER SET stores
the count and S, computes the allocation again where S changes, posts STAGE FAULT where it brings in a faulted stage, and is refused
with STATE where a stage above the count runs. SURGE ADD inserts in start order and is refused with RANGE, DUPLICATE and FULL; SURGE
REMOVE takes an entry out or is refused with NOT FOUND. COOLING GET returns its scope and changes nothing (R127, R133, R136, R143). That a
new surge entry is inactive until the next period, and that the capacity and the active flags are reported as that period left them, is the
model's choice (assumption 31), and so are the reading kept at the setpoint of the start (assumption 42), the widths that let ALL TRUNKS go
in one frame (assumption 27), and the faults of the start that CHILLER SET takes off a stage that leaves (assumption 23). That the new
allocation of CHILLER SET goes by the classes of the last period (assumption 43) and that its RANGE comes before STATE (assumption 15)
are the model's deductions; that the reply of CHILLER SET has the fields of COOLING GET CHILLER is its choice (assumption 55), and so is
that a trunk record of COOLING GET shows the allocation and the valve duty as they stand, also where they were computed again since the
last expiry (assumption 62). -/
def Obligations.CoolingRequests : Prop :=
  ∀ (tag : Byte) (s : State), Ready s →
    (∀ n setpoint kp cls alarm,
      let ok := n ≤ 11 ∧ 0 ≤ setpoint ∧ setpoint ≤ 120 ∧ 1 ≤ kp ∧ kp ≤ 50 ∧ 1 ≤ cls ∧ cls ≤ 3 ∧ setpoint + 10 ≤ alarm ∧ alarm ≤ 400
      let r : Trunk := { s.trunk n with setpoint := setpoint, kp := kp, cls := cls, alarmThreshold := alarm, alarmTimer := 0,
                                        releaseTimer := 0 }
      (ok → exec (.trunkSet tag n setpoint kp cls alarm) s
        = .next (replied .trunkSet tag .ok (.trunk r) (post (.trunk n) .trunkConfig ((hunting s).setTrunk n r))))
      ∧ (¬ ok → exec (.trunkSet tag n setpoint kp cls alarm) s = .next (refused .trunkSet tag .range (hunting s))))
    ∧ (∀ count points,
      let ok := 1 ≤ count ∧ count ≤ 4 ∧ 50 ≤ points ∧ points ≤ 400
      let above := ∃ i, count ≤ i ∧ i < 4 ∧ (s.stage i).running = true
      let faulted := ∃ i : Fin 4, s.cool.count ≤ i.val ∧ i.val < count ∧ s.pins.stageFault[i] = true
      (¬ ok → exec (.chillerSet tag count points) s = .next (refused .chillerSet tag .range (hunting s)))
      ∧ (ok → above → exec (.chillerSet tag count points) s = .next (refused .chillerSet tag .state (hunting s)))
      ∧ (ok → ¬ above → ∃ t, exec (.chillerSet tag count points) s
            = .next (replied .chillerSet tag .ok (.chiller (chillerView t)) t)
          ∧ (∀ n, n < 12 → t.trunk n = { s.trunk n with
              allocation := if s.cool.points = points then (s.trunk n).allocation
              else allocationOf s.cool.trunks.toList (s.cool.stages.toList.countP (·.running) * points) (s.trunk n) })
          ∧ t = { hunting s with
              cool := { s.cool with count := count, points := points, trunks := t.cool.trunks, startFaults := t.cool.startFaults }
              link := { (hunting s).link with notices := t.link.notices }}
          ∧ (∀ i : Fin 4, t.cool.startFaults[i] = (s.cool.startFaults[i] && decide (i.val < count)))
          ∧ (faulted → t.link.notices = mergeNotice .chiller .stageFault s.link.notices)
          ∧ (¬ faulted → t.link.notices = s.link.notices)))
    ∧ (∀ start duration lead boost,
      let ok := 60 ≤ duration ∧ duration ≤ 3600 ∧ lead ≤ 1800 ∧ boost ≤ 50
        ∧ (s.store.unset = true ∨ s.store.clock < start + duration)
      let held := ∃ e ∈ s.cool.surges, e.start = start
      let entry : Surge := { start := start, duration := duration, lead := lead, boost := boost, active := false }
      let c : Instr := .surgeAdd tag start duration lead boost
      (¬ ok → exec c s = .next (refused .surgeAdd tag .range (hunting s)))
      ∧ (ok → held → exec c s = .next (refused .surgeAdd tag .duplicate (hunting s)))
      ∧ (ok → ¬ held → 4 ≤ s.cool.surges.length → exec c s = .next (refused .surgeAdd tag .full (hunting s)))
      ∧ (ok → ¬ held → s.cool.surges.length < 4 → ∃ before after, s.cool.surges = before ++ after
          ∧ (∀ x ∈ before, x.start < start) ∧ (∀ x, after.head? = some x → start < x.start)
          ∧ exec c s = .next (replied .surgeAdd tag .ok (.surgePlan (before ++ entry :: after))
              { hunting s with cool := { s.cool with surges := before ++ entry :: after } })))
    ∧ (∀ start, (∃ e ∈ s.cool.surges, e.start = start) →
        let es := s.cool.surges.filter fun e => e.start ≠ start
        exec (.surgeRemove tag start) s
          = .next (replied .surgeRemove tag .ok (.surgePlan es) { hunting s with cool := { s.cool with surges := es } }))
    ∧ (∀ start, (∀ e ∈ s.cool.surges, e.start ≠ start) →
        exec (.surgeRemove tag start) s = .next (refused .surgeRemove tag .notFound (hunting s)))
    ∧ (∀ n, n ≤ 11 → exec (.coolingGet tag 0 n) s = .next (replied .coolingGet tag .ok (.trunkState (s.trunk n)) (hunting s)))
    ∧ (∀ n, 11 < n → exec (.coolingGet tag 0 n) s = .next (refused .coolingGet tag .range (hunting s)))
    ∧ (∀ n, exec (.coolingGet tag 1 n) s = .next (replied .coolingGet tag .ok (.trunks s.cool.trunks) (hunting s))
        ∧ exec (.coolingGet tag 3 n) s = .next (replied .coolingGet tag .ok (.surges s.cool.surges) (hunting s))
        ∧ ∃ v, exec (.coolingGet tag 2 n) s = .next (replied .coolingGet tag .ok (.chiller v) (hunting s))
          ∧ v.count = s.cool.count ∧ v.points = s.cool.points ∧ v.target = s.cool.target ∧ v.capacity = s.cool.capacity
          ∧ v.sumOfDemands = (s.cool.trunks.toList.map (·.demand)).sum
          ∧ v.stagesRunning = s.cool.stages.toList.countP (·.running)
          ∧ (∀ i : Fin 4, v.running[i] = (s.stage i.val).running ∧ v.times[i] = (s.stage i.val).time
              ∧ v.available[i] = (decide (i.val < s.cool.count) && !s.pins.stageFault[i]))
          ∧ v.bath = s.cool.bath ∧ v.bathFault = s.cool.bathFault ∧ v.freezeHold = s.cool.freezeHold)
    ∧ (∀ scope n, 3 < scope → exec (.coolingGet tag scope n) s = .next (refused .coolingGet tag .range (hunting s)))

/-- The allocation: with the sum of demands within the capacity each trunk has its demand; otherwise the classes are served in the order
1, 2, 3, a class that fits whole, one that does not in proportion rounded down. It changes nothing else, and with classes in 1–3 the
allocations never sum to more than the capacity.
The timers and stage inputs of cooling. A duty window takes each allocation as its duty and opens its valve; the duty's end shuts a
valve of a duty below 100. An alarm timer at 300 s enters ALARM; a release timer at 120 s returns to 0 and releases TEMP on the lines
of the trunk, each of which posts LINE with cause HOLD where it held TEMP, while no other pending notice changes (R12). A fault input that
becomes active stops a running configured stage and shares its capacity out again; one that becomes inactive is reported; a stage above the
count is not heeded (R14, R134, R135, R138, R141, R142). The outputs follow at once: from the start of a window the valve of a trunk stands
open where its allocation is not 0, the expiry of a duty below 100 shuts that valve alone, and a stage whose fault input has become active
is off while the others run on or stay off (R135, R138). A trunk's class counts from the next control period (R127); that an allocation
between periods takes the class the last period took is the model's deduction (assumption 43). That the alarm and release expiries act only
at 300 s and 120 s, and that the valve of a duty of 100 stays open, is the model's choice (assumption 9), and so is that an input repeated
at its level changes nothing (assumption 23). -/
def Obligations.AllocationAndTimers : Prop :=
  (∀ (s : State),
      let ts := s.cool.trunks.toList
      let capacity := s.cool.stages.toList.countP (·.running) * s.cool.points
      let total : Nat → Nat := fun k => ((ts.filter fun t => t.allocCls = k).map (·.demand)).sum
      let second := if total 1 ≤ capacity then capacity - total 1 else 0
      let third := if total 2 ≤ second then second - total 2 else 0
      let left : Nat → Nat := fun k => if k ≤ 1 then capacity else if k = 2 then second else third
      (∀ n, n < 12 →
        let d := (s.trunk n).demand
        let k := (s.trunk n).allocCls
        (allocate s).trunk n = { s.trunk n with
          allocation := if (ts.map (·.demand)).sum ≤ capacity then d
            else if total k ≤ left k then d else d * left k / total k })
      ∧ allocate s = { s with cool := { s.cool with trunks := (allocate s).cool.trunks } }
      ∧ ((∀ t ∈ ts, 1 ≤ t.allocCls ∧ t.allocCls ≤ 3) → ((allocate s).cool.trunks.toList.map (·.allocation)).sum ≤ capacity))
  ∧ (∀ (s : State), s.takesEvents = true →
      (∃ v : Vector Trunk 12, exec .dutyWindowStart s = .next (transmit { s with cool := { s.cool with dutyTimer := 0, trunks := v } })
        ∧ ∀ n : Fin 12, v[n] = { s.trunk n.val with
            dutyInForce := (s.trunk n.val).allocation, valveOpen := decide ((s.trunk n.val).allocation ≠ 0) })
      ∧ (∀ t, exec .dutyWindowStart s = .next t → ∀ n, n < 12 →
          (trunkValve t n = true ↔ (s.trunk n).allocation ≠ 0) ∧ ((t.trunk n).dutyInForce = (s.trunk n).allocation))
      ∧ (∀ n : Fin 12, ∀ t, exec (.valveDutyExpiry n) s = .next t → ∀ m, m < 12 →
          trunkValve t m = if m = n.val ∧ (s.trunk m).dutyInForce < 100 then false else trunkValve s m)
      ∧ (∀ i : Fin 4, s.pins.stageFault[i] = false → i.val < s.cool.count → ∀ t, exec (.stageFault i) s = .next t →
          stageOutput t i.val = false ∧ ∀ j, j ≠ i.val → stageOutput t j = stageOutput s j)
      ∧ (∀ n : Fin 12,
          let r := s.trunk n.val
          (r.dutyInForce < 100 → exec (.valveDutyExpiry n) s = .next (transmit (s.setTrunk n.val { r with valveOpen := false })))
          ∧ (100 ≤ r.dutyInForce → exec (.valveDutyExpiry n) s = .next (transmit s))
          ∧ (r.alarmTimer = 300 → r.alarm = false → exec (.alarmTimerExpiry n) s
              = .next (transmit (post (.trunk n.val) .trunkAlarm (s.setTrunk n.val { r with alarm := true }))))
          ∧ (r.alarmTimer ≠ 300 ∨ r.alarm = true → exec (.alarmTimerExpiry n) s = .next (transmit s))
          ∧ (r.releaseTimer ≠ 120 → exec (.releaseTimerExpiry n) s = .next (transmit s))
          ∧ (r.releaseTimer = 120 → ∃ t, exec (.releaseTimerExpiry n) s = .next (transmit t)
              ∧ (∀ m, m < 48 →
                  let l := s.line m
                  t.line m = { l with holds := { l.holds with temp := l.holds.temp && decide (l.config.trunk ≠ n.val) } })
              ∧ HoldsNotified s t ∧ NoticesOnly ((List.range 48).map .line) s t
              ∧ t.trunk n.val = { r with releaseTimer := 0 } ∧ (∀ m, m ≠ n.val → t.trunk m = s.trunk m)
              ∧ t = { s with
                  cellar := { s.cellar with lines := t.cellar.lines }, cool := { s.cool with trunks := t.cool.trunks }
                  link := { s.link with notices := t.link.notices }}))
      ∧ (∀ i : Fin 4,
          let pin : Bool → State := fun on => { s with pins := { s.pins with stageFault := s.pins.stageFault.set i.val on } }
          let configured := i.val < s.cool.count
          (s.pins.stageFault[i] = true → exec (.stageFault i) s = .next s)
          ∧ (s.pins.stageFault[i] = false → ¬ configured → exec (.stageFault i) s = .next (transmit (pin true)))
          ∧ (s.pins.stageFault[i] = false → configured → (s.stage i.val).running = false →
              exec (.stageFault i) s = .next (transmit (post .chiller .stageFault (pin true))))
          ∧ (s.pins.stageFault[i] = false → configured → (s.stage i.val).running = true →
              exec (.stageFault i) s = .next (transmit (post .chiller .stageFault
                (allocate ((pin true).setStage i.val { running := false, time := 0 })))))
          ∧ (s.pins.stageFault[i] = false → exec (.stageRestored i) s = .next s)
          ∧ (s.pins.stageFault[i] = true → exec (.stageRestored i) s
              = .next (transmit (if i.val < s.cool.count
                then post .chiller .stageRestored { pin false with
                  cool := { s.cool with startFaults := s.cool.startFaults.set i.val false } }
                else pin false)))))

/-- The expiry of the control period: ended surge entries go, every trunk's demand is computed and its warm counter reset, the allocation
is computed for the stages that run, the stage target is stored, and at most one stage switches: the lowest available one that is off,
on after 300 s off, or the highest running one off after 180 s on (R129 to R132, R134, R137). The stage outputs follow; no trunk valve
moves, because a duty changes at the next window (R135). The classes are taken
up for the allocations until the next period (R127, assumption 43). The seconds the period adds to the times in condition are the
model's choice (assumption 9), and so are the stored capacity, lowered where a stage switches off, and the stored active flags
(assumption 31). -/
def Obligations.ControlPeriod : Prop :=
  ∀ (s : State), s.takesEvents = true →
    let clock := s.store.clock
    let surges : List Surge := if s.store.unset then s.cool.surges.map fun e => { e with active := false }
      else (s.cool.surges.filter fun e => decide (clock < e.start + e.duration)).map fun e =>
        { e with active := decide (e.start - e.lead ≤ clock ∧ clock < e.start + e.duration) }
    let boost := ((surges.filter (·.active)).map (·.boost)).foldl max 0
    let needs : Nat → Bool := fun n => s.cellar.lines.toList.any fun l => decide (l.config.trunk = n ∧
      (l.state = .serving ∨ l.state = .priming ∨ l.state = .dry ∨ l.state = .draining ∨ l.state = .queued))
    let foam : Nat → Bool := fun n => s.cellar.lines.toList.any fun l => decide (l.config.trunk = n) && l.foamAlert
    let demand : Nat → Nat := fun n =>
      let t := s.trunk n
      if needs n = false then 0
      else if t.sensorFault then 100
      else min 100 ((t.reading - t.setpoint).toNat * t.kp / 10 + min 30 (5 * t.warm) + (if foam n then 10 else 0) + boost)
    let sum := ((List.range 12).map demand).sum
    let available : Nat → Bool := fun i => decide (i < s.cool.count) && !(s.pins.stageFault[i]?).getD false
    let wanted := min ((sum + s.cool.points - 1) / s.cool.points) ((List.range 4).countP available)
    let limited := if s.cool.bathFault then min wanted 2 else wanted
    let target := if s.cool.freezeHold then 0 else limited
    let running := s.cool.stages.toList.countP (·.running)
    let aged : Nat → Stage := fun i => { s.stage i with time := min 65535 ((s.stage i).time + (10 - s.cool.controlTimer)) }
    let up : Nat → Prop := fun i => running < target ∧ available i = true ∧ (s.stage i).running = false ∧ 300 ≤ (aged i).time
      ∧ ∀ j, j < i → ¬ (available j = true ∧ (s.stage j).running = false)
    let down : Nat → Prop := fun i => target < running ∧ (s.stage i).running = true ∧ 180 ≤ (aged i).time
      ∧ ∀ j, i < j → j < 4 → (s.stage j).running = false
    ∃ t, exec .controlPeriodExpiry s = .next (transmit t)
      ∧ (∀ n, n < 12 → t.trunk n = { s.trunk n with
          demand := demand n, allocCls := (s.trunk n).cls, needed := needs n, warm := 0
          allocation := allocationOf t.cool.trunks.toList t.cool.capacity (t.trunk n) })
      ∧ t.cool.capacity = min running (t.cool.stages.toList.countP (·.running)) * s.cool.points
      ∧ (∀ i, i < 4 → (up i → t.stage i = { running := true, time := 0 }) ∧ (down i → t.stage i = { running := false, time := 0 })
          ∧ (¬ up i → ¬ down i → t.stage i = aged i))
      ∧ (∀ i, i < 4 → (up i → stageOutput t i = true) ∧ (down i → stageOutput t i = false)
          ∧ (¬ up i → ¬ down i → stageOutput t i = stageOutput s i))
      ∧ (∀ n, trunkValve t n = trunkValve s n)
      ∧ t = { s with cool := { s.cool with
          surges := surges, trunks := t.cool.trunks, stages := t.cool.stages, capacity := t.cool.capacity, target := target
          controlTimer := 0 } }

/-- A sample of the return sensors and the bath. A reading in range is taken and clears the fault, any other sets it; the alarm and
release timers count, an ALARM ends at its threshold less 10; the bath sample sets or clears its fault, and trips the freeze guard,
which stops every stage and all allocations, or clears its hold (R128, R139 to R142). A fault input that was active at the start is reported
at the first sample, and none after it (R138, R145). A trunk posts SENSOR FAULT, SENSOR RESTORED and ALARM CLEAR, and the chiller BATH FAULT
and BATH RESTORED, at the changes that name them; a trunk without such a change, and every other subject, keeps its pending notices (R128,
R140, R141). That a sample that restores the sensor and clears the alarm leaves ALARM CLEAR as the cause is the model's deduction
(assumption 18). That a sample counts one second of the timers is the model's choice (assumption 9),
and so are that the alarm timer counts on a trunk in ALARM too (assumption 41) and that the first sample carries that report, posted
before what the samples post, so that a cause of the bath replaces it (assumption 23); BATH RESTORED comes before FREEZE and FREEZE
CLEAR (assumption 61). -/
def Obligations.SensorSample : Prop :=
  ∀ (returns : Vector (Option Int) 12) (bath : Option Int) (s : State), s.takesEvents = true →
    let valid : Int → Int → Option Int → Option Int := fun lo hi x => x.bind fun v => if lo ≤ v ∧ v ≤ hi then some v else none
    let b := valid (-200) 200 bath
    let trips := s.cool.freezeHold = false ∧ ∃ v, b = some v ∧ v ≤ -60
    let thaws := s.cool.freezeHold = true ∧ ∃ v, b = some v ∧ -40 ≤ v
    ∃ t, exec (.sensorSample returns bath) s = .next (transmit t)
      ∧ (∀ n : Fin 12,
          let r := s.trunk n.val
          let u := t.trunk n.val
          (valid (-100) 400 returns[n] = none →
            u = { r with sensorFault := true, alarmTimer := 0, releaseTimer := 0, allocation := u.allocation }
            ∧ (r.sensorFault = false → { key := .trunk n.val, cause := .trunkSensorFault } ∈ t.link.notices)
            ∧ (r.sensorFault = true → ∀ x : Notice, x.key = .trunk n.val → (x ∈ t.link.notices ↔ x ∈ s.link.notices)))
          ∧ (∀ v, valid (-100) 400 returns[n] = some v →
            u = { r with
              reading := v, sensorFault := false, alarm := r.alarm && decide (r.alarmThreshold - 10 < v)
              alarmTimer := if r.alarmThreshold < v then min 300 (r.alarmTimer + 1) else 0
              releaseTimer := if v ≤ r.setpoint then min 120 (r.releaseTimer + 1) else 0
              allocation := u.allocation }
            ∧ (let clears := r.alarm = true ∧ v ≤ r.alarmThreshold - 10
               (clears → { key := .trunk n.val, cause := .trunkAlarmClear } ∈ t.link.notices)
               ∧ (¬ clears → r.sensorFault = true → { key := .trunk n.val, cause := .trunkSensorRestored } ∈ t.link.notices)
               ∧ (¬ clears → r.sensorFault = false →
                    ∀ x : Notice, x.key = .trunk n.val → (x ∈ t.link.notices ↔ x ∈ s.link.notices))))
          ∧ (trips → u.allocation = 0) ∧ (¬ trips → u.allocation = r.allocation))
      ∧ (∀ i, i < 4 →
          let waited := if s.cool.controlTimer < 10 then min 65535 ((s.stage i).time + 1) else (s.stage i).time
          (trips → (s.stage i).running = true → t.stage i = { running := false, time := 0 })
          ∧ (trips → stageOutput t i = false)
          ∧ (¬ (trips ∧ (s.stage i).running = true) → t.stage i = { s.stage i with time := waited }))
      ∧ (b = none → t.cool.bath = s.cool.bath ∧ t.cool.bathFault = true ∧ t.cool.freezeHold = s.cool.freezeHold
          ∧ (s.cool.bathFault = false → { key := .chiller, cause := .bathFault } ∈ t.link.notices))
      ∧ (∀ v, b = some v → t.cool.bath = v ∧ t.cool.bathFault = false
          ∧ (trips → t.cool.freezeHold = true ∧ { key := .chiller, cause := .freeze } ∈ t.link.notices)
          ∧ (thaws → t.cool.freezeHold = false ∧ { key := .chiller, cause := .freezeClear } ∈ t.link.notices)
          ∧ (¬ trips → ¬ thaws → t.cool.freezeHold = s.cool.freezeHold
              ∧ (s.cool.bathFault = true → { key := .chiller, cause := .bathRestored } ∈ t.link.notices)))
      ∧ NoticesOnly (.chiller :: (List.range 12).map .trunk) s t
      ∧ t.cool.count = s.cool.count ∧ t.cool.points = s.cool.points ∧ t.cool.target = s.cool.target
      ∧ t.cool.surges = s.cool.surges ∧ t.cool.capacity = s.cool.capacity
      ∧ (∀ i : Fin 4, t.cool.startFaults[i] = false)
      ∧ ((b.isSome = true ↔ s.cool.bathFault = false) → ¬ trips → ¬ thaws →
          ((∃ i : Fin 4, s.cool.startFaults[i] = true) → { key := .chiller, cause := .stageFault } ∈ t.link.notices)
          ∧ ((∀ i : Fin 4, s.cool.startFaults[i] = false) → ∀ n, n.key = .chiller →
              (n ∈ t.link.notices ↔ n ∈ s.link.notices)))
      ∧ t = { s with cool := t.cool, link := { s.link with notices := t.link.notices } }

/-! ### Line cleaning -/

/-- PROGRAM LOAD checks the number, the steps, the verifying of every FILL and the use of the slot, in this order, and writes the slot
whole; PROGRAM READ returns a slot and changes nothing (R149, R150). The limit a step other than VERIFY carries is dropped by the
model's choice (assumption 16). -/
def Obligations.ProgramTable : Prop :=
  ∀ (tag : Byte) (p threshold : Nat) (es : List StepEntry) (s : State), Ready s →
    let valid : StepEntry → Prop := fun e =>
      (e.kind ≤ 2 ∧ 1000 ≤ e.amount ∧ e.amount ≤ 1000000)
      ∨ ((e.kind = 3 ∨ e.kind = 4) ∧ 1 ≤ e.amount ∧ e.amount ≤ 3600)
      ∨ (e.kind = 5 ∧ e.amount = 0 ∧ e.limit = 0)
      ∨ (e.kind = 6 ∧ 1000 ≤ e.amount ∧ e.amount ≤ 200000 ∧ 1000 ≤ e.limit ∧ e.limit ≤ 2000000 ∧ e.amount < e.limit)
    let verified := ∀ (i : Nat) (e : StepEntry), es[i]? = some e → e.kind = 2 →
      ∃ (j : Nat) (f : StepEntry), i < j ∧ es[j]? = some f ∧ f.kind = 6
    let good := es ≠ [] ∧ es.length ≤ 16 ∧ 10 ≤ threshold ∧ threshold ≤ 5000 ∧ (∀ e ∈ es, valid e) ∧ verified
    let kinds : List StepKind := [.purge, .rinse, .fill, .soak, .circulate, .pause, .verify]
    let stored : Program :=
      { threshold := threshold
        steps := es.map fun e => { kind := (kinds[e.kind]?).getD .pause, amount := e.amount,
                                   limit := if e.kind = 6 then e.limit else 0, notify := e.notify } }
    let used := (∃ c, (s.circuit c).state ≠ .idle ∧ (s.circuit c).program = some p) ∨ ∃ e ∈ s.clean.queue, e.program = p
    let c : Instr := .programLoad tag p threshold es
    (7 < p → exec c s = .next (refused .programLoad tag .range (hunting s))
      ∧ exec (.programRead tag p) s = .next (refused .programRead tag .range (hunting s)))
    ∧ (p ≤ 7 → ¬ good → exec c s = .next (refused .programLoad tag .invalidProgram (hunting s)))
    ∧ (p ≤ 7 → good → used → exec c s = .next (refused .programLoad tag .state (hunting s)))
    ∧ (p ≤ 7 → good → ¬ used → exec c s = .next (replied .programLoad tag .ok (.program (some stored))
        { hunting s with clean := { s.clean with programs := s.clean.programs.setIfInBounds p (some stored) } }))
    ∧ (p ≤ 7 → exec (.programRead tag p) s
        = .next (replied .programRead tag .ok (.program ((s.clean.programs[p]?).getD none)) (hunting s)))

/-- CLEAN REQUEST checks the numbers, the line, its entry, the program and whether it can clear, in this order. An accepted one joins the
tail of the queue and makes the line DRAINING with its pre-drain state; where no pour is in flight and every routed tap is locked the
line is QUEUED, its entry ready, and the first IDLE circuit takes a batch; the reply names the entry's place or the circuit that took
it. CLEAN WITHDRAW takes the entry out and returns the line (R5 to R7, R151, R152, R154, R156). The queue place counted from 1, the line
state as it stands where the batch that took the line ended at once, and the line state in the reply of CLEAN WITHDRAW are the model's
choices (assumption 14), and so is that the line CLEAN WITHDRAW returns keeps its pre-drain state (assumption 29). -/
def Obligations.CleanQueueRequests : Prop :=
  ∀ (tag : Byte) (n p : Nat) (s : State), Ready s →
    let l := s.line n
    let entered := ∃ e ∈ s.clean.queue, e.line = n
    let c : Instr := .cleanRequest tag n p
    let place := some (s.clean.queue.length + 1)
    let drained := l.inFlight = 0 ∧ ∀ i, i < 128 → (s.tap i).route.line = some n → (s.tap i).lockout = true
    let joined : ServiceState → Bool → State := fun st ready =>
      let u : State := { hunting s with clean := { s.clean with
        queue := s.clean.queue ++ [{ line := n, program := p, ready := ready }] } }
      post (.line n) .lineState (u.setLine n { l with state := st, preDrain := some l.state })
    let taken : Circuit → Prop := fun x =>
      let u := serve x (joined .queued true)
      exec c s = .next (replied .cleanRequest tag .ok
        (.cleanPlace (u.line n).state ((u.clean.queue.findIdx? fun e => e.line = n).map (· + 1))
          (if ∃ e ∈ u.clean.queue, e.line = n then none else some x)) u)
    (47 < n ∨ 7 < p → exec c s = .next (refused .cleanRequest tag .range (hunting s)))
    ∧ (n ≤ 47 → p ≤ 7 → l.state = .offline → exec c s = .next (refused .cleanRequest tag .state (hunting s)))
    ∧ (n ≤ 47 → p ≤ 7 → l.state ≠ .offline → entered ∨ l.state = .cleaning →
        exec c s = .next (refused .cleanRequest tag .duplicate (hunting s)))
    ∧ (n ≤ 47 → p ≤ 7 → isPreDrain l.state → ¬ entered → s.programSlot p = none →
        exec c s = .next (refused .cleanRequest tag .notFound (hunting s)))
    ∧ (∀ g, n ≤ 47 → p ≤ 7 → isPreDrain l.state → ¬ entered → s.programSlot p = some g →
        (l.mark = true → (∀ st ∈ g.steps, st.kind ≠ .verify) →
          exec c s = .next (refused .cleanRequest tag .programCannotClear (hunting s)))
        ∧ (l.mark = false ∨ (∃ st ∈ g.steps, st.kind = .verify) →
          (¬ drained → exec c s
            = .next (replied .cleanRequest tag .ok (.cleanPlace .draining place none) (joined .draining false)))
          ∧ (drained → (s.circuit .a).state ≠ .idle → (s.circuit .b).state ≠ .idle → exec c s
            = .next (replied .cleanRequest tag .ok (.cleanPlace .queued place none) (joined .queued true)))
          ∧ (drained → (s.circuit .a).state = .idle → taken .a)
          ∧ (drained → (s.circuit .a).state ≠ .idle → (s.circuit .b).state = .idle → taken .b)))
    ∧ (47 < n → exec (.cleanWithdraw tag n) s = .next (refused .cleanWithdraw tag .range (hunting s)))
    ∧ (n ≤ 47 → ¬ entered → exec (.cleanWithdraw tag n) s = .next (refused .cleanWithdraw tag .state (hunting s)))
    ∧ (∀ st, n ≤ 47 → entered → l.state = .draining ∨ l.state = .queued → l.preDrain = some st → isPreDrain st →
        let back : ServiceState := if st = .serving ∨ st = .dry then (if l.chain = [] then .dry else .serving) else st
        let u : State := { hunting s with clean := { s.clean with queue := s.clean.queue.filter fun e => e.line ≠ n } }
        exec (.cleanWithdraw tag n) s = .next (replied .cleanWithdraw tag .ok (.lineState back)
          (post (.line n) .lineState (u.setLine n { l with state := back }))))

/-- The requests to a circuit. CLEAN STOP makes a RUNNING circuit STOPPING; CLEAN CONTINUE resumes a PAUSED one, completing its PAUSE step
or beginning the step after the one it stopped behind; CLEAN ABORT ends the batch of one that is not IDLE; each is refused with STATE
in any other state, and with RANGE for a circuit other than A or B. CIRCUIT GET returns the record and changes nothing (R157, R164 to
R166). The circuit state in the reply of CLEAN CONTINUE is the model's choice (assumption 14). -/
def Obligations.CircuitRequests : Prop :=
  ∀ (tag : Byte) (code : Nat) (s : State), Ready s →
    let stop : Instr := .cleanStop tag code
    let cont : Instr := .cleanContinue tag code
    let c : Circuit := if code = 0 then .a else .b
    let r := s.circuit c
    let h := hunting s
    (1 < code → exec stop s = .next (refused .cleanStop tag .range h) ∧ exec cont s = .next (refused .cleanContinue tag .range h)
      ∧ exec (.cleanAbort tag code) s = .next (refused .cleanAbort tag .range h)
      ∧ exec (.circuitGet tag code) s = .next (refused .circuitGet tag .range h))
    ∧ (code ≤ 1 →
      (r.state = .running → exec stop s
        = .next (replied .cleanStop tag .ok (.circuitState .stopping) (h.setCircuit c { r with state := .stopping })))
      ∧ (r.state ≠ .running → exec stop s = .next (refused .cleanStop tag .state h))
      ∧ (r.state ≠ .paused → exec cont s = .next (refused .cleanContinue tag .state h))
      ∧ (r.state = .paused → r.pauseCause = some .stop →
          let t := startStep c (h.setCircuit c { r with
            state := .running, pauseCause := none, stepIndex := r.stepIndex.map (· + 1) })
          exec cont s = .next (replied .cleanContinue tag .ok (.circuitState (t.circuit c).state) t))
      ∧ (∀ st, r.state = .paused → r.pauseCause = some .pauseStep → currentStep s c = some st →
          let t := completeStep c st (h.setCircuit c { r with state := .running, pauseCause := none })
          exec cont s = .next (replied .cleanContinue tag .ok (.circuitState (t.circuit c).state) t))
      ∧ (r.state = .idle → exec (.cleanAbort tag code) s = .next (refused .cleanAbort tag .state h))
      ∧ (r.state ≠ .idle → exec (.cleanAbort tag code) s
          = .next (replied .cleanAbort tag .ok .none (finishBatch c .aborted h)))
      ∧ exec (.circuitGet tag code) s = .next (replied .circuitGet tag .ok (.circuit
          { record := r, waterLow := s.pins.waterLow.sel c, solutionLow := s.pins.solutionLow.sel c
            step := if r.state = .idle then none else currentStep s c }) h))

/-- The taking and the end of a batch. An IDLE circuit takes the oldest ready entry and up to 3 further ready ones of its program; they
leave the queue, their lines are CLEANING, and the circuit RUNS from step 1 with volumes of 0. At the end a CLEAN record is taken for
each line, in batch order; the lines become RINSED or FOUL by their marks, after COMPLETED with the clean recorded, the taps withheld
from them take their routes, and the circuit is IDLE with the end as its last; then it takes again (R8, R41, R155, R156, R169). A line
posts LINE with cause STATE as it enters and as it leaves CLEANING, and with cause HOLD where a completed clean takes OVERDUE away (R12,
R26), after STATE, the order of R8's text (assumption 18); beside the circuit's notice and JOURNAL no other changes.
The evaluation of a line's drain condition makes a drained DRAINING line QUEUED and its entry ready, and a QUEUED line whose condition
fails DRAINING (R6, R151). A lockout released on a line in the batch of a circuit that is not IDLE ends that batch with the fault
LOCKOUT, and on any other line none; on a tap routed to a CLEANING line nothing else comes of it (R33, R168). -/
def Obligations.Batches : Prop :=
  ∀ (c : Circuit) (s : State),
    let r := s.circuit c
    (r.state ≠ .idle ∨ (∀ e ∈ s.clean.queue, e.ready = false) → serve c s = s)
    ∧ (∀ e, r.state = .idle → QueueLaw s → s.clean.queue.find? (·.ready) = some e →
        let batch := (((s.clean.queue.filter fun x => x.ready && x.program = e.program).take 4).map (·.line))
        ∃ u, takeBatch c s = some u
          ∧ u.clean.queue = s.clean.queue.filter (fun x => !batch.contains x.line)
          ∧ (∀ n, n < 48 → u.line n = if n ∈ batch then { s.line n with state := .cleaning } else s.line n)
          ∧ u.circuit c = { r with state := .running, batch := batch, program := some e.program, stepIndex := some 1, water := 0,
                                   solution := 0, stepsDone := 0 }
          ∧ (∀ d, d ≠ c → u.circuit d = s.circuit d) ∧ u.clean.programs = s.clean.programs
          ∧ { key := .circuit c, cause := .circuitStarted } ∈ u.link.notices
          ∧ (∀ n ∈ batch, { key := .line n, cause := .lineState } ∈ u.link.notices)
          ∧ NoticesOnly (.circuit c :: batch.map .line) s u
          ∧ u = { s with
              clean := u.clean, cellar := { s.cellar with lines := u.cellar.lines }
              link := { s.link with notices := u.link.notices }}
          ∧ ((beginStep c u).2 = none → serve c s = (beginStep c u).1)
          ∧ (∀ f, (beginStep c u).2 = some f → serve c s = finishBatch c (.fault f) (beginStep c u).1))
    ∧ (∀ ending, r.batch.Nodup → (∀ n ∈ r.batch, n < 48 ∧ (s.line n).state = .cleaning) →
        let t := endBatch c ending s
        let done := ending = .completed
        let p := r.program.getD 0
        let steps := match s.programSlot p with
          | some g => g.steps.length
          | none => 0
        t.acct = (r.batch.foldl (fun u n =>
            takeRecord (.clean n c p r.stepsDone steps ending (s.line n).mark r.water r.solution) u) s).acct
        ∧ (∀ n ∈ r.batch,
            let l := s.line n
            t.line n = { l with
              state := if l.mark then .foul else .rinsed
              lastClean := if done then (if s.store.unset then none else some s.store.clock) else l.lastClean
              volumeSinceClean := if done then 0 else l.volumeSinceClean
              softAgeNoted := l.softAgeNoted && !decide done, softVolumeNoted := l.softVolumeNoted && !decide done
              holds := { l.holds with overdue := l.holds.overdue && !decide done } })
        ∧ (∀ n, n ∉ r.batch → t.line n = s.line n)
        ∧ (∀ i, i < 128 →
            let entry := mapEntry (if s.pour.active = .a then s.pour.mapA else s.pour.mapB) i
            let freed := (s.tap i).withheld = true ∧ ∃ n ∈ r.batch, entry.line = some n
            (freed → t.tap i = { s.tap i with route := entry, withheld := false }) ∧ (¬ freed → t.tap i = s.tap i))
        ∧ t.circuit c = { r with state := .idle, batch := [], program := none, pauseCause := none, lastEnd := some ending }
        ∧ { key := .circuit c, cause := endCauseOf ending } ∈ t.link.notices
        ∧ (∀ n ∈ r.batch, { key := .line n, cause := if done ∧ (s.line n).holds.overdue = true then .lineHold else .lineState }
            ∈ t.link.notices)
        ∧ NoticesOnly (.circuit c :: .journal :: r.batch.map .line) s t
        ∧ t = { s with
            acct := t.acct, clean := { s.clean with circuits := s.clean.circuits.put c (t.circuit c) }
            cellar := { s.cellar with lines := t.cellar.lines }, pour := { s.pour with taps := t.pour.taps }
            link := { s.link with notices := t.link.notices }}
        ∧ finishBatch c ending s = serve c t)
    ∧ (∀ n, DrainEvaluated n s (evalDrain n s))
    ∧ (∀ n,
        let held : Circuit → Prop := fun x => (s.circuit x).state ≠ .idle ∧ n ∈ (s.circuit x).batch
        (held .a → lockoutFault n s = finishBatch .a (.fault .lockout) s)
        ∧ (¬ held .a → held .b → lockoutFault n s = finishBatch .b (.fault .lockout) s)
        ∧ (¬ held .a → ¬ held .b → lockoutFault n s = s))
    ∧ (∀ i n, i < 128 → (s.tap i).route.line = some n → (s.tap i).lockout = true →
        let u : State := s.setTap i { s.tap i with lockout := false }
        (∃ v, DrainEvaluated n u v ∧ reportLockout i false s = lockoutFault n v)
        ∧ ((s.line n).state = .cleaning → r.state ≠ .idle → n ∈ r.batch → (∀ d, d ≠ c → n ∉ (s.circuit d).batch) →
            reportLockout i false s = finishBatch c (.fault .lockout) u))

/-- A step's beginning and completion. The target is the amount times the batch's size, or the seconds; a FILL needs every routed tap
locked, and then solution, a PURGE, RINSE or VERIFY needs water; a FILL marks the batch's lines; a PAUSE pauses the circuit. At
completion a PURGE takes a record for each line with the circuit, the program and the line's fill volume, a record that the journal does
not admit adding 1 to the circuit's unstored-purge count, a notify flag posts STEP, and the last step ends the batch COMPLETED, a
STOPPING circuit pauses, any other goes on to the next step (R95, R99, R148, R157, R158, R162). That the one target of a VERIFY is its
settle target, and that of a PAUSE 0, is the model's choice (assumption 56). -/
def Obligations.Steps : Prop :=
  ∀ (c : Circuit) (s : State) (st : Step),
    let r := s.circuit c
    let timed := st.kind = .soak ∨ st.kind = .circulate
    let water := st.kind = .purge ∨ st.kind = .rinse ∨ st.kind = .verify
    let set : State := s.setCircuit c { r with
      target := if st.kind = .pause then 0 else if timed then st.amount else st.amount * r.batch.length
      progress := 0, pulses := 0, settle := 0, settling := false, flowTimer := 0 }
    let loose := ∃ n ∈ r.batch, ∃ i, i < 128 ∧ (s.tap i).route.line = some n ∧ (s.tap i).lockout = false
    let marked : State := r.batch.foldl (fun u n => u.setLine n { u.line n with mark := true }) set
    (currentStep s c = some st →
      (st.kind = .fill → loose → startStep c s = finishBatch c (.fault .lockout) set)
      ∧ (st.kind = .fill → ¬ loose → s.pins.solutionLow.sel c = true → startStep c s = finishBatch c (.fault .supply) set)
      ∧ (st.kind = .fill → ¬ loose → s.pins.solutionLow.sel c = false → startStep c s = marked)
      ∧ (water → s.pins.waterLow.sel c = true → startStep c s = finishBatch c (.fault .supply) set)
      ∧ (water → s.pins.waterLow.sel c = false → startStep c s = set)
      ∧ (timed → startStep c s = set)
      ∧ (st.kind = .pause → startStep c s = post (.circuit c) .circuitPaused
          (set.setCircuit c { set.circuit c with state := .paused, pauseCause := some .pauseStep })))
    ∧ (∀ p g i, r.program = some p → s.programSlot p = some g → r.stepIndex = some i →
        let counted : State := s.setCircuit c { r with stepsDone := r.stepsDone + 1 }
        let purge : State → Nat → State := fun u n =>
          let room := u.acct.journal.length < 4096 ∧ u.acct.nextSeq ≤ 4294967295 ∧ u.acct.pourPurge < 4032
          let v := takeRecord (.purge n c p (u.line n).config.fillVolume) u
          if room then v
          else v.setCircuit c { v.circuit c with unstoredPurge := min 4294967295 ((v.circuit c).unstoredPurge + 1) }
        let purged : State := if st.kind = .purge then r.batch.foldl purge counted else counted
        let u : State := if st.notify then post (.circuit c) .circuitStep purged else purged
        (g.steps.length ≤ i → completeStep c st s = finishBatch c .completed u)
        ∧ (i < g.steps.length → r.state = .stopping → completeStep c st s = post (.circuit c) .circuitPaused
            (u.setCircuit c { u.circuit c with state := .paused, pauseCause := some .stop }))
        ∧ (i < g.steps.length → r.state ≠ .stopping →
            completeStep c st s = startStep c (u.setCircuit c { u.circuit c with stepIndex := some (i + 1) })))

/-- The outputs of a circuit: all off and shut while IDLE; pump and supplies off and the return valve to recirculate while PAUSED; as the
kind of the step it runs calls for while RUNNING or STOPPING; and the clean valves of its batch's lines open until the batch ends, no
line with one open to both circuits (R147).
The events of a circuit. A counted pulse adds its increase of volume to the step, to the settle count of a settling VERIFY and to the
water or the solution, and completes a PURGE, RINSE or FILL at its target; VERIFY passes at its settle target, which clears the marks,
and fails past its limit. A reading out of range or none is SENSOR; a supply that runs low under a step that draws it is SUPPLY; 10 s
without a pulse is FLOW; a timed step ends at its time. A circuit that runs no step heeds none of these (R147, R159 to R161, R167).
The model's choices: a reading counts a second and the expiries decide (assumption 9), the target of a VERIFY is its settle target
(assumption 56), a reading out of range is kept (assumption 26), and SUPPLY_LOW carries the level that follows (assumption 24). -/
def Obligations.CircuitEvents : Prop :=
  ∀ (c : Circuit) (s : State), s.takesEvents = true →
    let r := s.circuit c
    let runs := r.state = .running ∨ r.state = .stopping
    let fails : FaultKind → State → State := fun f u => finishBatch c (.fault f) u
    let o := circuitOutputs s c
    ((r.state = .idle ∨ r.state = .paused → o.pump = false ∧ o.water = false ∧ o.solution = false)
      ∧ (r.state = .idle → o.recirculate = false) ∧ (r.state = .paused → o.recirculate = true)
      ∧ (∀ st, runs → currentStep s c = some st → st.kind ≠ .pause →
          o.pump = decide (st.kind ≠ .soak)
          ∧ o.water = decide (st.kind = .purge ∨ st.kind = .rinse ∨ st.kind = .verify)
          ∧ o.solution = decide (st.kind = .fill)
          ∧ o.recirculate = decide (st.kind = .circulate ∨ st.kind = .soak))
      ∧ (∀ n : Fin 48, o.cleanValves[n] = true ↔ r.state ≠ .idle ∧ n.val ∈ r.batch)
      ∧ (BatchLaw s → ∀ n : Fin 48, (circuitOutputs s .a).cleanValves[n] = false ∨ (circuitOutputs s .b).cleanValves[n] = false))
    ∧ (¬ runs → exec (.circuitMeterPulse c) s = .next (transmit s) ∧ (∀ x, exec (.conductivityReading c x) s = .next (transmit s))
      ∧ exec (.flowTimerExpiry c) s = .next (transmit s) ∧ exec (.timedStepExpiry c) s = .next (transmit s))
    ∧ (∀ st, runs → currentStep s c = some st →
        let v := ((r.pulses + 1 + r.offset) * r.gain + 500) / 1000
        let d := v - r.progress
        let settle := if st.kind = .verify ∧ r.settling = true then r.settle + d else r.settle
        let u : State := s.setCircuit c { r with
          pulses := r.pulses + 1, progress := v, flowTimer := 0, settle := settle
          water := if st.kind = .fill then r.water else r.water + d
          solution := if st.kind = .fill then r.solution + d else r.solution }
        let pulse := exec (.circuitMeterPulse c) s
        let draws := st.kind = .purge ∨ st.kind = .rinse ∨ st.kind = .fill
        let second : State := s.setCircuit c { r with
          flowTimer := if st.kind = .soak ∨ st.kind = .pause then r.flowTimer else min 10 (r.flowTimer + 1)
          progress := if st.kind = .soak ∨ st.kind = .circulate then min r.target (r.progress + 1) else r.progress }
        (st.kind = .soak ∨ st.kind = .pause → pulse = .next (transmit s))
        ∧ (st.kind = .circulate → pulse = .next (transmit (s.setCircuit c { r with flowTimer := 0 })))
        ∧ (draws → r.target ≤ v → pulse = .next (transmit (completeStep c st u)))
        ∧ (draws → v < r.target → pulse = .next (transmit u))
        ∧ (st.kind = .verify → r.target ≤ settle → pulse = .next (transmit (completeStep c st
            (r.batch.foldl (fun x n => x.setLine n { x.line n with mark := false }) u))))
        ∧ (st.kind = .verify → settle < r.target → st.limit * r.batch.length < v → pulse = .next (transmit (fails .rinse u)))
        ∧ (st.kind = .verify → settle < r.target → v ≤ st.limit * r.batch.length → pulse = .next (transmit u))
        ∧ exec (.conductivityReading c none) s = .next (transmit (fails .sensor s))
        ∧ (∀ x, x < 0 ∨ 20000 < x → exec (.conductivityReading c (some x)) s
            = .next (transmit (fails .sensor (s.setCircuit c { r with conductivity := x }))))
        ∧ (∀ x, 0 ≤ x → x ≤ 20000 →
            let high := (rinseThreshold s c : Int) ≤ x
            let w : CircuitRec := { second.circuit c with conductivity := x }
            exec (.conductivityReading c (some x)) s = .next (transmit (s.setCircuit c (if st.kind ≠ .verify then w
              else if high then { w with settle := 0, settling := false } else { w with settling := true }))))
        ∧ (st.kind ≠ .soak ∧ st.kind ≠ .pause → exec (.flowTimerExpiry c) s
            = .next (transmit (fails .flow (s.setCircuit c { r with flowTimer := 10 }))))
        ∧ (st.kind = .soak ∨ st.kind = .pause → exec (.flowTimerExpiry c) s = .next (transmit s))
        ∧ (st.kind = .soak ∨ st.kind = .circulate → exec (.timedStepExpiry c) s
            = .next (transmit (completeStep c st (s.setCircuit c { r with progress := r.target }))))
        ∧ (st.kind ≠ .soak → st.kind ≠ .circulate → exec (.timedStepExpiry c) s = .next (transmit s)))
    ∧ (∀ level,
        let water : State := { s with pins := { s.pins with waterLow := s.pins.waterLow.put c level } }
        let solution : State := { s with pins := { s.pins with solutionLow := s.pins.solutionLow.put c level } }
        let drawn : StepKind → Prop := fun k => runs ∧ ∃ st, currentStep s c = some st ∧ st.kind = k
        let drawsWater := drawn .purge ∨ drawn .rinse ∨ drawn .verify
        (level = true → drawsWater → exec (.supplyLow c .water level) s = .next (transmit (fails .supply water)))
        ∧ (level = false ∨ ¬ drawsWater → exec (.supplyLow c .water level) s = .next (transmit water))
        ∧ (level = true → drawn .fill → exec (.supplyLow c .solution level) s = .next (transmit (fails .supply solution)))
        ∧ (level = false ∨ ¬ drawn .fill → exec (.supplyLow c .solution level) s = .next (transmit solution)))

/-! ### Numbers that name nothing, and the laws every step keeps -/

/-- A request that names a line above 47, a tap above 127 or a size set above 3 is refused with RANGE by the rule that owns it (R3, R9,
R10, R12, R19, R21, R42, R45, R175). -/
def Obligations.OutOfRange : Prop :=
  ∀ (tag : Byte) (n : Nat) (s : State), Ready s →
    let bad : RequestKind → Instr → Prop := fun k c => exec c s = .next (refused k tag .range (hunting s))
    (47 < n →
      bad .lineGet (.lineGet tag n) ∧ bad .lineClear (.lineClear tag n) ∧ bad .returnToService (.returnToService tag n)
      ∧ (∀ stop, bad .lineHold (.lineHoldApply tag n stop)) ∧ (∀ causes, bad .lineHold (.lineHoldRelease tag n causes))
      ∧ (∀ id, bad .kegRemove (.kegRemove tag n id)) ∧ bad .kegSwitch (.kegSwitch tag n) ∧ bad .kegList (.kegList tag n))
    ∧ (127 < n → bad .routeCheck (.routeCheck tag n))
    ∧ (3 < n → bad .sizeSet (.sizeSetRead tag n))

/-- Every step keeps the law of the journal: numbers without gaps, and the counts within their bounds (R91 to R93, R97). -/
def Obligations.StepKeepsJournal : Prop := ∀ (s t : State), JournalLaw s → step s = .next t → JournalLaw t

/-- Every step keeps at most one pending notice for any kind and subject, and the pace in 1–50 (R179, R181). -/
def Obligations.StepKeepsNotices : Prop := ∀ (s t : State), NoticeLaw s → step s = .next t → NoticeLaw t

/-- Every step keeps the law of chains: no keg id twice in the part, no chain above 6 kegs (R18). -/
def Obligations.StepKeepsChains : Prop := ∀ (s t : State), ChainLaw s → step s = .next t → ChainLaw t

/-- Every step keeps each line's in-flight count equal to the number of taps whose pour in flight names the line (R17). -/
def Obligations.StepKeepsInFlight : Prop := ∀ (s t : State), InFlightLaw s → step s = .next t → InFlightLaw t

/-- Every step keeps every tap's next token, learned overrun and granted budget in their ranges (R49, R54, R65). -/
def Obligations.StepKeepsMetering : Prop := ∀ (s t : State), MeteringLaw s → step s = .next t → MeteringLaw t

/-- Every step keeps the law of conservation of tap volume, as long as no volume of a tap reaches its maximum (R104, R107). -/
def Obligations.StepKeepsConservation : Prop :=
  ∀ (s t : State), ConservationLaw s → step s = .next t → Unsaturated t → ConservationLaw t

/-- Every step keeps the law of allocation: the allocations never exceed what the running stages give, and every duty lies in 0–100 %
(R134). -/
def Obligations.StepKeepsAllocation : Prop := ∀ (s t : State), AllocationLaw s → step s = .next t → AllocationLaw t

/-- Every step keeps the law of staging: a running stage is configured and available, and none runs in a stopped part (R137, R187). -/
def Obligations.StepKeepsStaging : Prop := ∀ (s t : State), StagingLaw s → step s = .next t → StagingLaw t

/-- Every step keeps the laws of cleaning together: the mark by the service state, the queue by DRAINING and QUEUED, the batches by
CLEANING, every tap routed to a QUEUED or CLEANING line locked, and no entry ready while a circuit is IDLE (R6, R11, R151, R156,
R168). -/
def Obligations.StepKeepsCleaning : Prop :=
  ∀ (s t : State), CleaningLaws s → LockLaw s → TakingLaw s → step s = .next t → CleaningLaws t ∧ LockLaw t ∧ TakingLaw t
end

