-- ==== Sys2Proof/Laws/State.lean ====
section
/-! SUPPORT. One lemma for each field of the state and each named update: what the update leaves of the field. Then reading a
record after one has been replaced, and the accessors that depend on one block alone. -/

namespace Sys2Proof.Machine

open Sys2Proof

/-! ### Blocks after an update -/

/-! `State.setLine` -/

@[simp] theorem State.setLine_pour (s : State) (n : Nat) (l : Line) : (s.setLine n l).pour = s.pour := rfl
@[simp] theorem State.setLine_bus (s : State) (n : Nat) (l : Line) : (s.setLine n l).bus = s.bus := rfl
@[simp] theorem State.setLine_acct (s : State) (n : Nat) (l : Line) : (s.setLine n l).acct = s.acct := rfl
@[simp] theorem State.setLine_cool (s : State) (n : Nat) (l : Line) : (s.setLine n l).cool = s.cool := rfl
@[simp] theorem State.setLine_clean (s : State) (n : Nat) (l : Line) : (s.setLine n l).clean = s.clean := rfl
@[simp] theorem State.setLine_link (s : State) (n : Nat) (l : Line) : (s.setLine n l).link = s.link := rfl
@[simp] theorem State.setLine_store (s : State) (n : Nat) (l : Line) : (s.setLine n l).store = s.store := rfl
@[simp] theorem State.setLine_pins (s : State) (n : Nat) (l : Line) : (s.setLine n l).pins = s.pins := rfl
@[simp] theorem State.setLine_pending (s : State) (n : Nat) (l : Line) : (s.setLine n l).pending = s.pending := rfl
@[simp] theorem State.setLine_cellar_products (s : State) (n : Nat) (l : Line) : (s.setLine n l).cellar.products = s.cellar.products := rfl
@[simp] theorem State.setLine_cellar_detectorArmed (s : State) (n : Nat) (l : Line) : (s.setLine n l).cellar.detectorArmed = s.cellar.detectorArmed := rfl

/-! `State.setTap` -/

@[simp] theorem State.setTap_cellar (s : State) (t : Nat) (r : Tap) : (s.setTap t r).cellar = s.cellar := rfl
@[simp] theorem State.setTap_bus (s : State) (t : Nat) (r : Tap) : (s.setTap t r).bus = s.bus := rfl
@[simp] theorem State.setTap_acct (s : State) (t : Nat) (r : Tap) : (s.setTap t r).acct = s.acct := rfl
@[simp] theorem State.setTap_cool (s : State) (t : Nat) (r : Tap) : (s.setTap t r).cool = s.cool := rfl
@[simp] theorem State.setTap_clean (s : State) (t : Nat) (r : Tap) : (s.setTap t r).clean = s.clean := rfl
@[simp] theorem State.setTap_link (s : State) (t : Nat) (r : Tap) : (s.setTap t r).link = s.link := rfl
@[simp] theorem State.setTap_store (s : State) (t : Nat) (r : Tap) : (s.setTap t r).store = s.store := rfl
@[simp] theorem State.setTap_pins (s : State) (t : Nat) (r : Tap) : (s.setTap t r).pins = s.pins := rfl
@[simp] theorem State.setTap_pending (s : State) (t : Nat) (r : Tap) : (s.setTap t r).pending = s.pending := rfl
@[simp] theorem State.setTap_pour_mapA (s : State) (t : Nat) (r : Tap) : (s.setTap t r).pour.mapA = s.pour.mapA := rfl
@[simp] theorem State.setTap_pour_mapB (s : State) (t : Nat) (r : Tap) : (s.setTap t r).pour.mapB = s.pour.mapB := rfl
@[simp] theorem State.setTap_pour_active (s : State) (t : Nat) (r : Tap) : (s.setTap t r).pour.active = s.pour.active := rfl
@[simp] theorem State.setTap_pour_barOpen (s : State) (t : Nat) (r : Tap) : (s.setTap t r).pour.barOpen = s.pour.barOpen := rfl
@[simp] theorem State.setTap_pour_sizes (s : State) (t : Nat) (r : Tap) : (s.setTap t r).pour.sizes = s.pour.sizes := rfl
@[simp] theorem State.setTap_pour_vfree (s : State) (t : Nat) (r : Tap) : (s.setTap t r).pour.vfree = s.pour.vfree := rfl
@[simp] theorem State.setTap_pour_freeSeconds (s : State) (t : Nat) (r : Tap) : (s.setTap t r).pour.freeSeconds = s.pour.freeSeconds := rfl
@[simp] theorem State.setTap_pour_foamThreshold (s : State) (t : Nat) (r : Tap) : (s.setTap t r).pour.foamThreshold = s.pour.foamThreshold := rfl

/-! `State.setNode` -/

@[simp] theorem State.setNode_cellar (s : State) (a : Nat) (n : Node) : (s.setNode a n).cellar = s.cellar := rfl
@[simp] theorem State.setNode_pour (s : State) (a : Nat) (n : Node) : (s.setNode a n).pour = s.pour := rfl
@[simp] theorem State.setNode_acct (s : State) (a : Nat) (n : Node) : (s.setNode a n).acct = s.acct := rfl
@[simp] theorem State.setNode_cool (s : State) (a : Nat) (n : Node) : (s.setNode a n).cool = s.cool := rfl
@[simp] theorem State.setNode_clean (s : State) (a : Nat) (n : Node) : (s.setNode a n).clean = s.clean := rfl
@[simp] theorem State.setNode_link (s : State) (a : Nat) (n : Node) : (s.setNode a n).link = s.link := rfl
@[simp] theorem State.setNode_store (s : State) (a : Nat) (n : Node) : (s.setNode a n).store = s.store := rfl
@[simp] theorem State.setNode_pins (s : State) (a : Nat) (n : Node) : (s.setNode a n).pins = s.pins := rfl
@[simp] theorem State.setNode_pending (s : State) (a : Nat) (n : Node) : (s.setNode a n).pending = s.pending := rfl
@[simp] theorem State.setNode_bus_round (s : State) (a : Nat) (n : Node) : (s.setNode a n).bus.round = s.bus.round := rfl
@[simp] theorem State.setNode_bus_phase (s : State) (a : Nat) (n : Node) : (s.setNode a n).bus.phase = s.bus.phase := rfl
@[simp] theorem State.setNode_bus_abandoned (s : State) (a : Nat) (n : Node) : (s.setNode a n).bus.abandoned = s.bus.abandoned := rfl

/-! `State.setTrunk` -/

@[simp] theorem State.setTrunk_cellar (s : State) (n : Nat) (t : Trunk) : (s.setTrunk n t).cellar = s.cellar := rfl
@[simp] theorem State.setTrunk_pour (s : State) (n : Nat) (t : Trunk) : (s.setTrunk n t).pour = s.pour := rfl
@[simp] theorem State.setTrunk_bus (s : State) (n : Nat) (t : Trunk) : (s.setTrunk n t).bus = s.bus := rfl
@[simp] theorem State.setTrunk_acct (s : State) (n : Nat) (t : Trunk) : (s.setTrunk n t).acct = s.acct := rfl
@[simp] theorem State.setTrunk_clean (s : State) (n : Nat) (t : Trunk) : (s.setTrunk n t).clean = s.clean := rfl
@[simp] theorem State.setTrunk_link (s : State) (n : Nat) (t : Trunk) : (s.setTrunk n t).link = s.link := rfl
@[simp] theorem State.setTrunk_store (s : State) (n : Nat) (t : Trunk) : (s.setTrunk n t).store = s.store := rfl
@[simp] theorem State.setTrunk_pins (s : State) (n : Nat) (t : Trunk) : (s.setTrunk n t).pins = s.pins := rfl
@[simp] theorem State.setTrunk_pending (s : State) (n : Nat) (t : Trunk) : (s.setTrunk n t).pending = s.pending := rfl
@[simp] theorem State.setTrunk_cool_stages (s : State) (n : Nat) (t : Trunk) : (s.setTrunk n t).cool.stages = s.cool.stages := rfl
@[simp] theorem State.setTrunk_cool_count (s : State) (n : Nat) (t : Trunk) : (s.setTrunk n t).cool.count = s.cool.count := rfl
@[simp] theorem State.setTrunk_cool_points (s : State) (n : Nat) (t : Trunk) : (s.setTrunk n t).cool.points = s.cool.points := rfl
@[simp] theorem State.setTrunk_cool_target (s : State) (n : Nat) (t : Trunk) : (s.setTrunk n t).cool.target = s.cool.target := rfl
@[simp] theorem State.setTrunk_cool_bath (s : State) (n : Nat) (t : Trunk) : (s.setTrunk n t).cool.bath = s.cool.bath := rfl
@[simp] theorem State.setTrunk_cool_bathFault (s : State) (n : Nat) (t : Trunk) : (s.setTrunk n t).cool.bathFault = s.cool.bathFault := rfl
@[simp] theorem State.setTrunk_cool_freezeHold (s : State) (n : Nat) (t : Trunk) : (s.setTrunk n t).cool.freezeHold = s.cool.freezeHold := rfl
@[simp] theorem State.setTrunk_cool_surges (s : State) (n : Nat) (t : Trunk) : (s.setTrunk n t).cool.surges = s.cool.surges := rfl
@[simp] theorem State.setTrunk_cool_capacity (s : State) (n : Nat) (t : Trunk) : (s.setTrunk n t).cool.capacity = s.cool.capacity := rfl
@[simp] theorem State.setTrunk_cool_controlTimer (s : State) (n : Nat) (t : Trunk) : (s.setTrunk n t).cool.controlTimer = s.cool.controlTimer := rfl
@[simp] theorem State.setTrunk_cool_dutyTimer (s : State) (n : Nat) (t : Trunk) : (s.setTrunk n t).cool.dutyTimer = s.cool.dutyTimer := rfl
@[simp] theorem State.setTrunk_cool_startFaults (s : State) (n : Nat) (t : Trunk) : (s.setTrunk n t).cool.startFaults = s.cool.startFaults := rfl

/-! `State.setStage` -/

@[simp] theorem State.setStage_cellar (s : State) (i : Nat) (g : Stage) : (s.setStage i g).cellar = s.cellar := rfl
@[simp] theorem State.setStage_pour (s : State) (i : Nat) (g : Stage) : (s.setStage i g).pour = s.pour := rfl
@[simp] theorem State.setStage_bus (s : State) (i : Nat) (g : Stage) : (s.setStage i g).bus = s.bus := rfl
@[simp] theorem State.setStage_acct (s : State) (i : Nat) (g : Stage) : (s.setStage i g).acct = s.acct := rfl
@[simp] theorem State.setStage_clean (s : State) (i : Nat) (g : Stage) : (s.setStage i g).clean = s.clean := rfl
@[simp] theorem State.setStage_link (s : State) (i : Nat) (g : Stage) : (s.setStage i g).link = s.link := rfl
@[simp] theorem State.setStage_store (s : State) (i : Nat) (g : Stage) : (s.setStage i g).store = s.store := rfl
@[simp] theorem State.setStage_pins (s : State) (i : Nat) (g : Stage) : (s.setStage i g).pins = s.pins := rfl
@[simp] theorem State.setStage_pending (s : State) (i : Nat) (g : Stage) : (s.setStage i g).pending = s.pending := rfl
@[simp] theorem State.setStage_cool_trunks (s : State) (i : Nat) (g : Stage) : (s.setStage i g).cool.trunks = s.cool.trunks := rfl
@[simp] theorem State.setStage_cool_count (s : State) (i : Nat) (g : Stage) : (s.setStage i g).cool.count = s.cool.count := rfl
@[simp] theorem State.setStage_cool_points (s : State) (i : Nat) (g : Stage) : (s.setStage i g).cool.points = s.cool.points := rfl
@[simp] theorem State.setStage_cool_target (s : State) (i : Nat) (g : Stage) : (s.setStage i g).cool.target = s.cool.target := rfl
@[simp] theorem State.setStage_cool_bath (s : State) (i : Nat) (g : Stage) : (s.setStage i g).cool.bath = s.cool.bath := rfl
@[simp] theorem State.setStage_cool_bathFault (s : State) (i : Nat) (g : Stage) : (s.setStage i g).cool.bathFault = s.cool.bathFault := rfl
@[simp] theorem State.setStage_cool_freezeHold (s : State) (i : Nat) (g : Stage) : (s.setStage i g).cool.freezeHold = s.cool.freezeHold := rfl
@[simp] theorem State.setStage_cool_surges (s : State) (i : Nat) (g : Stage) : (s.setStage i g).cool.surges = s.cool.surges := rfl
@[simp] theorem State.setStage_cool_capacity (s : State) (i : Nat) (g : Stage) : (s.setStage i g).cool.capacity = s.cool.capacity := rfl
@[simp] theorem State.setStage_cool_controlTimer (s : State) (i : Nat) (g : Stage) : (s.setStage i g).cool.controlTimer = s.cool.controlTimer := rfl
@[simp] theorem State.setStage_cool_dutyTimer (s : State) (i : Nat) (g : Stage) : (s.setStage i g).cool.dutyTimer = s.cool.dutyTimer := rfl
@[simp] theorem State.setStage_cool_startFaults (s : State) (i : Nat) (g : Stage) : (s.setStage i g).cool.startFaults = s.cool.startFaults := rfl

/-! `State.setCircuit` -/

@[simp] theorem State.setCircuit_cellar (s : State) (c : Circuit) (r : CircuitRec) : (s.setCircuit c r).cellar = s.cellar := rfl
@[simp] theorem State.setCircuit_pour (s : State) (c : Circuit) (r : CircuitRec) : (s.setCircuit c r).pour = s.pour := rfl
@[simp] theorem State.setCircuit_bus (s : State) (c : Circuit) (r : CircuitRec) : (s.setCircuit c r).bus = s.bus := rfl
@[simp] theorem State.setCircuit_acct (s : State) (c : Circuit) (r : CircuitRec) : (s.setCircuit c r).acct = s.acct := rfl
@[simp] theorem State.setCircuit_cool (s : State) (c : Circuit) (r : CircuitRec) : (s.setCircuit c r).cool = s.cool := rfl
@[simp] theorem State.setCircuit_link (s : State) (c : Circuit) (r : CircuitRec) : (s.setCircuit c r).link = s.link := rfl
@[simp] theorem State.setCircuit_store (s : State) (c : Circuit) (r : CircuitRec) : (s.setCircuit c r).store = s.store := rfl
@[simp] theorem State.setCircuit_pins (s : State) (c : Circuit) (r : CircuitRec) : (s.setCircuit c r).pins = s.pins := rfl
@[simp] theorem State.setCircuit_pending (s : State) (c : Circuit) (r : CircuitRec) : (s.setCircuit c r).pending = s.pending := rfl
@[simp] theorem State.setCircuit_clean_programs (s : State) (c : Circuit) (r : CircuitRec) : (s.setCircuit c r).clean.programs = s.clean.programs := rfl
@[simp] theorem State.setCircuit_clean_queue (s : State) (c : Circuit) (r : CircuitRec) : (s.setCircuit c r).clean.queue = s.clean.queue := rfl

/-! `State.setWatch` -/

@[simp] theorem State.setWatch_cellar (s : State) (w : Nat) (e : Watch) : (s.setWatch w e).cellar = s.cellar := rfl
@[simp] theorem State.setWatch_pour (s : State) (w : Nat) (e : Watch) : (s.setWatch w e).pour = s.pour := rfl
@[simp] theorem State.setWatch_bus (s : State) (w : Nat) (e : Watch) : (s.setWatch w e).bus = s.bus := rfl
@[simp] theorem State.setWatch_cool (s : State) (w : Nat) (e : Watch) : (s.setWatch w e).cool = s.cool := rfl
@[simp] theorem State.setWatch_clean (s : State) (w : Nat) (e : Watch) : (s.setWatch w e).clean = s.clean := rfl
@[simp] theorem State.setWatch_link (s : State) (w : Nat) (e : Watch) : (s.setWatch w e).link = s.link := rfl
@[simp] theorem State.setWatch_store (s : State) (w : Nat) (e : Watch) : (s.setWatch w e).store = s.store := rfl
@[simp] theorem State.setWatch_pins (s : State) (w : Nat) (e : Watch) : (s.setWatch w e).pins = s.pins := rfl
@[simp] theorem State.setWatch_pending (s : State) (w : Nat) (e : Watch) : (s.setWatch w e).pending = s.pending := rfl
@[simp] theorem State.setWatch_acct_journal (s : State) (w : Nat) (e : Watch) : (s.setWatch w e).acct.journal = s.acct.journal := rfl
@[simp] theorem State.setWatch_acct_nextSeq (s : State) (w : Nat) (e : Watch) : (s.setWatch w e).acct.nextSeq = s.acct.nextSeq := rfl
@[simp] theorem State.setWatch_acct_pourPurge (s : State) (w : Nat) (e : Watch) : (s.setWatch w e).acct.pourPurge = s.acct.pourPurge := rfl
@[simp] theorem State.setWatch_acct_highNoted (s : State) (w : Nat) (e : Watch) : (s.setWatch w e).acct.highNoted = s.acct.highNoted := rfl
@[simp] theorem State.setWatch_acct_fullNoted (s : State) (w : Nat) (e : Watch) : (s.setWatch w e).acct.fullNoted = s.acct.fullNoted := rfl
@[simp] theorem State.setWatch_acct_unstoredKeg (s : State) (w : Nat) (e : Watch) : (s.setWatch w e).acct.unstoredKeg = s.acct.unstoredKeg := rfl
@[simp] theorem State.setWatch_acct_unstoredClean (s : State) (w : Nat) (e : Watch) : (s.setWatch w e).acct.unstoredClean = s.acct.unstoredClean := rfl
@[simp] theorem State.setWatch_acct_unstoredCal (s : State) (w : Nat) (e : Watch) : (s.setWatch w e).acct.unstoredCal = s.acct.unstoredCal := rfl
@[simp] theorem State.setWatch_acct_unstoredWatch (s : State) (w : Nat) (e : Watch) : (s.setWatch w e).acct.unstoredWatch = s.acct.unstoredWatch := rfl
@[simp] theorem State.setWatch_acct_window (s : State) (w : Nat) (e : Watch) : (s.setWatch w e).acct.window = s.acct.window := rfl

/-! `State.setLink` -/

@[simp] theorem State.setLink_cellar (s : State) (l : Link) : (s.setLink l).cellar = s.cellar := rfl
@[simp] theorem State.setLink_pour (s : State) (l : Link) : (s.setLink l).pour = s.pour := rfl
@[simp] theorem State.setLink_bus (s : State) (l : Link) : (s.setLink l).bus = s.bus := rfl
@[simp] theorem State.setLink_acct (s : State) (l : Link) : (s.setLink l).acct = s.acct := rfl
@[simp] theorem State.setLink_cool (s : State) (l : Link) : (s.setLink l).cool = s.cool := rfl
@[simp] theorem State.setLink_clean (s : State) (l : Link) : (s.setLink l).clean = s.clean := rfl
@[simp] theorem State.setLink_store (s : State) (l : Link) : (s.setLink l).store = s.store := rfl
@[simp] theorem State.setLink_pins (s : State) (l : Link) : (s.setLink l).pins = s.pins := rfl
@[simp] theorem State.setLink_pending (s : State) (l : Link) : (s.setLink l).pending = s.pending := rfl
@[simp] theorem State.setLink_link (s : State) (l : Link) : (s.setLink l).link = l := rfl

/-! `State.setReceiver` -/

theorem State.setReceiver_eq (s : State) (r : Receiver) : s.setReceiver r = s.setLink { s.link with receiver := r } := rfl
@[simp] theorem State.setReceiver_cellar (s : State) (r : Receiver) : (s.setReceiver r).cellar = s.cellar := rfl
@[simp] theorem State.setReceiver_pour (s : State) (r : Receiver) : (s.setReceiver r).pour = s.pour := rfl
@[simp] theorem State.setReceiver_bus (s : State) (r : Receiver) : (s.setReceiver r).bus = s.bus := rfl
@[simp] theorem State.setReceiver_acct (s : State) (r : Receiver) : (s.setReceiver r).acct = s.acct := rfl
@[simp] theorem State.setReceiver_cool (s : State) (r : Receiver) : (s.setReceiver r).cool = s.cool := rfl
@[simp] theorem State.setReceiver_clean (s : State) (r : Receiver) : (s.setReceiver r).clean = s.clean := rfl
@[simp] theorem State.setReceiver_store (s : State) (r : Receiver) : (s.setReceiver r).store = s.store := rfl
@[simp] theorem State.setReceiver_pins (s : State) (r : Receiver) : (s.setReceiver r).pins = s.pins := rfl
@[simp] theorem State.setReceiver_pending (s : State) (r : Receiver) : (s.setReceiver r).pending = s.pending := rfl
@[simp] theorem State.setReceiver_receiver (s : State) (r : Receiver) : (s.setReceiver r).link.receiver = r := rfl
@[simp] theorem State.setReceiver_setReceiver (s : State) (q r : Receiver) : (s.setReceiver q).setReceiver r = s.setReceiver r := rfl

/-! `State.setProducts` -/

@[simp] theorem State.setProducts_pour (s : State) (ps : List Product) : (s.setProducts ps).pour = s.pour := rfl
@[simp] theorem State.setProducts_bus (s : State) (ps : List Product) : (s.setProducts ps).bus = s.bus := rfl
@[simp] theorem State.setProducts_acct (s : State) (ps : List Product) : (s.setProducts ps).acct = s.acct := rfl
@[simp] theorem State.setProducts_cool (s : State) (ps : List Product) : (s.setProducts ps).cool = s.cool := rfl
@[simp] theorem State.setProducts_clean (s : State) (ps : List Product) : (s.setProducts ps).clean = s.clean := rfl
@[simp] theorem State.setProducts_link (s : State) (ps : List Product) : (s.setProducts ps).link = s.link := rfl
@[simp] theorem State.setProducts_store (s : State) (ps : List Product) : (s.setProducts ps).store = s.store := rfl
@[simp] theorem State.setProducts_pins (s : State) (ps : List Product) : (s.setProducts ps).pins = s.pins := rfl
@[simp] theorem State.setProducts_pending (s : State) (ps : List Product) : (s.setProducts ps).pending = s.pending := rfl
@[simp] theorem State.setProducts_cellar_lines (s : State) (ps : List Product) : (s.setProducts ps).cellar.lines = s.cellar.lines := rfl
@[simp] theorem State.setProducts_cellar_detectorArmed (s : State) (ps : List Product) : (s.setProducts ps).cellar.detectorArmed = s.cellar.detectorArmed := rfl
@[simp] theorem State.setProducts_cellar_products (s : State) (ps : List Product) :
    (s.setProducts ps).cellar.products = ps := rfl

/-! `State.setSurges` -/

@[simp] theorem State.setSurges_cellar (s : State) (es : List Surge) : (s.setSurges es).cellar = s.cellar := rfl
@[simp] theorem State.setSurges_pour (s : State) (es : List Surge) : (s.setSurges es).pour = s.pour := rfl
@[simp] theorem State.setSurges_bus (s : State) (es : List Surge) : (s.setSurges es).bus = s.bus := rfl
@[simp] theorem State.setSurges_acct (s : State) (es : List Surge) : (s.setSurges es).acct = s.acct := rfl
@[simp] theorem State.setSurges_clean (s : State) (es : List Surge) : (s.setSurges es).clean = s.clean := rfl
@[simp] theorem State.setSurges_link (s : State) (es : List Surge) : (s.setSurges es).link = s.link := rfl
@[simp] theorem State.setSurges_store (s : State) (es : List Surge) : (s.setSurges es).store = s.store := rfl
@[simp] theorem State.setSurges_pins (s : State) (es : List Surge) : (s.setSurges es).pins = s.pins := rfl
@[simp] theorem State.setSurges_pending (s : State) (es : List Surge) : (s.setSurges es).pending = s.pending := rfl
@[simp] theorem State.setSurges_cool_trunks (s : State) (es : List Surge) : (s.setSurges es).cool.trunks = s.cool.trunks := rfl
@[simp] theorem State.setSurges_cool_stages (s : State) (es : List Surge) : (s.setSurges es).cool.stages = s.cool.stages := rfl
@[simp] theorem State.setSurges_cool_count (s : State) (es : List Surge) : (s.setSurges es).cool.count = s.cool.count := rfl
@[simp] theorem State.setSurges_cool_points (s : State) (es : List Surge) : (s.setSurges es).cool.points = s.cool.points := rfl
@[simp] theorem State.setSurges_cool_target (s : State) (es : List Surge) : (s.setSurges es).cool.target = s.cool.target := rfl
@[simp] theorem State.setSurges_cool_bath (s : State) (es : List Surge) : (s.setSurges es).cool.bath = s.cool.bath := rfl
@[simp] theorem State.setSurges_cool_bathFault (s : State) (es : List Surge) : (s.setSurges es).cool.bathFault = s.cool.bathFault := rfl
@[simp] theorem State.setSurges_cool_freezeHold (s : State) (es : List Surge) : (s.setSurges es).cool.freezeHold = s.cool.freezeHold := rfl
@[simp] theorem State.setSurges_cool_capacity (s : State) (es : List Surge) : (s.setSurges es).cool.capacity = s.cool.capacity := rfl
@[simp] theorem State.setSurges_cool_controlTimer (s : State) (es : List Surge) : (s.setSurges es).cool.controlTimer = s.cool.controlTimer := rfl
@[simp] theorem State.setSurges_cool_dutyTimer (s : State) (es : List Surge) : (s.setSurges es).cool.dutyTimer = s.cool.dutyTimer := rfl
@[simp] theorem State.setSurges_cool_startFaults (s : State) (es : List Surge) : (s.setSurges es).cool.startFaults = s.cool.startFaults := rfl
@[simp] theorem State.setSurges_cool_surges (s : State) (es : List Surge) :
    (s.setSurges es).cool.surges = es := rfl

/-! `State.withPending` -/

@[simp] theorem State.withPending_cellar (s : State) (q : List Instr) : (s.withPending q).cellar = s.cellar := rfl
@[simp] theorem State.withPending_pour (s : State) (q : List Instr) : (s.withPending q).pour = s.pour := rfl
@[simp] theorem State.withPending_bus (s : State) (q : List Instr) : (s.withPending q).bus = s.bus := rfl
@[simp] theorem State.withPending_acct (s : State) (q : List Instr) : (s.withPending q).acct = s.acct := rfl
@[simp] theorem State.withPending_cool (s : State) (q : List Instr) : (s.withPending q).cool = s.cool := rfl
@[simp] theorem State.withPending_clean (s : State) (q : List Instr) : (s.withPending q).clean = s.clean := rfl
@[simp] theorem State.withPending_link (s : State) (q : List Instr) : (s.withPending q).link = s.link := rfl
@[simp] theorem State.withPending_store (s : State) (q : List Instr) : (s.withPending q).store = s.store := rfl
@[simp] theorem State.withPending_pins (s : State) (q : List Instr) : (s.withPending q).pins = s.pins := rfl
@[simp] theorem State.withPending_pending (s : State) (q : List Instr) : (s.withPending q).pending = q := rfl

/-! `post` -/

@[simp] theorem post_cellar (s : State) (k : NoticeKey) (c : NoticeCause) : (post k c s).cellar = s.cellar := rfl
@[simp] theorem post_pour (s : State) (k : NoticeKey) (c : NoticeCause) : (post k c s).pour = s.pour := rfl
@[simp] theorem post_bus (s : State) (k : NoticeKey) (c : NoticeCause) : (post k c s).bus = s.bus := rfl
@[simp] theorem post_acct (s : State) (k : NoticeKey) (c : NoticeCause) : (post k c s).acct = s.acct := rfl
@[simp] theorem post_cool (s : State) (k : NoticeKey) (c : NoticeCause) : (post k c s).cool = s.cool := rfl
@[simp] theorem post_clean (s : State) (k : NoticeKey) (c : NoticeCause) : (post k c s).clean = s.clean := rfl
@[simp] theorem post_store (s : State) (k : NoticeKey) (c : NoticeCause) : (post k c s).store = s.store := rfl
@[simp] theorem post_pins (s : State) (k : NoticeKey) (c : NoticeCause) : (post k c s).pins = s.pins := rfl
@[simp] theorem post_pending (s : State) (k : NoticeKey) (c : NoticeCause) : (post k c s).pending = s.pending := rfl
@[simp] theorem post_link_slot (s : State) (k : NoticeKey) (c : NoticeCause) : (post k c s).link.slot = s.link.slot := rfl
@[simp] theorem post_link_busy (s : State) (k : NoticeKey) (c : NoticeCause) : (post k c s).link.busy = s.link.busy := rfl
@[simp] theorem post_link_tx (s : State) (k : NoticeKey) (c : NoticeCause) : (post k c s).link.tx = s.link.tx := rfl
@[simp] theorem post_link_starts (s : State) (k : NoticeKey) (c : NoticeCause) : (post k c s).link.starts = s.link.starts := rfl
@[simp] theorem post_link_pace (s : State) (k : NoticeKey) (c : NoticeCause) : (post k c s).link.pace = s.link.pace := rfl
@[simp] theorem post_link_receiver (s : State) (k : NoticeKey) (c : NoticeCause) : (post k c s).link.receiver = s.link.receiver := rfl
@[simp] theorem post_link_discarded (s : State) (k : NoticeKey) (c : NoticeCause) : (post k c s).link.discarded = s.link.discarded := rfl
@[simp] theorem post_link_rate (s : State) (k : NoticeKey) (c : NoticeCause) : (post k c s).link.rate = s.link.rate := rfl
@[simp] theorem post_link_notices (s : State) (k : NoticeKey) (c : NoticeCause) :
    (post k c s).link.notices = mergeNotice k c s.link.notices := rfl

/-! ### Changing a record is replacing it -/

theorem State.modLine_eq (s : State) (n : Nat) (f : Line → Line) : s.modLine n f = s.setLine n (f (s.line n)) := rfl
theorem State.modTap_eq (s : State) (t : Nat) (f : Tap → Tap) : s.modTap t f = s.setTap t (f (s.tap t)) := rfl
theorem State.modNode_eq (s : State) (a : Nat) (f : Node → Node) : s.modNode a f = s.setNode a (f (s.node a)) := rfl
theorem State.modTrunk_eq (s : State) (n : Nat) (f : Trunk → Trunk) : s.modTrunk n f = s.setTrunk n (f (s.trunk n)) := rfl
theorem State.modCircuit_eq (s : State) (c : Circuit) (f : CircuitRec → CircuitRec) :
    s.modCircuit c f = s.setCircuit c (f (s.circuit c)) := rfl

@[simp] theorem State.modLine_pour (s : State) (n : Nat) (f : Line → Line) : (s.modLine n f).pour = s.pour := rfl
@[simp] theorem State.modLine_bus (s : State) (n : Nat) (f : Line → Line) : (s.modLine n f).bus = s.bus := rfl
@[simp] theorem State.modLine_acct (s : State) (n : Nat) (f : Line → Line) : (s.modLine n f).acct = s.acct := rfl
@[simp] theorem State.modLine_cool (s : State) (n : Nat) (f : Line → Line) : (s.modLine n f).cool = s.cool := rfl
@[simp] theorem State.modLine_clean (s : State) (n : Nat) (f : Line → Line) : (s.modLine n f).clean = s.clean := rfl
@[simp] theorem State.modLine_link (s : State) (n : Nat) (f : Line → Line) : (s.modLine n f).link = s.link := rfl
@[simp] theorem State.modLine_store (s : State) (n : Nat) (f : Line → Line) : (s.modLine n f).store = s.store := rfl
@[simp] theorem State.modLine_pins (s : State) (n : Nat) (f : Line → Line) : (s.modLine n f).pins = s.pins := rfl
@[simp] theorem State.modLine_pending (s : State) (n : Nat) (f : Line → Line) : (s.modLine n f).pending = s.pending := rfl
@[simp] theorem State.modTap_cellar (s : State) (t : Nat) (f : Tap → Tap) : (s.modTap t f).cellar = s.cellar := rfl
@[simp] theorem State.modTap_bus (s : State) (t : Nat) (f : Tap → Tap) : (s.modTap t f).bus = s.bus := rfl
@[simp] theorem State.modTap_acct (s : State) (t : Nat) (f : Tap → Tap) : (s.modTap t f).acct = s.acct := rfl
@[simp] theorem State.modTap_cool (s : State) (t : Nat) (f : Tap → Tap) : (s.modTap t f).cool = s.cool := rfl
@[simp] theorem State.modTap_clean (s : State) (t : Nat) (f : Tap → Tap) : (s.modTap t f).clean = s.clean := rfl
@[simp] theorem State.modTap_link (s : State) (t : Nat) (f : Tap → Tap) : (s.modTap t f).link = s.link := rfl
@[simp] theorem State.modTap_store (s : State) (t : Nat) (f : Tap → Tap) : (s.modTap t f).store = s.store := rfl
@[simp] theorem State.modTap_pins (s : State) (t : Nat) (f : Tap → Tap) : (s.modTap t f).pins = s.pins := rfl
@[simp] theorem State.modTap_pending (s : State) (t : Nat) (f : Tap → Tap) : (s.modTap t f).pending = s.pending := rfl
@[simp] theorem State.modNode_cellar (s : State) (a : Nat) (f : Node → Node) : (s.modNode a f).cellar = s.cellar := rfl
@[simp] theorem State.modNode_pour (s : State) (a : Nat) (f : Node → Node) : (s.modNode a f).pour = s.pour := rfl
@[simp] theorem State.modNode_acct (s : State) (a : Nat) (f : Node → Node) : (s.modNode a f).acct = s.acct := rfl
@[simp] theorem State.modNode_cool (s : State) (a : Nat) (f : Node → Node) : (s.modNode a f).cool = s.cool := rfl
@[simp] theorem State.modNode_clean (s : State) (a : Nat) (f : Node → Node) : (s.modNode a f).clean = s.clean := rfl
@[simp] theorem State.modNode_link (s : State) (a : Nat) (f : Node → Node) : (s.modNode a f).link = s.link := rfl
@[simp] theorem State.modNode_store (s : State) (a : Nat) (f : Node → Node) : (s.modNode a f).store = s.store := rfl
@[simp] theorem State.modNode_pins (s : State) (a : Nat) (f : Node → Node) : (s.modNode a f).pins = s.pins := rfl
@[simp] theorem State.modNode_pending (s : State) (a : Nat) (f : Node → Node) : (s.modNode a f).pending = s.pending := rfl
@[simp] theorem State.modTrunk_cellar (s : State) (n : Nat) (f : Trunk → Trunk) : (s.modTrunk n f).cellar = s.cellar := rfl
@[simp] theorem State.modTrunk_pour (s : State) (n : Nat) (f : Trunk → Trunk) : (s.modTrunk n f).pour = s.pour := rfl
@[simp] theorem State.modTrunk_bus (s : State) (n : Nat) (f : Trunk → Trunk) : (s.modTrunk n f).bus = s.bus := rfl
@[simp] theorem State.modTrunk_acct (s : State) (n : Nat) (f : Trunk → Trunk) : (s.modTrunk n f).acct = s.acct := rfl
@[simp] theorem State.modTrunk_clean (s : State) (n : Nat) (f : Trunk → Trunk) : (s.modTrunk n f).clean = s.clean := rfl
@[simp] theorem State.modTrunk_link (s : State) (n : Nat) (f : Trunk → Trunk) : (s.modTrunk n f).link = s.link := rfl
@[simp] theorem State.modTrunk_store (s : State) (n : Nat) (f : Trunk → Trunk) : (s.modTrunk n f).store = s.store := rfl
@[simp] theorem State.modTrunk_pins (s : State) (n : Nat) (f : Trunk → Trunk) : (s.modTrunk n f).pins = s.pins := rfl
@[simp] theorem State.modTrunk_pending (s : State) (n : Nat) (f : Trunk → Trunk) : (s.modTrunk n f).pending = s.pending := rfl
@[simp] theorem State.modCircuit_cellar (s : State) (c : Circuit) (f : CircuitRec → CircuitRec) :
    (s.modCircuit c f).cellar = s.cellar := rfl
@[simp] theorem State.modCircuit_pour (s : State) (c : Circuit) (f : CircuitRec → CircuitRec) :
    (s.modCircuit c f).pour = s.pour := rfl
@[simp] theorem State.modCircuit_bus (s : State) (c : Circuit) (f : CircuitRec → CircuitRec) :
    (s.modCircuit c f).bus = s.bus := rfl
@[simp] theorem State.modCircuit_acct (s : State) (c : Circuit) (f : CircuitRec → CircuitRec) :
    (s.modCircuit c f).acct = s.acct := rfl
@[simp] theorem State.modCircuit_cool (s : State) (c : Circuit) (f : CircuitRec → CircuitRec) :
    (s.modCircuit c f).cool = s.cool := rfl
@[simp] theorem State.modCircuit_link (s : State) (c : Circuit) (f : CircuitRec → CircuitRec) :
    (s.modCircuit c f).link = s.link := rfl
@[simp] theorem State.modCircuit_store (s : State) (c : Circuit) (f : CircuitRec → CircuitRec) :
    (s.modCircuit c f).store = s.store := rfl
@[simp] theorem State.modCircuit_pins (s : State) (c : Circuit) (f : CircuitRec → CircuitRec) :
    (s.modCircuit c f).pins = s.pins := rfl
@[simp] theorem State.modCircuit_pending (s : State) (c : Circuit) (f : CircuitRec → CircuitRec) :
    (s.modCircuit c f).pending = s.pending := rfl

/-! ### Reading a record after one has been replaced -/

/-- A vector read after one place was written. -/
theorem getD_setIfInBounds {α : Type} {k : Nat} (v : Vector α k) (i j : Nat) (x d : α) :
    ((v.setIfInBounds i x)[j]?).getD d = if i = j ∧ i < k then x else (v[j]?).getD d := by
  rw [Vector.getElem?_setIfInBounds]
  by_cases h : i = j
  · by_cases hk : i < k
    · simp [h, h ▸ hk]
    · have : ¬ j < k := h ▸ hk
      simp [h, this]
  · simp [h]

/-- Record `m` after record `n` was replaced. -/
theorem State.line_setLine (s : State) (n m : Nat) (x : Line) :
    (s.setLine n x).line m = if n = m ∧ n < 48 then x else s.line m :=
  getD_setIfInBounds _ _ _ _ _

@[simp] theorem State.line_setLine_self (s : State) (n : Nat) (x : Line) (h : n < 48) : (s.setLine n x).line n = x := by
  simp [State.line_setLine, h]

@[simp] theorem State.line_setLine_ne (s : State) (n m : Nat) (x : Line) (h : n ≠ m) :
    (s.setLine n x).line m = s.line m := by
  simp [State.line_setLine, h]

/-- Record `m` after record `n` was replaced. -/
theorem State.tap_setTap (s : State) (n m : Nat) (x : Tap) :
    (s.setTap n x).tap m = if n = m ∧ n < 128 then x else s.tap m :=
  getD_setIfInBounds _ _ _ _ _

@[simp] theorem State.tap_setTap_self (s : State) (n : Nat) (x : Tap) (h : n < 128) : (s.setTap n x).tap n = x := by
  simp [State.tap_setTap, h]

@[simp] theorem State.tap_setTap_ne (s : State) (n m : Nat) (x : Tap) (h : n ≠ m) :
    (s.setTap n x).tap m = s.tap m := by
  simp [State.tap_setTap, h]

/-- Record `m` after record `n` was replaced. -/
theorem State.trunk_setTrunk (s : State) (n m : Nat) (x : Trunk) :
    (s.setTrunk n x).trunk m = if n = m ∧ n < 12 then x else s.trunk m :=
  getD_setIfInBounds _ _ _ _ _

@[simp] theorem State.trunk_setTrunk_self (s : State) (n : Nat) (x : Trunk) (h : n < 12) : (s.setTrunk n x).trunk n = x := by
  simp [State.trunk_setTrunk, h]

@[simp] theorem State.trunk_setTrunk_ne (s : State) (n m : Nat) (x : Trunk) (h : n ≠ m) :
    (s.setTrunk n x).trunk m = s.trunk m := by
  simp [State.trunk_setTrunk, h]

/-- Record `m` after record `n` was replaced. -/
theorem State.stage_setStage (s : State) (n m : Nat) (x : Stage) :
    (s.setStage n x).stage m = if n = m ∧ n < 4 then x else s.stage m :=
  getD_setIfInBounds _ _ _ _ _

@[simp] theorem State.stage_setStage_self (s : State) (n : Nat) (x : Stage) (h : n < 4) : (s.setStage n x).stage n = x := by
  simp [State.stage_setStage, h]

@[simp] theorem State.stage_setStage_ne (s : State) (n m : Nat) (x : Stage) (h : n ≠ m) :
    (s.setStage n x).stage m = s.stage m := by
  simp [State.stage_setStage, h]

/-- Record `m` after record `n` was replaced. -/
theorem State.watch_setWatch (s : State) (n m : Nat) (x : Watch) :
    (s.setWatch n x).watch m = if n = m ∧ n < 8 then x else s.watch m :=
  getD_setIfInBounds _ _ _ _ _

@[simp] theorem State.watch_setWatch_self (s : State) (n : Nat) (x : Watch) (h : n < 8) : (s.setWatch n x).watch n = x := by
  simp [State.watch_setWatch, h]

@[simp] theorem State.watch_setWatch_ne (s : State) (n m : Nat) (x : Watch) (h : n ≠ m) :
    (s.setWatch n x).watch m = s.watch m := by
  simp [State.watch_setWatch, h]

/-- The node record of address `b` after that of `a` was replaced. -/
theorem State.node_setNode (s : State) (a b : Nat) (x : Node) :
    (s.setNode a x).node b = if a - 1 = b - 1 ∧ a - 1 < 32 then x else s.node b :=
  getD_setIfInBounds _ _ _ _ _

@[simp] theorem State.node_setNode_self (s : State) (a : Nat) (x : Node) (h : a - 1 < 32) : (s.setNode a x).node a = x := by
  simp [State.node_setNode, h]

@[simp] theorem State.circuit_setCircuit_self (s : State) (c : Circuit) (r : CircuitRec) :
    (s.setCircuit c r).circuit c = r := by
  cases c <;> rfl

theorem State.circuit_setCircuit_ne (s : State) (c d : Circuit) (r : CircuitRec) (h : c ≠ d) :
    (s.setCircuit c r).circuit d = s.circuit d := by
  cases c <;> cases d <;> first | rfl | exact absurd rfl h

/-! ### Accessors read one block -/

theorem State.line_congr {s t : State} (h : s.cellar = t.cellar) (m : Nat) : s.line m = t.line m := by
  simp only [State.line, h]
theorem State.tap_congr {s t : State} (h : s.pour = t.pour) (m : Nat) : s.tap m = t.tap m := by
  simp only [State.tap, h]
theorem State.node_congr {s t : State} (h : s.bus = t.bus) (m : Nat) : s.node m = t.node m := by
  simp only [State.node, h]
theorem State.trunk_congr {s t : State} (h : s.cool = t.cool) (m : Nat) : s.trunk m = t.trunk m := by
  simp only [State.trunk, h]
theorem State.stage_congr {s t : State} (h : s.cool = t.cool) (m : Nat) : s.stage m = t.stage m := by
  simp only [State.stage, h]
theorem State.circuit_congr {s t : State} (h : s.clean = t.clean) (d : Circuit) : s.circuit d = t.circuit d := by
  simp only [State.circuit, h]
theorem State.watch_congr {s t : State} (h : s.acct = t.acct) (m : Nat) : s.watch m = t.watch m := by
  simp only [State.watch, h]
theorem State.programSlot_congr {s t : State} (h : s.clean = t.clean) (m : Nat) : s.programSlot m = t.programSlot m := by
  simp only [State.programSlot, h]
theorem State.activeEntry_congr {s t : State} (h : s.pour = t.pour) (m : Nat) : s.activeEntry m = t.activeEntry m := by
  simp only [State.activeEntry, h]
theorem State.time_congr {s t : State} (h : s.store = t.store) : s.time = t.time := by
  simp only [State.time, h]
theorem State.takesEvents_congr {s t : State} (h : s.store = t.store) : s.takesEvents = t.takesEvents := by
  simp only [State.takesEvents, h]

@[simp] theorem State.line_setTap (s : State) (t : Nat) (r : Tap) (k : Nat) :
    (s.setTap t r).line k = s.line k := rfl
@[simp] theorem State.line_setNode (s : State) (a : Nat) (n : Node) (k : Nat) :
    (s.setNode a n).line k = s.line k := rfl
@[simp] theorem State.line_setTrunk (s : State) (n : Nat) (t : Trunk) (k : Nat) :
    (s.setTrunk n t).line k = s.line k := rfl
@[simp] theorem State.line_setStage (s : State) (i : Nat) (g : Stage) (k : Nat) :
    (s.setStage i g).line k = s.line k := rfl
@[simp] theorem State.line_setCircuit (s : State) (c : Circuit) (r : CircuitRec) (k : Nat) :
    (s.setCircuit c r).line k = s.line k := rfl
@[simp] theorem State.line_setWatch (s : State) (w : Nat) (e : Watch) (k : Nat) :
    (s.setWatch w e).line k = s.line k := rfl
@[simp] theorem State.line_setLink (s : State) (l : Link) (k : Nat) :
    (s.setLink l).line k = s.line k := rfl
@[simp] theorem State.line_setProducts (s : State) (ps : List Product) (k : Nat) :
    (s.setProducts ps).line k = s.line k := rfl
@[simp] theorem State.line_setSurges (s : State) (es : List Surge) (k : Nat) :
    (s.setSurges es).line k = s.line k := rfl
@[simp] theorem State.line_withPending (s : State) (q : List Instr) (k : Nat) :
    (s.withPending q).line k = s.line k := rfl
@[simp] theorem State.line_post (s : State) (k : NoticeKey) (c : NoticeCause) (j : Nat) :
    (post k c s).line j = s.line j := rfl
@[simp] theorem State.tap_setLine (s : State) (n : Nat) (l : Line) (k : Nat) :
    (s.setLine n l).tap k = s.tap k := rfl
@[simp] theorem State.tap_setNode (s : State) (a : Nat) (n : Node) (k : Nat) :
    (s.setNode a n).tap k = s.tap k := rfl
@[simp] theorem State.tap_setTrunk (s : State) (n : Nat) (t : Trunk) (k : Nat) :
    (s.setTrunk n t).tap k = s.tap k := rfl
@[simp] theorem State.tap_setStage (s : State) (i : Nat) (g : Stage) (k : Nat) :
    (s.setStage i g).tap k = s.tap k := rfl
@[simp] theorem State.tap_setCircuit (s : State) (c : Circuit) (r : CircuitRec) (k : Nat) :
    (s.setCircuit c r).tap k = s.tap k := rfl
@[simp] theorem State.tap_setWatch (s : State) (w : Nat) (e : Watch) (k : Nat) :
    (s.setWatch w e).tap k = s.tap k := rfl
@[simp] theorem State.tap_setLink (s : State) (l : Link) (k : Nat) :
    (s.setLink l).tap k = s.tap k := rfl
@[simp] theorem State.tap_setProducts (s : State) (ps : List Product) (k : Nat) :
    (s.setProducts ps).tap k = s.tap k := rfl
@[simp] theorem State.tap_setSurges (s : State) (es : List Surge) (k : Nat) :
    (s.setSurges es).tap k = s.tap k := rfl
@[simp] theorem State.tap_withPending (s : State) (q : List Instr) (k : Nat) :
    (s.withPending q).tap k = s.tap k := rfl
@[simp] theorem State.tap_post (s : State) (k : NoticeKey) (c : NoticeCause) (j : Nat) :
    (post k c s).tap j = s.tap j := rfl
@[simp] theorem State.node_setLine (s : State) (n : Nat) (l : Line) (k : Nat) :
    (s.setLine n l).node k = s.node k := rfl
@[simp] theorem State.node_setTap (s : State) (t : Nat) (r : Tap) (k : Nat) :
    (s.setTap t r).node k = s.node k := rfl
@[simp] theorem State.node_setTrunk (s : State) (n : Nat) (t : Trunk) (k : Nat) :
    (s.setTrunk n t).node k = s.node k := rfl
@[simp] theorem State.node_setStage (s : State) (i : Nat) (g : Stage) (k : Nat) :
    (s.setStage i g).node k = s.node k := rfl
@[simp] theorem State.node_setCircuit (s : State) (c : Circuit) (r : CircuitRec) (k : Nat) :
    (s.setCircuit c r).node k = s.node k := rfl
@[simp] theorem State.node_setWatch (s : State) (w : Nat) (e : Watch) (k : Nat) :
    (s.setWatch w e).node k = s.node k := rfl
@[simp] theorem State.node_setLink (s : State) (l : Link) (k : Nat) :
    (s.setLink l).node k = s.node k := rfl
@[simp] theorem State.node_setProducts (s : State) (ps : List Product) (k : Nat) :
    (s.setProducts ps).node k = s.node k := rfl
@[simp] theorem State.node_setSurges (s : State) (es : List Surge) (k : Nat) :
    (s.setSurges es).node k = s.node k := rfl
@[simp] theorem State.node_withPending (s : State) (q : List Instr) (k : Nat) :
    (s.withPending q).node k = s.node k := rfl
@[simp] theorem State.node_post (s : State) (k : NoticeKey) (c : NoticeCause) (j : Nat) :
    (post k c s).node j = s.node j := rfl
@[simp] theorem State.trunk_setLine (s : State) (n : Nat) (l : Line) (k : Nat) :
    (s.setLine n l).trunk k = s.trunk k := rfl
@[simp] theorem State.trunk_setTap (s : State) (t : Nat) (r : Tap) (k : Nat) :
    (s.setTap t r).trunk k = s.trunk k := rfl
@[simp] theorem State.trunk_setNode (s : State) (a : Nat) (n : Node) (k : Nat) :
    (s.setNode a n).trunk k = s.trunk k := rfl
@[simp] theorem State.trunk_setStage (s : State) (i : Nat) (g : Stage) (k : Nat) :
    (s.setStage i g).trunk k = s.trunk k := rfl
@[simp] theorem State.trunk_setCircuit (s : State) (c : Circuit) (r : CircuitRec) (k : Nat) :
    (s.setCircuit c r).trunk k = s.trunk k := rfl
@[simp] theorem State.trunk_setWatch (s : State) (w : Nat) (e : Watch) (k : Nat) :
    (s.setWatch w e).trunk k = s.trunk k := rfl
@[simp] theorem State.trunk_setLink (s : State) (l : Link) (k : Nat) :
    (s.setLink l).trunk k = s.trunk k := rfl
@[simp] theorem State.trunk_setProducts (s : State) (ps : List Product) (k : Nat) :
    (s.setProducts ps).trunk k = s.trunk k := rfl
@[simp] theorem State.trunk_setSurges (s : State) (es : List Surge) (k : Nat) :
    (s.setSurges es).trunk k = s.trunk k := rfl
@[simp] theorem State.trunk_withPending (s : State) (q : List Instr) (k : Nat) :
    (s.withPending q).trunk k = s.trunk k := rfl
@[simp] theorem State.trunk_post (s : State) (k : NoticeKey) (c : NoticeCause) (j : Nat) :
    (post k c s).trunk j = s.trunk j := rfl
@[simp] theorem State.stage_setLine (s : State) (n : Nat) (l : Line) (k : Nat) :
    (s.setLine n l).stage k = s.stage k := rfl
@[simp] theorem State.stage_setTap (s : State) (t : Nat) (r : Tap) (k : Nat) :
    (s.setTap t r).stage k = s.stage k := rfl
@[simp] theorem State.stage_setNode (s : State) (a : Nat) (n : Node) (k : Nat) :
    (s.setNode a n).stage k = s.stage k := rfl
@[simp] theorem State.stage_setTrunk (s : State) (n : Nat) (t : Trunk) (k : Nat) :
    (s.setTrunk n t).stage k = s.stage k := rfl
@[simp] theorem State.stage_setCircuit (s : State) (c : Circuit) (r : CircuitRec) (k : Nat) :
    (s.setCircuit c r).stage k = s.stage k := rfl
@[simp] theorem State.stage_setWatch (s : State) (w : Nat) (e : Watch) (k : Nat) :
    (s.setWatch w e).stage k = s.stage k := rfl
@[simp] theorem State.stage_setLink (s : State) (l : Link) (k : Nat) :
    (s.setLink l).stage k = s.stage k := rfl
@[simp] theorem State.stage_setProducts (s : State) (ps : List Product) (k : Nat) :
    (s.setProducts ps).stage k = s.stage k := rfl
@[simp] theorem State.stage_setSurges (s : State) (es : List Surge) (k : Nat) :
    (s.setSurges es).stage k = s.stage k := rfl
@[simp] theorem State.stage_withPending (s : State) (q : List Instr) (k : Nat) :
    (s.withPending q).stage k = s.stage k := rfl
@[simp] theorem State.stage_post (s : State) (k : NoticeKey) (c : NoticeCause) (j : Nat) :
    (post k c s).stage j = s.stage j := rfl
@[simp] theorem State.circuit_setLine (s : State) (n : Nat) (l : Line) (o : Circuit) :
    (s.setLine n l).circuit o = s.circuit o := rfl
@[simp] theorem State.circuit_setTap (s : State) (t : Nat) (r : Tap) (o : Circuit) :
    (s.setTap t r).circuit o = s.circuit o := rfl
@[simp] theorem State.circuit_setNode (s : State) (a : Nat) (n : Node) (o : Circuit) :
    (s.setNode a n).circuit o = s.circuit o := rfl
@[simp] theorem State.circuit_setTrunk (s : State) (n : Nat) (t : Trunk) (o : Circuit) :
    (s.setTrunk n t).circuit o = s.circuit o := rfl
@[simp] theorem State.circuit_setStage (s : State) (i : Nat) (g : Stage) (o : Circuit) :
    (s.setStage i g).circuit o = s.circuit o := rfl
@[simp] theorem State.circuit_setWatch (s : State) (w : Nat) (e : Watch) (o : Circuit) :
    (s.setWatch w e).circuit o = s.circuit o := rfl
@[simp] theorem State.circuit_setLink (s : State) (l : Link) (o : Circuit) :
    (s.setLink l).circuit o = s.circuit o := rfl
@[simp] theorem State.circuit_setProducts (s : State) (ps : List Product) (o : Circuit) :
    (s.setProducts ps).circuit o = s.circuit o := rfl
@[simp] theorem State.circuit_setSurges (s : State) (es : List Surge) (o : Circuit) :
    (s.setSurges es).circuit o = s.circuit o := rfl
@[simp] theorem State.circuit_withPending (s : State) (q : List Instr) (o : Circuit) :
    (s.withPending q).circuit o = s.circuit o := rfl
@[simp] theorem State.circuit_post (s : State) (k : NoticeKey) (c : NoticeCause) (o : Circuit) :
    (post k c s).circuit o = s.circuit o := rfl
@[simp] theorem State.watch_setLine (s : State) (n : Nat) (l : Line) (k : Nat) :
    (s.setLine n l).watch k = s.watch k := rfl
@[simp] theorem State.watch_setTap (s : State) (t : Nat) (r : Tap) (k : Nat) :
    (s.setTap t r).watch k = s.watch k := rfl
@[simp] theorem State.watch_setNode (s : State) (a : Nat) (n : Node) (k : Nat) :
    (s.setNode a n).watch k = s.watch k := rfl
@[simp] theorem State.watch_setTrunk (s : State) (n : Nat) (t : Trunk) (k : Nat) :
    (s.setTrunk n t).watch k = s.watch k := rfl
@[simp] theorem State.watch_setStage (s : State) (i : Nat) (g : Stage) (k : Nat) :
    (s.setStage i g).watch k = s.watch k := rfl
@[simp] theorem State.watch_setCircuit (s : State) (c : Circuit) (r : CircuitRec) (k : Nat) :
    (s.setCircuit c r).watch k = s.watch k := rfl
@[simp] theorem State.watch_setLink (s : State) (l : Link) (k : Nat) :
    (s.setLink l).watch k = s.watch k := rfl
@[simp] theorem State.watch_setProducts (s : State) (ps : List Product) (k : Nat) :
    (s.setProducts ps).watch k = s.watch k := rfl
@[simp] theorem State.watch_setSurges (s : State) (es : List Surge) (k : Nat) :
    (s.setSurges es).watch k = s.watch k := rfl
@[simp] theorem State.watch_withPending (s : State) (q : List Instr) (k : Nat) :
    (s.withPending q).watch k = s.watch k := rfl
@[simp] theorem State.watch_post (s : State) (k : NoticeKey) (c : NoticeCause) (j : Nat) :
    (post k c s).watch j = s.watch j := rfl
@[simp] theorem State.programSlot_setLine (s : State) (n : Nat) (l : Line) (k : Nat) :
    (s.setLine n l).programSlot k = s.programSlot k := rfl
@[simp] theorem State.programSlot_setTap (s : State) (t : Nat) (r : Tap) (k : Nat) :
    (s.setTap t r).programSlot k = s.programSlot k := rfl
@[simp] theorem State.programSlot_setNode (s : State) (a : Nat) (n : Node) (k : Nat) :
    (s.setNode a n).programSlot k = s.programSlot k := rfl
@[simp] theorem State.programSlot_setTrunk (s : State) (n : Nat) (t : Trunk) (k : Nat) :
    (s.setTrunk n t).programSlot k = s.programSlot k := rfl
@[simp] theorem State.programSlot_setStage (s : State) (i : Nat) (g : Stage) (k : Nat) :
    (s.setStage i g).programSlot k = s.programSlot k := rfl
@[simp] theorem State.programSlot_setCircuit (s : State) (c : Circuit) (r : CircuitRec) (k : Nat) :
    (s.setCircuit c r).programSlot k = s.programSlot k := rfl
@[simp] theorem State.programSlot_setWatch (s : State) (w : Nat) (e : Watch) (k : Nat) :
    (s.setWatch w e).programSlot k = s.programSlot k := rfl
@[simp] theorem State.programSlot_setLink (s : State) (l : Link) (k : Nat) :
    (s.setLink l).programSlot k = s.programSlot k := rfl
@[simp] theorem State.programSlot_setProducts (s : State) (ps : List Product) (k : Nat) :
    (s.setProducts ps).programSlot k = s.programSlot k := rfl
@[simp] theorem State.programSlot_setSurges (s : State) (es : List Surge) (k : Nat) :
    (s.setSurges es).programSlot k = s.programSlot k := rfl
@[simp] theorem State.programSlot_withPending (s : State) (q : List Instr) (k : Nat) :
    (s.withPending q).programSlot k = s.programSlot k := rfl
@[simp] theorem State.programSlot_post (s : State) (k : NoticeKey) (c : NoticeCause) (j : Nat) :
    (post k c s).programSlot j = s.programSlot j := rfl
@[simp] theorem State.activeEntry_setLine (s : State) (n : Nat) (l : Line) (k : Nat) :
    (s.setLine n l).activeEntry k = s.activeEntry k := rfl
@[simp] theorem State.activeEntry_setTap (s : State) (t : Nat) (r : Tap) (k : Nat) :
    (s.setTap t r).activeEntry k = s.activeEntry k := rfl
@[simp] theorem State.activeEntry_setNode (s : State) (a : Nat) (n : Node) (k : Nat) :
    (s.setNode a n).activeEntry k = s.activeEntry k := rfl
@[simp] theorem State.activeEntry_setTrunk (s : State) (n : Nat) (t : Trunk) (k : Nat) :
    (s.setTrunk n t).activeEntry k = s.activeEntry k := rfl
@[simp] theorem State.activeEntry_setStage (s : State) (i : Nat) (g : Stage) (k : Nat) :
    (s.setStage i g).activeEntry k = s.activeEntry k := rfl
@[simp] theorem State.activeEntry_setCircuit (s : State) (c : Circuit) (r : CircuitRec) (k : Nat) :
    (s.setCircuit c r).activeEntry k = s.activeEntry k := rfl
@[simp] theorem State.activeEntry_setWatch (s : State) (w : Nat) (e : Watch) (k : Nat) :
    (s.setWatch w e).activeEntry k = s.activeEntry k := rfl
@[simp] theorem State.activeEntry_setLink (s : State) (l : Link) (k : Nat) :
    (s.setLink l).activeEntry k = s.activeEntry k := rfl
@[simp] theorem State.activeEntry_setProducts (s : State) (ps : List Product) (k : Nat) :
    (s.setProducts ps).activeEntry k = s.activeEntry k := rfl
@[simp] theorem State.activeEntry_setSurges (s : State) (es : List Surge) (k : Nat) :
    (s.setSurges es).activeEntry k = s.activeEntry k := rfl
@[simp] theorem State.activeEntry_withPending (s : State) (q : List Instr) (k : Nat) :
    (s.withPending q).activeEntry k = s.activeEntry k := rfl
@[simp] theorem State.activeEntry_post (s : State) (k : NoticeKey) (c : NoticeCause) (j : Nat) :
    (post k c s).activeEntry j = s.activeEntry j := rfl
@[simp] theorem State.time_setLine (s : State) (n : Nat) (l : Line) :
    (s.setLine n l).time = s.time := rfl
@[simp] theorem State.time_setTap (s : State) (t : Nat) (r : Tap) :
    (s.setTap t r).time = s.time := rfl
@[simp] theorem State.time_setNode (s : State) (a : Nat) (n : Node) :
    (s.setNode a n).time = s.time := rfl
@[simp] theorem State.time_setTrunk (s : State) (n : Nat) (t : Trunk) :
    (s.setTrunk n t).time = s.time := rfl
@[simp] theorem State.time_setStage (s : State) (i : Nat) (g : Stage) :
    (s.setStage i g).time = s.time := rfl
@[simp] theorem State.time_setCircuit (s : State) (c : Circuit) (r : CircuitRec) :
    (s.setCircuit c r).time = s.time := rfl
@[simp] theorem State.time_setWatch (s : State) (w : Nat) (e : Watch) :
    (s.setWatch w e).time = s.time := rfl
@[simp] theorem State.time_setLink (s : State) (l : Link) :
    (s.setLink l).time = s.time := rfl
@[simp] theorem State.time_setProducts (s : State) (ps : List Product) :
    (s.setProducts ps).time = s.time := rfl
@[simp] theorem State.time_setSurges (s : State) (es : List Surge) :
    (s.setSurges es).time = s.time := rfl
@[simp] theorem State.time_withPending (s : State) (q : List Instr) :
    (s.withPending q).time = s.time := rfl
@[simp] theorem State.time_post (s : State) (k : NoticeKey) (c : NoticeCause) :
    (post k c s).time = s.time := rfl
@[simp] theorem State.takesEvents_setLine (s : State) (n : Nat) (l : Line) :
    (s.setLine n l).takesEvents = s.takesEvents := rfl
@[simp] theorem State.takesEvents_setTap (s : State) (t : Nat) (r : Tap) :
    (s.setTap t r).takesEvents = s.takesEvents := rfl
@[simp] theorem State.takesEvents_setNode (s : State) (a : Nat) (n : Node) :
    (s.setNode a n).takesEvents = s.takesEvents := rfl
@[simp] theorem State.takesEvents_setTrunk (s : State) (n : Nat) (t : Trunk) :
    (s.setTrunk n t).takesEvents = s.takesEvents := rfl
@[simp] theorem State.takesEvents_setStage (s : State) (i : Nat) (g : Stage) :
    (s.setStage i g).takesEvents = s.takesEvents := rfl
@[simp] theorem State.takesEvents_setCircuit (s : State) (c : Circuit) (r : CircuitRec) :
    (s.setCircuit c r).takesEvents = s.takesEvents := rfl
@[simp] theorem State.takesEvents_setWatch (s : State) (w : Nat) (e : Watch) :
    (s.setWatch w e).takesEvents = s.takesEvents := rfl
@[simp] theorem State.takesEvents_setLink (s : State) (l : Link) :
    (s.setLink l).takesEvents = s.takesEvents := rfl
@[simp] theorem State.takesEvents_setProducts (s : State) (ps : List Product) :
    (s.setProducts ps).takesEvents = s.takesEvents := rfl
@[simp] theorem State.takesEvents_setSurges (s : State) (es : List Surge) :
    (s.setSurges es).takesEvents = s.takesEvents := rfl
@[simp] theorem State.takesEvents_withPending (s : State) (q : List Instr) :
    (s.withPending q).takesEvents = s.takesEvents := rfl
@[simp] theorem State.takesEvents_post (s : State) (k : NoticeKey) (c : NoticeCause) :
    (post k c s).takesEvents = s.takesEvents := rfl

end Sys2Proof.Machine
end

