-- ==== Sys2Proof/Laws/Bus.lean ====
section
/-! SUPPORT. What the operations of the tap bus can do, said once: the item list, the marking of carried items, the threshold, and
what a poll and a queued item leave unchanged (R77 to R80). -/

namespace Sys2Proof.Machine

open Sys2Proof

/-- The oldest REFUSE is the first one of the list. -/
theorem dropOldestRefuse_append {x : QueuedItem} {after : List QueuedItem} (hx : x.item.isRefuse = true) :
    ∀ {before : List QueuedItem}, (∀ y ∈ before, y.item.isRefuse = false) →
      dropOldestRefuse (before ++ x :: after) = before ++ after
  | [], _ => by simp [dropOldestRefuse, hx]
  | y :: rest, h => by
    have hy : y.item.isRefuse = false := h y (by simp)
    have hr := dropOldestRefuse_append (after := after) hx (before := rest) fun z hz => h z (by simp [hz])
    simp [dropOldestRefuse, hy, hr]

/-- The first `k` items are marked as carried, counted from place `i`. -/
theorem markCarried_eq (k : Nat) (q : List QueuedItem) (i : Nat) :
    markCarried k q = (q.zipIdx i).map fun x => { x.1 with carried := decide (x.2 < k + i) } := by
  induction q generalizing k i with
  | nil => cases k <;> rfl
  | cons y rest ih =>
    cases k with
    | zero =>
      have h := ih 0 (i + 1)
      rw [markCarried, h]
      simp only [List.zipIdx_cons, List.map_cons, Nat.zero_add, Nat.lt_irrefl, decide_false, List.cons.injEq, true_and]
      refine List.map_congr_left fun x hx => ?_
      have := List.le_snd_of_mem_zipIdx hx
      simp [Nat.not_lt.mpr this, Nat.not_lt.mpr (Nat.le_of_succ_le this)]
    | succ k =>
      rw [markCarried, ih k (i + 1)]
      simp only [List.zipIdx_cons, List.map_cons, List.cons.injEq]
      refine ⟨by simp, List.map_congr_left fun x _ => ?_⟩
      simp only [show k + (i + 1) = k + 1 + i by omega]

/-- A queued item changes the list of one node, and nothing else. -/
theorem queueItem_eq (t : Nat) (it : Item) (s : State) :
    queueItem t it s = s.setNode (nodeOfTap t)
      { s.node (nodeOfTap t) with items := enqueueItem it (s.node (nodeOfTap t)).items } := rfl

/-- A removed STOP changes the list of one node, and nothing else. -/
theorem dropStop_eq (t token : Nat) (s : State) :
    dropStop t token s = s.setNode (nodeOfTap t) { s.node (nodeOfTap t) with
      items := (s.node (nodeOfTap t)).items.filter fun q => q.item ≠ .stop (localOfTap t) token } := rfl

/-- The threshold follows from the lowest gain of the node's configured taps (R80). -/
theorem recomputeThreshold_of_min {a g : Nat} {s : State} (h : (configuredGains s a).min? = some g) :
    recomputeThreshold a s = if g * 5 / 3 = (s.node a).threshold then s
      else s.setNode a { s.node a with threshold := g * 5 / 3, setupDue := true } := by
  simp [recomputeThreshold, thresholdOf, h, State.modNode]

/-- Without a configured tap the threshold stands (R80). -/
theorem recomputeThreshold_of_none {a : Nat} {s : State} (h : configuredGains s a = []) : recomputeThreshold a s = s := by
  simp [recomputeThreshold, thresholdOf, h]

end Sys2Proof.Machine
end

