-- ==== Sys2Proof/Laws/Closed.lean ====
section
/-! SUPPORT. What the shared operations can do, said once: a property kept by a few primitive updates is kept by every operation
built from them. `CleaningClosed` lists what the rules of cleaning and draining do to the state, `PlantClosed` what the rules of
kegs, pours, watches and the tap bus do. A frame, or an invariant, follows by showing the primitive updates alone. -/

namespace Sys2Proof.Machine

open Sys2Proof

/-- A property kept by a function is kept by its repetition along a list. -/
theorem foldl_closed {α : Type} {P : State → Prop} {f : State → α → State} (h : ∀ s x, P s → P (f s x)) :
    ∀ (l : List α) (s : State), P s → P (l.foldl f s)
  | [], _, hs => hs
  | x :: rest, s, hs => foldl_closed h rest (f s x) (h s x hs)

/-- A property of both branches is a property of the choice. -/
theorem ite_closed {P : State → Prop} {c : Prop} [Decidable c] {s t : State} (hs : P s) (ht : P t) : P (if c then s else t) := by
  split
  · exact hs
  · exact ht

/-! ### Cleaning and draining -/

/-- `P` is kept by everything that cleaning and draining do: a line's state, mark, cleaning-due fields and holds; a tap's withheld
route taken up; the queue; the circuit records; notices; journal records. -/
structure CleaningClosed (P : State → Prop) : Prop where
  line : ∀ s n st mark last volume age vol holds, P s → P (s.setLine n { s.line n with
    state := st, mark := mark, lastClean := last, volumeSinceClean := volume, softAgeNoted := age, softVolumeNoted := vol,
    holds := holds })
  route : ∀ s t r, P s → P (s.setTap t { s.tap t with route := r, withheld := false })
  queue : ∀ (s : State) q, P s → P { s with clean := { s.clean with queue := q } }
  circuit : ∀ (s : State) c r, P s → P (s.setCircuit c r)
  post : ∀ s k c, P s → P (post k c s)
  record : ∀ s b, P s → P (takeRecord b s)

section cleaning

variable {P : State → Prop} (h : CleaningClosed P)
include h

theorem moveLine_closed (n : Nat) (st : ServiceState) (s : State) (hs : P s) : P (moveLine n st s) := by
  unfold moveLine
  split
  · exact hs
  · exact h.post _ _ _ (h.line s n st _ _ _ _ _ _ hs)

theorem changeHolds_closed (n : Nat) (c : HoldSet) (s : State) (hs : P s) : P (changeHolds n c s) := by
  unfold changeHolds
  split
  · exact hs
  · exact h.post _ _ _ (h.line s n _ _ _ _ _ _ c hs)

theorem takeActiveRoute_closed (t : Nat) (s : State) (hs : P s) : P (takeActiveRoute t s) := h.route _ _ _ hs

theorem resolveWithheld_closed (n : Nat) (s : State) (hs : P s) : P (resolveWithheld n s) := by
  refine foldl_closed (fun s t hs => ?_) _ _ hs
  split
  · exact takeActiveRoute_closed h t s hs
  · exact hs

theorem recordClean_closed (n : Nat) (s : State) (hs : P s) : P (recordClean n s) :=
  changeHolds_closed h _ _ _ (h.line s n _ _ _ _ _ _ _ hs)

theorem leaveCleaning_closed (n : Nat) (b : Bool) (s : State) (hs : P s) : P (leaveCleaning n b s) := by
  unfold leaveCleaning
  refine resolveWithheld_closed h _ _ ?_
  have h1 := moveLine_closed h n (if (s.line n).mark then .foul else .rinsed) s hs
  split
  · exact recordClean_closed h _ _ h1
  · exact h1

theorem endLine_closed (c : Circuit) (e : BatchEnd) (n : Nat) (s : State) (hs : P s) : P (endLine c e n s) :=
  leaveCleaning_closed h _ _ _ (h.record _ _ hs)

theorem endBatch_closed (c : Circuit) (e : BatchEnd) (s : State) (hs : P s) : P (endBatch c e s) :=
  h.post _ _ _ (h.circuit _ _ _ (foldl_closed (fun s n hs => endLine_closed h c e n s hs) _ _ hs))

theorem markBatch_closed (c : Circuit) (on : Bool) (s : State) (hs : P s) : P (markBatch c on s) :=
  foldl_closed (fun s n hs => h.line s n _ on _ _ _ _ _ hs) _ _ hs

theorem pauseCircuit_closed (c : Circuit) (w : PauseCause) (s : State) (hs : P s) : P (pauseCircuit c w s) :=
  h.post _ _ _ (h.circuit _ _ _ hs)

theorem beginStep_closed (c : Circuit) (s : State) (hs : P s) : P (beginStep c s).1 := by
  unfold beginStep
  split
  · exact hs
  · have h1 := h.circuit s c ((s.circuit c).atStep ‹_›) hs
    simp only []
    split
    · exact h1
    · split
      · exact markBatch_closed h _ _ _ h1
      · exact pauseCircuit_closed h _ _ _ h1
      all_goals exact h1

theorem takeBatch_closed (c : Circuit) (s t : State) (ht : takeBatch c s = some t) (hs : P s) : P t := by
  unfold takeBatch at ht
  split at ht
  · exact absurd ht (by simp)
  · split at ht
    · exact absurd ht (by simp)
    · simp only [Option.some.injEq] at ht
      subst ht
      exact h.post _ _ _ (h.circuit _ _ _ (foldl_closed (fun s n hs => moveLine_closed h n _ s hs) _ _ (h.queue _ _ hs)))

theorem serveQueue_closed (fuel : Nat) (c : Circuit) (s : State) (hs : P s) : P (serveQueue fuel c s) := by
  induction fuel generalizing s with
  | zero => exact hs
  | succ k ih =>
    unfold serveQueue
    split
    · exact hs
    · have h1 := takeBatch_closed h c s _ ‹_› hs
      split
      · have h2 := beginStep_closed h c _ h1
        simp only [*] at h2
        exact h2
      · have h2 := beginStep_closed h c _ h1
        simp only [*] at h2
        exact ih _ (endBatch_closed h _ _ _ h2)

theorem serve_closed (c : Circuit) (s : State) (hs : P s) : P (serve c s) := serveQueue_closed h _ _ _ hs

theorem finishBatch_closed (c : Circuit) (e : BatchEnd) (s : State) (hs : P s) : P (finishBatch c e s) :=
  serve_closed h _ _ (endBatch_closed h _ _ _ hs)

theorem startStep_closed (c : Circuit) (s : State) (hs : P s) : P (startStep c s) := by
  have h1 := beginStep_closed h c s hs
  unfold startStep
  split
  · simp only [*] at h1
    exact h1
  · simp only [*] at h1
    exact finishBatch_closed h _ _ _ h1

theorem takePurge_closed (c : Circuit) (n p v : Nat) (s : State) (hs : P s) : P (takePurge c n p v s) := by
  unfold takePurge
  have h1 := h.record s (.purge n c p v) hs
  simp only []
  split
  · exact h1
  · exact h.circuit _ _ _ h1

theorem postPurges_closed (c : Circuit) (s : State) (hs : P s) : P (postPurges c s) :=
  foldl_closed (fun s _ hs => takePurge_closed h c _ _ _ s hs) _ _ hs

theorem nextStep_closed (c : Circuit) (s : State) (hs : P s) : P (nextStep c s) :=
  startStep_closed h _ _ (h.circuit _ _ _ hs)

theorem completeStep_closed (c : Circuit) (st : Step) (s : State) (hs : P s) : P (completeStep c st s) := by
  have h1 := h.circuit s c { s.circuit c with stepsDone := (s.circuit c).stepsDone + 1 } hs
  have h3 := fun s2 (h2 : P s2) => ite_closed (P := P) (c := st.notify = true) (h.post s2 (.circuit c) .circuitStep h2) h2
  have h4 := h3 _ (ite_closed (c := st.kind = .purge) (postPurges_closed h c _ h1) h1)
  exact ite_closed (finishBatch_closed h _ _ _ h4)
    (ite_closed (pauseCircuit_closed h _ _ _ h4) (nextStep_closed h _ _ h4))

theorem decideVerify_closed (c : Circuit) (st : Step) (s : State) (hs : P s) : P (decideVerify c st s) := by
  unfold decideVerify
  simp only []
  split
  · exact completeStep_closed h _ _ _ (markBatch_closed h _ _ _ hs)
  · split
    · exact finishBatch_closed h _ _ _ hs
    · exact hs

theorem circuitPulse_closed (c : Circuit) (s : State) (hs : P s) : P (circuitPulse c s) := by
  unfold circuitPulse
  split
  · exact hs
  · split
    · exact hs
    · exact hs
    · exact h.circuit _ _ _ hs
    · exact decideVerify_closed h _ _ _ (h.circuit _ _ _ hs)
    all_goals
      simp only []
      split
      · exact completeStep_closed h _ _ _ (h.circuit _ _ _ hs)
      · exact h.circuit _ _ _ hs

theorem conductivity_closed (c : Circuit) (r : Option Int) (s : State) (hs : P s) : P (conductivity c r s) := by
  unfold conductivity
  split
  · exact hs
  · split
    · exact finishBatch_closed h _ _ _ hs
    · have h1 := h.circuit s c { s.circuit c with conductivity := ‹_› } hs
      simp only []
      split
      · exact finishBatch_closed h _ _ _ h1
      · split
        · exact h1
        · split
          · split
            · exact h.circuit _ _ _ (h.circuit _ _ _ h1)
            · exact h.circuit _ _ _ (h.circuit _ _ _ h1)
          · exact h.circuit _ _ _ h1

theorem flowExpiry_closed (c : Circuit) (s : State) (hs : P s) : P (flowExpiry c s) := by
  unfold flowExpiry
  split
  · exact finishBatch_closed h _ _ _ (h.circuit _ _ _ hs)
  · exact hs

theorem timedExpiry_closed (c : Circuit) (s : State) (hs : P s) : P (timedExpiry c s) := by
  unfold timedExpiry
  split
  · exact hs
  · split
    · exact completeStep_closed h _ _ _ (h.circuit _ _ _ hs)
    · exact hs

theorem supplyFault_closed (c : Circuit) (u : Supply) (s : State) (hs : P s) : P (supplyFault c u s) := by
  unfold supplyFault
  split
  · exact finishBatch_closed h _ _ _ hs
  · exact hs

theorem lockoutFault_closed (n : Nat) (s : State) (hs : P s) : P (lockoutFault n s) := by
  unfold lockoutFault
  split
  · exact finishBatch_closed h _ _ _ hs
  · split
    · exact finishBatch_closed h _ _ _ hs
    · exact hs

theorem serveReady_closed (s : State) (hs : P s) : P (serveReady s) := by
  unfold serveReady
  split
  · exact serve_closed h _ _ hs
  · exact hs

theorem evalDrain_closed (n : Nat) (s : State) (hs : P s) : P (evalDrain n s) := by
  unfold evalDrain
  split
  · split
    · exact serveReady_closed h _ (h.queue _ _ (moveLine_closed h _ _ _ hs))
    · exact hs
  · split
    · exact hs
    · exact h.queue _ _ (moveLine_closed h _ _ _ hs)
  · exact hs

end cleaning

/-! ### Kegs, pours, watches and the tap bus -/

/-- `P` is kept by everything the rules of kegs, pours, watches and the tap bus do: any change of the blocks of the cellar, the
pours, the bus and the cleaning; a watch entry; a warm count; notices; journal records. -/
structure PlantClosed (P : State → Prop) : Prop where
  cellar : ∀ (s : State) b, P s → P { s with cellar := b }
  pour : ∀ (s : State) b, P s → P { s with pour := b }
  bus : ∀ (s : State) b, P s → P { s with bus := b }
  clean : ∀ (s : State) b, P s → P { s with clean := b }
  watch : ∀ (s : State) w e, P s → P (s.setWatch w e)
  warm : ∀ s n, P s → P (countWarm n s)
  post : ∀ s k c, P s → P (post k c s)
  record : ∀ s b, P s → P (takeRecord b s)

/-- What pours do includes what cleaning does. -/
theorem PlantClosed.cleaning {P : State → Prop} (h : PlantClosed P) : CleaningClosed P where
  line _ _ _ _ _ _ _ _ _ hs := h.cellar _ _ hs
  route _ _ _ hs := h.pour _ _ hs
  queue _ _ hs := h.clean _ _ hs
  circuit _ _ _ hs := h.clean _ _ hs
  post := h.post
  record := h.record

section plant

variable {P : State → Prop} (h : PlantClosed P)
include h

theorem setLine_closed (n : Nat) (l : Line) (s : State) (hs : P s) : P (s.setLine n l) := h.cellar _ _ hs

theorem setTap_closed (t : Nat) (r : Tap) (s : State) (hs : P s) : P (s.setTap t r) := h.pour _ _ hs

theorem setNode_closed (a : Nat) (n : Node) (s : State) (hs : P s) : P (s.setNode a n) := h.bus _ _ hs

/-! #### Accounting -/

theorem sellProduct_closed (r : PourRecord) (s : State) (hs : P s) : P (sellProduct r s) := by
  unfold sellProduct
  split
  · exact hs
  · exact h.cellar _ _ hs

theorem addTotals_closed (r : PourRecord) (s : State) (hs : P s) : P (addTotals r s) :=
  sellProduct_closed h _ _ (h.pour _ _ hs)

theorem setWatchHold_closed (n : Nat) (on : Bool) (s : State) (hs : P s) : P (setWatchHold n on s) :=
  changeHolds_closed h.cleaning _ _ _ hs

theorem applyHold_closed (target : WatchTarget) (s : State) (hs : P s) : P (applyHold target s) := by
  unfold applyHold
  split
  · exact h.pour _ _ hs
  · exact setWatchHold_closed h _ _ _ hs
  · exact h.pour _ _ hs
  · exact foldl_closed (fun s n hs => setWatchHold_closed h n true s hs) _ _ hs

theorem releaseLines_closed (s : State) (hs : P s) : P (releaseLines s) := by
  refine foldl_closed (fun s n hs => ?_) _ _ hs
  split
  · exact hs
  · exact setWatchHold_closed h _ _ _ hs

theorem withdrawHold_closed (target : WatchTarget) (s : State) (hs : P s) : P (withdrawHold target s) := by
  unfold withdrawHold
  split
  · split
    · exact hs
    · exact h.pour _ _ hs
  · exact releaseLines_closed h _ hs
  · exact hs
  · exact releaseLines_closed h _ hs

theorem replaceWatch_closed (w : Nat) (e : Watch) (s : State) (hs : P s) : P (replaceWatch w e s) := by
  unfold replaceWatch
  refine h.watch _ _ _ ?_
  split
  · exact withdrawHold_closed h _ _ (h.watch _ _ _ hs)
  · exact h.watch _ _ _ hs

theorem tripWatch_closed (w : Nat) (seq : Option Nat) (s : State) (hs : P s) : P (tripWatch w seq s) := by
  unfold tripWatch
  have h1 := h.post _ (.watch w) .watchTripped (h.record _ (.watch w (s.watch w).target (s.watch w).condition
    (s.watch w).threshold seq) (h.watch s w { s.watch w with state := .tripped, count := 1 } hs))
  simp only []
  split
  · exact applyHold_closed h _ _ h1
  · exact h1

theorem visitWatch_closed (r : PourRecord) (seq : Option Nat) (w : Nat) (s : State) (hs : P s) :
    P (visitWatch r seq w s) := by
  unfold visitWatch
  simp only []
  split
  · split
    · exact hs
    · exact tripWatch_closed h _ _ _ hs
    · exact h.watch _ _ _ hs
  · exact hs

theorem takePour_closed (r : PourRecord) (s : State) (hs : P s) : P (takePour r s) := by
  unfold takePour evaluateWatches
  refine foldl_closed (fun s w hs => visitWatch_closed h _ _ w s hs) _ _ (addTotals_closed h _ _ ?_)
  split
  · exact h.record _ _ hs
  · exact h.pour _ _ (h.record _ _ hs)

/-! #### Items, stops and routes -/

theorem queueItem_closed (t : Nat) (i : Item) (s : State) (hs : P s) : P (queueItem t i s) := h.bus _ _ hs

theorem dropStop_closed (t k : Nat) (s : State) (hs : P s) : P (dropStop t k s) := h.bus _ _ hs

theorem stopTap_closed (n t : Nat) (s : State) (hs : P s) : P (stopTap n t s) := by
  unfold stopTap
  split
  · exact hs
  · split
    · exact hs
    · exact queueItem_closed h _ _ _ (h.pour _ _ hs)

theorem stopLine_closed (n : Nat) (s : State) (hs : P s) : P (stopLine n s) :=
  foldl_closed (fun s t hs => stopTap_closed h n t s hs) _ _ hs

theorem reportLineChange_closed (o n : Option Nat) (s : State) (hs : P s) : P (reportLineChange o n s) := by
  refine ite_closed hs ?_
  cases o <;> cases n <;> simp only []
  · exact hs
  · exact evalDrain_closed h.cleaning _ _ hs
  · exact evalDrain_closed h.cleaning _ _ hs
  · exact evalDrain_closed h.cleaning _ _ (evalDrain_closed h.cleaning _ _ hs)

theorem copyRoute_closed (t : Nat) (r : Route) (s : State) (hs : P s) : P (copyRoute t r s) :=
  reportLineChange_closed h _ _ _ (h.pour _ _ hs)

theorem applyDeferred_closed (t : Nat) (s : State) (hs : P s) : P (applyDeferred t s) := by
  unfold applyDeferred
  split
  · exact hs
  · simp only []
    split
    · exact copyRoute_closed h _ _ _ (h.pour _ _ hs)
    · exact copyRoute_closed h _ _ _ (h.pour _ _ hs)

theorem resolveRoute_closed (t : Nat) (s : State) (hs : P s) : P (resolveRoute t s) :=
  copyRoute_closed h _ _ _ (h.pour _ _ hs)

theorem idleTap_closed (t k : Nat) (s : State) (hs : P s) : P (idleTap t k s) :=
  applyDeferred_closed h _ _ (h.pour _ _ (dropStop_closed h _ _ _ hs))

theorem reportLockout_closed (t : Nat) (on : Bool) (s : State) (hs : P s) : P (reportLockout t on s) := by
  have h1 : P (s.modTap t fun r => { r with lockout := on }) := h.pour _ _ hs
  refine ite_closed hs (ite_closed (resolveRoute_closed h _ _ ?_) ?_)
  all_goals
    split
    · exact h1
    · exact ite_closed (evalDrain_closed h.cleaning _ _ h1)
        (lockoutFault_closed h.cleaning _ _ (evalDrain_closed h.cleaning _ _ h1))

theorem reportRunning_closed (t k : Nat) (s : State) (hs : P s) : P (reportRunning t k s) := by
  unfold reportRunning
  split
  · exact hs
  · exact h.pour _ _ hs

/-! #### Lines and kegs -/

theorem checkPrime_closed (n : Nat) (s : State) (hs : P s) : P (checkPrime n s) := by
  unfold checkPrime
  simp only []
  split
  · exact moveLine_closed h.cleaning _ _ _ hs
  · exact hs

theorem recomputeStock_closed (n : Nat) (s : State) (hs : P s) : P (recomputeStock n s) := by
  unfold recomputeStock
  simp only []
  split
  · exact hs
  · exact h.post _ _ _ (h.cellar _ _ hs)

theorem clearFoam_closed (n : Nat) (s : State) (hs : P s) : P (clearFoam n s) := by
  unfold clearFoam
  simp only []
  split
  · exact h.post _ _ _ (h.cellar _ _ hs)
  · exact h.cellar _ _ hs

theorem decideKegHold_closed (n : Nat) (s : State) (hs : P s) : P (decideKegHold n s) := by
  unfold decideKegHold
  simp only []
  split
  · exact hs
  · split
    · exact changeHolds_closed h.cleaning _ _ _ hs
    · exact hs

theorem runDry_closed (n : Nat) (s : State) (hs : P s) : P (runDry n s) := by
  unfold runDry
  split
  · exact stopLine_closed h _ _ (moveLine_closed h.cleaning _ _ _ hs)
  · exact hs

theorem retireHead_closed (n : Nat) (c : KegCause) (s : State) (hs : P s) : P (retireHead n c s) := by
  unfold retireHead
  split
  · exact hs
  · exact runDry_closed h _ _ (h.post _ _ _ (recomputeStock_closed h _ _ (decideKegHold_closed h _ _
      (h.cellar _ _ (clearFoam_closed h _ _ (h.cellar _ _ (h.record _ _ hs)))))))

theorem addKeg_closed (n : Nat) (k : Keg) (s : State) (hs : P s) : P (addKeg n k s) := by
  have h1 : P (s.modLine n fun l => { l with chain := l.chain ++ [k] }) := h.cellar _ _ hs
  have h2 := ite_closed (c := (s.line n).chain.isEmpty = true) (decideKegHold_closed h n _ h1) h1
  exact h.post _ _ _ (recomputeStock_closed h _ _ (ite_closed (moveLine_closed h.cleaning _ _ _ h2) h2))

theorem cellarPulse_closed (n : Nat) (s : State) (hs : P s) : P (cellarPulse n s) := by
  unfold cellarPulse
  simp only []
  split
  · exact hs
  · split
    · exact hs
    · exact recomputeStock_closed h _ _ (checkPrime_closed h _ _ (h.cellar _ _ hs))

theorem detectorTrip_closed (n : Nat) (s : State) (hs : P s) : P (detectorTrip n s) := by
  unfold detectorTrip
  simp only []
  split
  · exact retireHead_closed h _ _ _ (h.cellar _ _ hs)
  · exact h.cellar _ _ hs

theorem detectorFull_closed (n : Nat) (s : State) (hs : P s) : P (detectorFull n s) := h.cellar _ _ hs

theorem countFoam_closed (n : Nat) (f : Bool) (s : State) (hs : P s) : P (countFoam n f s) := by
  unfold countFoam
  split
  · exact clearFoam_closed h _ _ hs
  · simp only []
    split
    · exact h.post _ _ _ (h.cellar _ _ hs)
    · exact h.cellar _ _ hs

theorem decideTempHold_closed (n : Nat) (v : Option Int) (s : State) (hs : P s) : P (decideTempHold n v s) := by
  unfold decideTempHold
  split
  · exact hs
  · split
    · exact changeHolds_closed h.cleaning _ _ _ hs
    · exact hs

theorem checkDueVolume_closed (n : Nat) (s : State) (hs : P s) : P (checkDueVolume n s) := by
  unfold checkDueVolume
  simp only []
  split
  · exact hs
  · have h1 : P (if (decide ((s.line n).config.softVolume ≠ 0) && decide ((s.line n).config.softVolume ≤
        (s.line n).volumeSinceClean) && !(s.line n).softVolumeNoted) then
          post (.line n) .lineDue (s.setLine n { s.line n with softVolumeNoted := true }) else s) := by
      split
      · exact h.post _ _ _ (h.cellar _ _ hs)
      · exact hs
    split
    · exact changeHolds_closed h.cleaning _ _ _ h1
    · exact h1

theorem checkDueAge_closed (n : Nat) (s : State) (hs : P s) : P (checkDueAge n s) := by
  unfold checkDueAge
  simp only []
  split
  · exact hs
  · split
    · exact hs
    · rename_i t _ _
      have h1 : P (if (decide ((s.line n).config.softAge * 3600 ≤ s.store.clock - t) && !(s.line n).softAgeNoted) then
          post (.line n) .lineDue (s.setLine n { s.line n with softAgeNoted := true }) else s) := by
        split
        · exact h.post _ _ _ (h.cellar _ _ hs)
        · exact hs
      split
      · exact changeHolds_closed h.cleaning _ _ _ h1
      · exact h1

theorem pourLeft_closed (n : Nat) (s : State) (hs : P s) : P (pourLeft n s) := h.cellar _ _ hs

theorem applyPour_closed (n v : Nat) (f l : Bool) (x : Option Int) (s : State) (hs : P s) : P (applyPour n v f l x s) := by
  unfold applyPour
  refine evalDrain_closed h.cleaning _ _ (checkDueVolume_closed h _ _ (pourLeft_closed h _ _ (decideTempHold_closed h _ _ _ ?_)))
  split
  · exact h.cellar _ _ hs
  · exact countFoam_closed h _ _ _ (h.cellar _ _ hs)

/-! #### Pours -/

theorem grant_closed (t n z : Nat) (s : State) (hs : P s) : P (grant t n z s) :=
  queueItem_closed h _ _ _ (h.cellar _ _ (h.pour _ _ hs))

theorem ask_closed (t z : Nat) (s : State) (hs : P s) : P (ask t z s) := by
  unfold ask
  split
  · exact queueItem_closed h _ _ _ hs
  · split
    · exact grant_closed h _ _ _ _ hs
    · exact hs

theorem zeroEnd_closed (t : Nat) (r : InFlight) (s : State) (hs : P s) : P (zeroEnd t r s) :=
  idleTap_closed h _ _ _ (evalDrain_closed h.cleaning _ _ (pourLeft_closed h _ _ hs))

theorem measuredEnd_closed (t : Nat) (r : InFlight) (e : PourEnd) (s : State) (hs : P s) : P (measuredEnd t r e s) := by
  unfold measuredEnd
  refine idleTap_closed h _ _ _ ?_
  have h1 := fun f l x v => applyPour_closed h r.line v f l x s hs
  have h2 := fun q f l x v => takePour_closed h q _ (h1 f l x v)
  split
  · refine h.pour _ _ ?_
    split
    · exact h.warm _ _ (h2 _ _ _ _ _)
    · exact h2 _ _ _ _ _
  · split
    · exact h.warm _ _ (h2 _ _ _ _ _)
    · exact h2 _ _ _ _ _

theorem endPour_closed (t : Nat) (r : InFlight) (e : PourEnd) (s : State) (hs : P s) : P (endPour t r e s) := by
  unfold endPour
  split
  · exact zeroEnd_closed h _ _ _ hs
  · exact measuredEnd_closed h _ _ _ _ hs

theorem finishPour_closed (t k p f : Nat) (x : Option Int) (c : EndCause) (s : State) (hs : P s) :
    P (finishPour t k p f x c s) := by
  unfold finishPour
  split
  · exact hs
  · split
    · exact hs
    · exact endPour_closed h _ _ _ _ hs

theorem closeLost_closed (t : Nat) (s : State) (hs : P s) : P (closeLost t s) := by
  unfold closeLost
  split
  · exact hs
  · split
    · exact endPour_closed h _ _ _ _ hs
    · exact hs

/-! #### The tap bus -/

theorem recomputeThreshold_closed (a : Nat) (s : State) (hs : P s) : P (recomputeThreshold a s) := by
  unfold recomputeThreshold
  split
  · exact hs
  · split
    · exact hs
    · exact h.bus _ _ hs

theorem startPoll_closed (a : Nat) (s : State) (hs : P s) : P (startPoll a s) := h.bus _ _ (h.bus _ _ hs)

theorem startRound_closed (s : State) (hs : P s) : P (startRound s) := by
  unfold startRound
  split
  · exact startPoll_closed h _ _ hs
  · exact h.bus _ _ hs

theorem endRound_closed (s : State) (hs : P s) : P (endRound s) := startRound_closed h _ (h.bus _ _ hs)

theorem nextPoll_closed (a : Nat) (s : State) (hs : P s) : P (nextPoll a s) := by
  unfold nextPoll
  simp only []
  split
  · exact startPoll_closed h _ _ (h.bus _ _ hs)
  · exact endRound_closed h _ (h.bus _ _ hs)

theorem orphanTaps_closed (a k : Nat) (s : State) (hs : P s) : P (orphanTaps a k s) := by
  refine foldl_closed (fun s i hs => ?_) _ _ hs
  split
  · exact h.pour _ _ hs
  · exact hs

theorem loseNode_closed (a : Nat) (s : State) (hs : P s) : P (loseNode a s) :=
  h.post _ _ _ (orphanTaps_closed h _ _ _ (h.bus _ _ hs))

theorem countMiss_closed (a : Nat) (s : State) (hs : P s) : P (countMiss a s) := by
  unfold countMiss
  simp only []
  split
  · exact hs
  · split
    · exact h.bus _ _ hs
    · exact loseNode_closed h _ _ hs

theorem missExchange_closed (s : State) (hs : P s) : P (missExchange s) := by
  unfold missExchange
  split
  · exact nextPoll_closed h _ _ (countMiss_closed h _ _ (h.bus _ _ hs))
  · exact hs
  · exact hs

theorem findNode_closed (a : Nat) (s : State) (hs : P s) : P (findNode a s) := by
  unfold findNode
  split
  · exact hs
  · exact h.post _ _ _ (h.bus _ _ hs)

theorem confirmPoll_closed (p : Poll) (s : State) (hs : P s) : P (confirmPoll p s) := h.bus _ _ hs

theorem takeTapCount_closed (a k : Nat) (s : State) (hs : P s) : P (takeTapCount a k s) := by
  unfold takeTapCount
  split
  · exact h.bus _ _ hs
  · rename_i old _
    have h1 : P (s.modNode a fun n => { n with tapCount := some k }) := h.bus _ _ hs
    have h2 : P (if k < old then
        orphanTaps a k ((s.modNode a fun n => { n with tapCount := some k }).modNode a fun n =>
          { n with items := n.items.filter fun q => q.item.loc < k })
        else s.modNode a fun n => { n with tapCount := some k }) := by
      split
      · exact orphanTaps_closed h _ _ _ (h.bus _ _ h1)
      · exact h1
    simp only []
    split
    · exact h2
    · exact h.post _ _ _ h2

theorem takeStatus_closed (t : Nat) (st : TapStatus) (s : State) (hs : P s) : P (takeStatus t st s) := by
  unfold takeStatus
  simp only []
  split
  · exact reportRunning_closed h _ _ _ (reportLockout_closed h _ _ _ hs)
  · exact reportLockout_closed h _ _ _ hs

theorem takeStatuses_closed (a : Nat) (l : List TapStatus) : ∀ (i : Nat) (s : State), P s → P (takeStatuses a i l s) := by
  induction l with
  | nil => exact fun _ _ hs => hs
  | cons st rest ih => exact fun i s hs => ih _ _ (takeStatus_closed h _ _ _ hs)

theorem passEvent_closed (t : Nat) (e : EventBody) (s : State) (hs : P s) : P (passEvent t e s) := by
  cases e with
  | ask z => exact ask_closed h _ _ _ hs
  | done k p f x c => exact finishPour_closed h _ _ _ _ _ _ _ hs

theorem takeEvent_closed (a : Nat) (e : Event) (s : State) (hs : P s) : P (takeEvent a e s) := by
  unfold takeEvent
  split
  · exact passEvent_closed h _ _ _ (h.bus _ _ hs)
  · exact hs

theorem closeSilent_closed (a : Nat) (l : List TapStatus) : ∀ (i : Nat) (s : State), P s → P (closeSilent a i l s) := by
  induction l with
  | nil => exact fun _ _ hs => hs
  | cons st rest ih =>
    intro i s hs
    refine ih _ _ ?_
    unfold closeIfSilent
    split
    · exact closeLost_closed h _ _ hs
    · exact hs

theorem handleReply_closed (p : Poll) (r : BusReply) (s : State) (hs : P s) : P (handleReply p r s) := by
  unfold handleReply
  have h1 := foldl_closed (fun s e hs => takeEvent_closed h p.address e s hs) r.events _ (takeStatuses_closed h p.address r.taps 0 _
    (takeTapCount_closed h p.address r.taps.length _ (confirmPoll_closed h p _ (findNode_closed h p.address _
      (h.bus s (s.modNode p.address fun n => { n with misses := 0 }).bus hs)))))
  simp only []
  split
  · exact closeSilent_closed h _ _ _ _ h1
  · exact h1

theorem receiveReply_closed (b : List Byte) (s : State) (hs : P s) : P (receiveReply b s) := by
  unfold receiveReply
  split
  · exact hs
  · exact hs
  · split
    · exact missExchange_closed h _ hs
    · split
      · exact nextPoll_closed h _ _ (handleReply_closed h _ _ _ hs)
      · split
        · exact h.bus _ _ hs
        · exact missExchange_closed h _ hs

theorem emptyRoundEnds_closed (s : State) (hs : P s) : P (emptyRoundEnds s) := by
  unfold emptyRoundEnds
  split
  · exact endRound_closed h _ (h.bus _ _ hs)
  · exact hs
  · exact hs

theorem abandonExchange_closed (a : Nat) (s : State) (hs : P s) : P (abandonExchange a s) :=
  ite_closed (h.bus _ _ (nextPoll_closed h a s hs)) hs

theorem dropNode_closed (a : Nat) (s : State) (hs : P s) : P (dropNode a s) :=
  abandonExchange_closed h _ _ (ite_closed (h.bus _ _ hs) (h.post _ _ _ (h.bus _ _ hs)))

end plant

end Sys2Proof.Machine
end

