-- ==== Sys2Proof/Laws/Link.lean ====
section
/-! SUPPORT. The Host Link Interface's shared operations: what an event leaves, what the transmitter chooses, and what a request
that takes the slot leaves. -/

namespace Sys2Proof.Machine

open Sys2Proof Sys2Proof.Safety

/-- A part that takes events handles the event, and a free transmitter then chooses. -/
theorem event_of_takes {f : State → State} {s : State} (h : s.takesEvents = true) : event f s = transmit (f s) := by
  simp [event, h]

/-- A stopped part takes no event. -/
theorem event_of_stopped {f : State → State} {s : State} (h : s.takesEvents = false) : event f s = s := by
  simp [event, h]

/-- The transmitter changes the link alone. -/
theorem transmit_eq_setLink (s : State) : ∃ l, transmit s = s.setLink l := by
  unfold transmit sendNotice
  repeat' split
  all_goals exact ⟨_, rfl⟩

/-- A busy transmitter goes on. -/
theorem transmit_of_busy {s : State} (h : s.link.tx ≠ .idle) : transmit s = s := by
  simp [transmit, h]

/-- A free transmitter begins the slot's reply. -/
theorem transmit_of_slot {s : State} (h : s.link.slot.isSome = true) :
    transmit s = s.setLink { s.link with tx := if s.link.tx = .idle then .reply else s.link.tx } := by
  unfold transmit
  split
  · simp
  · rfl

@[simp] theorem huntAgain_eq_hunting (s : State) : huntAgain s = hunting s := rfl

@[simp] theorem hunting_cellar (s : State) : (hunting s).cellar = s.cellar := rfl
@[simp] theorem hunting_pour (s : State) : (hunting s).pour = s.pour := rfl
@[simp] theorem hunting_bus (s : State) : (hunting s).bus = s.bus := rfl
@[simp] theorem hunting_acct (s : State) : (hunting s).acct = s.acct := rfl
@[simp] theorem hunting_cool (s : State) : (hunting s).cool = s.cool := rfl
@[simp] theorem hunting_clean (s : State) : (hunting s).clean = s.clean := rfl
@[simp] theorem hunting_store (s : State) : (hunting s).store = s.store := rfl
@[simp] theorem hunting_pins (s : State) : (hunting s).pins = s.pins := rfl
@[simp] theorem hunting_pending (s : State) : (hunting s).pending = s.pending := rfl
@[simp] theorem hunting_line (s : State) (n : Nat) : (hunting s).line n = s.line n := rfl
@[simp] theorem hunting_tap (s : State) (n : Nat) : (hunting s).tap n = s.tap n := rfl
@[simp] theorem hunting_node (s : State) (n : Nat) : (hunting s).node n = s.node n := rfl
@[simp] theorem hunting_trunk (s : State) (n : Nat) : (hunting s).trunk n = s.trunk n := rfl
@[simp] theorem hunting_stage (s : State) (n : Nat) : (hunting s).stage n = s.stage n := rfl
@[simp] theorem hunting_circuit (s : State) (c : Circuit) : (hunting s).circuit c = s.circuit c := rfl
@[simp] theorem hunting_watch (s : State) (n : Nat) : (hunting s).watch n = s.watch n := rfl
@[simp] theorem hunting_programSlot (s : State) (n : Nat) : (hunting s).programSlot n = s.programSlot n := rfl

/-! ### The receiver (R173) -/

@[simp] theorem discardFrame_eq_discarding (s : State) : discardFrame s = discarding s := rfl

/-- A pause or a framing error: nothing while hunting, otherwise the frame in progress is discarded. -/
theorem breakFrame_eq (s : State) : breakFrame s = if s.link.receiver = .hunting then s else discarding s := rfl

/-- A whole frame with a body above 240 bytes is discarded for its length. -/
theorem receiveWhole_of_long {body : List Byte} (h : 240 < body.length) (kind tag : Byte) (s : State) :
    receiveWhole kind tag body s = discarding s := if_pos h

/-- A whole frame with a body of at most 240 bytes is received. -/
theorem receiveWhole_of_fits {body : List Byte} (h : body.length ≤ 240) (kind tag : Byte) (s : State) :
    receiveWhole kind tag body s = receiveFrame kind tag (dispatchFrame kind tag body) s :=
  if_neg (Nat.not_lt.mpr h)

theorem receiveBytes_append (xs ys : List Byte) (s : State) :
    receiveBytes (xs ++ ys) s = receiveBytes ys (receiveBytes xs s) := List.foldl_append

/-- The length field read whole: outside 2–242 the frame is discarded, otherwise its bytes follow. -/
theorem receiveBytes_length {s : State} (h : s.link.receiver = .readingLength none) (hi lo : Byte) :
    receiveBytes [hi, lo] s
      = if hi.toNat * 256 + lo.toNat < 2 ∨ 242 < hi.toNat * 256 + lo.toNat then discarding s
        else s.setReceiver (.readingFrame (hi.toNat * 256 + lo.toNat) []) := by
  simp only [receiveBytes, List.foldl, receiveByte, h, State.setReceiver_receiver, Bool.or_eq_true, decide_eq_true_eq]
  rfl

/-- Bytes that do not complete the frame in progress join it. -/
theorem receiveBytes_short (length : Nat) : ∀ (bytes got : List Byte) (s : State),
    s.link.receiver = .readingFrame length got → got.length + bytes.length < length + 2 →
      receiveBytes bytes s = s.setReceiver (.readingFrame length (got ++ bytes))
  | [], got, s, h, _ => by rw [List.append_nil, ← h]; rfl
  | b :: rest, got, s, h, hl => by
    have hb : receiveByte b s = s.setReceiver (.readingFrame length (got ++ [b])) := by
      simp only [receiveByte, h]
      rw [if_pos (by simp only [List.length_cons] at hl; omega)]
    have ht := receiveBytes_short length rest (got ++ [b]) (s.setReceiver (.readingFrame length (got ++ [b])))
      (by simp) (by simp only [List.length_cons, List.length_append, List.length_nil] at hl ⊢; omega)
    rw [show receiveBytes (b :: rest) s = receiveBytes rest (receiveByte b s) from rfl, hb, ht]
    simp

/-- The byte that completes the frame in progress: the frame is read. -/
theorem receiveByte_completes {s : State} {length : Nat} {got : List Byte} (h : s.link.receiver = .readingFrame length got)
    (hl : length + 2 ≤ got.length + 1) (b : Byte) : receiveByte b s = frameRead length (got ++ [b]) s := by
  simp only [receiveByte, h]
  rw [if_neg (by omega)]

/-- The bytes that complete the frame in progress, the last of them reading it whole. -/
theorem receiveBytes_completes {s : State} {length : Nat} {got bytes : List Byte}
    (h : s.link.receiver = .readingFrame length got) (hn : bytes ≠ []) (hl : got.length + bytes.length = length + 2) :
    ∃ r, receiveBytes bytes s = frameRead length (got ++ bytes) (s.setReceiver r) := by
  obtain ⟨front, b, rfl⟩ : ∃ front b, bytes = front ++ [b] := ⟨_, _, (List.dropLast_concat_getLast hn).symm⟩
  rw [List.length_append, List.length_singleton] at hl
  refine ⟨.readingFrame length (got ++ front), ?_⟩
  rw [receiveBytes_append, receiveBytes_short length front got s h (by omega), ← List.append_assoc]
  exact receiveByte_completes (s := s.setReceiver _) (length := length) (got := got ++ front) rfl (by rw [List.length_append]; omega) b

/-- What a whole frame of at most 240 body bytes does has nothing to do with where the receiver stands. -/
theorem receiveWhole_setReceiver {body : List Byte} (h : body.length ≤ 240) (kind tag : Byte) (r : Receiver) (s : State) :
    receiveWhole kind tag body (s.setReceiver r) = receiveWhole kind tag body s := by
  rw [receiveWhole_of_fits h, receiveWhole_of_fits h]
  rfl

/-- A frame that takes the slot of a part that takes events leaves its owner's decision and the reply. -/
theorem receiveFrame_of_ready {s : State} (h : Ready s) (kind tag : Byte) (f : State → Decision) :
    event (receiveFrame kind tag f) s
      = withReplyTo kind tag (f (hunting s)).status (f (hunting s)).body (f (hunting s)).start
          (countFurther s.acct.window.isOpen (f (hunting s)).status (f (hunting s)).state) := by
  rw [event_of_takes h.1]
  have h1 : receiveFrame kind tag f s = answer kind tag f (hunting s) := by simp [receiveFrame, h.2]
  rw [h1, transmit_of_slot (by simp [answer])]
  rfl

/-- A request that takes the slot. -/
theorem request_of_ready {s : State} (h : Ready s) (k : RequestKind) (tag : Byte) (f : State → Decision) :
    request k tag f s
      = withReply k tag (f (hunting s)).status (f (hunting s)).body (f (hunting s)).start
          (countFurther s.acct.window.isOpen (f (hunting s)).status (f (hunting s)).state) :=
  receiveFrame_of_ready h _ _ _

/-- The count of a request answered with a status other than BUSY, where the window is as it was (R122). -/
theorem countFurther_eq_counted {s e : State} {st : Status} (hb : st ≠ .busy) (hw : e.acct.window = s.acct.window) :
    countFurther s.acct.window.isOpen st e = counted e := by
  unfold countFurther counted countedWindow
  rw [hw]
  cases ho : s.acct.window.isOpen
  · simp only [Bool.false_and, Bool.false_eq_true, if_false, ← hw]
  · have hz : s.acct.window.remaining - 1 = 0 ↔ s.acct.window.remaining ≤ 1 := by omega
    simp [hb, hz, ho]

/-- A request answered with a status other than BUSY, where its effect leaves the window: the reply and the count. -/
theorem request_replied {s : State} (h : Ready s) (k : RequestKind) (tag : Byte) (f : State → Decision)
    (hb : (f (hunting s)).status ≠ .busy) (hw : (f (hunting s)).state.acct.window = s.acct.window)
    (hs : (f (hunting s)).start = none) :
    request k tag f s = replied k tag (f (hunting s)).status (f (hunting s)).body (f (hunting s)).state := by
  rw [request_of_ready h, countFurther_eq_counted hb hw, hs]
  rfl

/-- A refusal with a status other than BUSY. -/
theorem request_refused {s : State} (h : Ready s) (k : RequestKind) (tag : Byte) (f : State → Decision) (st : Status)
    (hb : st ≠ .busy) (hf : f (hunting s) = refuse st (hunting s)) :
    request k tag f s = refused k tag st (hunting s) := by
  rw [request_replied h k tag f (by rw [hf]; exact hb) (by rw [hf]; rfl) (by rw [hf]; rfl), hf]
  rfl

/-- An acceptance whose effect leaves the window. -/
theorem request_accepted {s : State} (h : Ready s) (k : RequestKind) (tag : Byte) (f : State → Decision) (body : ReplyBody)
    (e : State) (hf : f (hunting s) = acceptWith body e) (hw : e.acct.window = s.acct.window) :
    request k tag f s = replied k tag .ok body e := by
  rw [request_replied h k tag f (by rw [hf]; simp [acceptWith]) (by rw [hf]; exact hw) (by rw [hf]; rfl), hf]
  rfl

end Sys2Proof.Machine
end

