-- ==== Sys2Proof/Laws/Lines.lean ====
section
/-! SUPPORT. The Line Manager's shared operations: each changes its one line and the pending notices, and the line it leaves. -/

namespace Sys2Proof.Machine

open Sys2Proof Sys2Proof.Safety

/-! ### Changing one line -/

theorem lineEvent_refl (n : Nat) (s : State) : LineEvent n s s :=
  ⟨fun _ _ => rfl, rfl, rfl, rfl, rfl, rfl, rfl, rfl, rfl⟩

theorem lineEvent_trans {n : Nat} {s t u : State} (h : LineEvent n s t) (k : LineEvent n t u) : LineEvent n s u := by
  obtain ⟨h1, h2, h3, h4, h5, h6, h7, h8, h9⟩ := h
  obtain ⟨k1, k2, k3, k4, k5, k6, k7, k8, k9⟩ := k
  refine ⟨fun m hm => (k1 m hm).trans (h1 m hm), k2.trans h2, k3.trans h3, k4.trans h4, k5.trans h5, k6.trans h6, k7.trans h7,
    k8.trans h8, ?_⟩
  rw [k9, h9]

theorem onlyLine_refl (n : Nat) (s : State) : OnlyLine n s s := ⟨lineEvent_refl n s, rfl, rfl, rfl⟩

theorem onlyLine_trans {n : Nat} {s t u : State} (h : OnlyLine n s t) (k : OnlyLine n t u) : OnlyLine n s u :=
  ⟨lineEvent_trans h.1 k.1, k.2.1.trans h.2.1, k.2.2.1.trans h.2.2.1, k.2.2.2.trans h.2.2.2⟩

theorem setLine_onlyLine (n : Nat) (l : Line) (s : State) : OnlyLine n s (s.setLine n l) :=
  ⟨⟨fun m hm => State.line_setLine_ne s n m l (Ne.symm hm), rfl, rfl, rfl, rfl, rfl, rfl, rfl, rfl⟩, rfl, rfl, rfl⟩

theorem post_onlyLine (n : Nat) (k : NoticeKey) (c : NoticeCause) (s : State) : OnlyLine n s (post k c s) :=
  ⟨⟨fun _ _ => rfl, rfl, rfl, rfl, rfl, rfl, rfl, rfl, rfl⟩, rfl, rfl, rfl⟩

theorem onlyLine_set_post {n : Nat} {s : State} (l : Line) (k : NoticeKey) (c : NoticeCause) :
    OnlyLine n s (post k c (s.setLine n l)) := onlyLine_trans (setLine_onlyLine n l s) (post_onlyLine n k c _)

/-! ### Each operation -/

section operations

variable (n : Nat) (s : State)

theorem moveLine_onlyLine (st : ServiceState) : OnlyLine n s (moveLine n st s) := by
  unfold moveLine
  split
  · exact onlyLine_refl n s
  · exact onlyLine_set_post _ _ _

theorem moveLine_line (st : ServiceState) (h : n < 48) : (moveLine n st s).line n = { s.line n with state := st } := by
  unfold moveLine
  split
  · rename_i hs
    rw [← hs]
  · simp [State.modLine_eq, h]

theorem changeHolds_onlyLine (c : HoldSet) : OnlyLine n s (changeHolds n c s) := by
  unfold changeHolds
  split
  · exact onlyLine_refl n s
  · exact onlyLine_set_post _ _ _

theorem changeHolds_line (c : HoldSet) (h : n < 48) : (changeHolds n c s).line n = { s.line n with holds := c } := by
  unfold changeHolds
  split
  · rename_i hs
    rw [hs]
  · simp [State.modLine_eq, h]

theorem recomputeStock_onlyLine : OnlyLine n s (recomputeStock n s) := by
  unfold recomputeStock
  simp only []
  split
  · exact onlyLine_refl n s
  · exact onlyLine_set_post _ _ _

theorem recomputeStock_line (h : n < 48) : (recomputeStock n s).line n
    = { s.line n with stock := if (s.line n).state = .offline then (s.line n).stock else stockLevelOf (s.line n) } := by
  unfold recomputeStock
  by_cases h1 : (s.line n).state = .offline
  · simp only [h1, decide_true, Bool.true_or, if_true]
    rw [← h1]
  · by_cases h2 : stockLevelOf (s.line n) = (s.line n).stock
    · simp [h1, h2]
    · simp [h1, h2, h]

theorem clearFoam_onlyLine : OnlyLine n s (clearFoam n s) := by
  unfold clearFoam
  simp only []
  split
  · exact onlyLine_set_post _ _ _
  · exact setLine_onlyLine _ _ _

theorem clearFoam_line (h : n < 48) : (clearFoam n s).line n = { s.line n with foamCount := 0, foamAlert := false } := by
  unfold clearFoam
  simp only []
  split <;> simp [h]

theorem decideKegHold_onlyLine : OnlyLine n s (decideKegHold n s) := by
  unfold decideKegHold
  simp only []
  split
  · exact onlyLine_refl n s
  · split
    · exact changeHolds_onlyLine n s _
    · exact onlyLine_refl n s

theorem decideKegHold_line (h : n < 48) : (decideKegHold n s).line n
    = { s.line n with holds := { (s.line n).holds with
        keg := (s.line n).holds.keg || (match (s.line n).chain with
          | [] => false
          | k :: _ => k.holdAfterSwitch || decide (k.product ≠ (s.line n).config.product)) } } := by
  unfold decideKegHold
  simp only []
  split
  · rename_i hc
    simp only [hc, Bool.or_false]
    rw [← hc]
  · rename_i k rest hc
    split
    · rename_i hk
      rw [changeHolds_line _ _ _ h]
      simp only [hc, hk, Bool.or_true]
    · rename_i hk
      simp only [Bool.not_eq_true] at hk
      simp only [hc, hk, Bool.or_false]
      rw [← hc]

theorem checkPrime_onlyLine : OnlyLine n s (checkPrime n s) := by
  unfold checkPrime
  simp only []
  split
  · exact moveLine_onlyLine n s _
  · exact onlyLine_refl n s

theorem checkPrime_line (h : n < 48) : (checkPrime n s).line n
    = { s.line n with state :=
        if (s.line n).state = .priming ∧ (s.line n).config.fillVolume + (s.line n).config.primeMargin ≤ (s.line n).primeProgress
        then .serving else (s.line n).state } := by
  unfold checkPrime
  by_cases hc : (s.line n).state = .priming ∧
      (s.line n).config.fillVolume + (s.line n).config.primeMargin ≤ (s.line n).primeProgress
  · simp only [hc.1, hc.2, decide_true, Bool.and_self, if_true, and_self]
    rw [moveLine_line _ _ _ h]
  · simp only [Bool.and_eq_true, decide_eq_true_eq, hc, if_false]

theorem modLine_onlyLine (f : Line → Line) : OnlyLine n s (s.modLine n f) := setLine_onlyLine _ _ _

theorem modLine_line (f : Line → Line) (h : n < 48) : (s.modLine n f).line n = f (s.line n) := by
  simp [State.modLine_eq, h]

/-- The level that a line's thresholds give its remaining stock. -/
theorem stockLevelOf_eq (l : Line) : stockLevelOf l = levelOf (remainingStock l) l.config.lowThreshold l.config.criticalThreshold :=
  rfl

theorem takeRecord_lineEvent (b : RecordBody) : LineEvent n s (takeRecord b s) := by
  unfold takeRecord storeRecord noteHigh noteFull
  repeat' split
  all_goals exact ⟨fun _ _ => rfl, rfl, rfl, rfl, rfl, rfl, rfl, rfl, rfl⟩

theorem takeRecord_pour (b : RecordBody) : (takeRecord b s).pour = s.pour := by
  unfold takeRecord storeRecord noteHigh noteFull
  repeat' split
  all_goals rfl

theorem takeRecord_bus (b : RecordBody) : (takeRecord b s).bus = s.bus := by
  unfold takeRecord storeRecord noteHigh noteFull
  repeat' split
  all_goals rfl

theorem takeRecord_cellar (b : RecordBody) : (takeRecord b s).cellar = s.cellar := by
  unfold takeRecord storeRecord noteHigh noteFull
  repeat' split
  all_goals rfl

end operations

end Sys2Proof.Machine
end

