-- ==== Sys2Proof/Laws/Notices.lean ====
section
/-! SUPPORT. The pending notices: what a posting leaves in the list, and what each shared operation of the Line Manager posts. -/

namespace Sys2Proof.Machine

open Sys2Proof Sys2Proof.Safety

/-! ### One posting (R181) -/

theorem mem_mergeNotice_self (k : NoticeKey) (c : NoticeCause) (l : List Notice) :
    { key := k, cause := c } ∈ mergeNotice k c l := by
  induction l with
  | nil => simp [mergeNotice]
  | cons n rest ih =>
    unfold mergeNotice
    split
    · simp
    · exact List.mem_cons_of_mem _ ih

theorem mem_mergeNotice_of_ne {k : NoticeKey} {c : NoticeCause} {l : List Notice} {x : Notice} (h : x.key ≠ k) :
    x ∈ mergeNotice k c l ↔ x ∈ l := by
  induction l with
  | nil => simpa [mergeNotice] using fun hx => h (by rw [hx])
  | cons n rest ih =>
    unfold mergeNotice
    split
    · rename_i hn
      have h1 : x ≠ { key := k, cause := c } := fun hx => h (by rw [hx])
      have h2 : x ≠ n := fun hx => h (by rw [hx, hn])
      simp [h1, h2]
    · simp [ih]

/-- Of two postings of one kind and subject the last cause stands. -/
theorem mergeNotice_mergeNotice (k : NoticeKey) (c d : NoticeCause) (l : List Notice) :
    mergeNotice k d (mergeNotice k c l) = mergeNotice k d l := by
  induction l with
  | nil => simp [mergeNotice]
  | cons n rest ih =>
    by_cases h : n.key = k
    · simp [mergeNotice, h]
    · simp [mergeNotice, h, ih]

/-! ### What each operation posts -/

section operations

variable (n : Nat) (s : State)

theorem moveLine_notices (st : ServiceState) : (moveLine n st s).link.notices
    = if (s.line n).state = st then s.link.notices else mergeNotice (.line n) .lineState s.link.notices := by
  unfold moveLine
  split <;> rfl

theorem changeHolds_notices (h : HoldSet) : (changeHolds n h s).link.notices
    = if h = (s.line n).holds then s.link.notices else mergeNotice (.line n) .lineHold s.link.notices := by
  unfold changeHolds
  split <;> rfl

theorem clearFoam_notices : (clearFoam n s).link.notices
    = if (s.line n).foamAlert = true then mergeNotice (.line n) .lineFoam s.link.notices else s.link.notices := by
  unfold clearFoam
  simp only []
  split <;> rfl

theorem recomputeStock_notices : (recomputeStock n s).link.notices
    = if (s.line n).state = .offline ∨ stockLevelOf (s.line n) = (s.line n).stock then s.link.notices
      else mergeNotice (.stock n) (stockCause (stockLevelOf (s.line n))) s.link.notices := by
  unfold recomputeStock
  simp only [Bool.or_eq_true, decide_eq_true_eq]
  split <;> rfl

theorem checkPrime_notices : (checkPrime n s).link.notices
    = if (s.line n).state = .priming ∧ (s.line n).config.fillVolume + (s.line n).config.primeMargin ≤ (s.line n).primeProgress
      then mergeNotice (.line n) .lineState s.link.notices else s.link.notices := by
  unfold checkPrime
  simp only [Bool.and_eq_true, decide_eq_true_eq]
  split
  · rename_i h
    rw [moveLine_notices, if_neg (by rw [h.1]; decide)]
  · rfl

/-- Where the keg at the head adds the KEG cause, and only there, HOLD is posted. -/
theorem decideKegHold_notices (h : n < 48) : (decideKegHold n s).link.notices
    = if ((decideKegHold n s).line n).holds = (s.line n).holds then s.link.notices
      else mergeNotice (.line n) .lineHold s.link.notices := by
  unfold decideKegHold
  simp only []
  split
  · simp
  · split
    · rw [changeHolds_notices, changeHolds_line _ _ _ h]
    · simp

/-- A record posts at most a JOURNAL notice. -/
theorem mem_takeRecord_notices {b : RecordBody} {x : Notice} (h : x.key ≠ .journal) :
    x ∈ (takeRecord b s).link.notices ↔ x ∈ s.link.notices := by
  unfold takeRecord storeRecord noteHigh noteFull
  repeat' split
  all_goals first
    | exact Iff.rfl
    | exact mem_mergeNotice_of_ne h

end operations

/-! ### Hold changes over several lines (R12) -/

/-- A change of one hold set posts LINE HOLD for its line where the set differs, and nothing else. -/
theorem changeHolds_notified (n : Nat) (h : HoldSet) (s : State) :
    HoldsNotified s (changeHolds n h s) ∧ NoticesOnly [.line n] s (changeHolds n h s) := by
  have only : NoticesOnly [.line n] s (changeHolds n h s) := fun x hx => by
    rw [changeHolds_notices]
    split
    · exact Iff.rfl
    · exact mem_mergeNotice_of_ne (by simpa using hx)
  refine ⟨fun m hm => ?_, only⟩
  by_cases hmn : m = n
  · subst hmn
    rw [changeHolds_line m s h hm, changeHolds_notices]
    refine ⟨fun hne => ?_, fun he x _ => ?_⟩
    · rw [if_neg hne]
      exact mem_mergeNotice_self _ _ _
    · rw [if_pos he]
  · rw [(changeHolds_onlyLine n s h).1.1 m hmn]
    exact ⟨fun hne => absurd rfl hne, fun _ x hx => only x (by rw [hx]; simpa using hmn)⟩

/-- A chain of hold changes over different lines posts LINE HOLD for each line whose set differs, and nothing else; every other line
stays. -/
theorem foldl_changeHolds_notified {f : State → Nat → State} (hf : ∀ s n, ∃ h, f s n = changeHolds n h s) {l : List Nat}
    (hl : l.Nodup) (s : State) :
    (∀ n, n ∉ l → (l.foldl f s).line n = s.line n) ∧ HoldsNotified s (l.foldl f s)
      ∧ NoticesOnly (l.map .line) s (l.foldl f s) := by
  induction l generalizing s with
  | nil => exact ⟨fun _ _ => rfl, fun _ _ => ⟨fun h => absurd rfl h, fun _ _ _ => Iff.rfl⟩, fun _ _ => Iff.rfl⟩
  | cons a rest ih =>
    obtain ⟨ha, hr⟩ := List.nodup_cons.mp hl
    obtain ⟨c, hc⟩ := hf s a
    obtain ⟨frame, holds, only⟩ := ih hr (f s a)
    obtain ⟨first, firstOnly⟩ := changeHolds_notified a c s
    rw [← hc] at first firstOnly
    have other : ∀ m, m ≠ a → (f s a).line m = s.line m := by
      rw [hc]
      exact (changeHolds_onlyLine a s c).1.1
    rw [List.foldl_cons]
    refine ⟨fun n hn => ?_, fun n hn => ?_, fun x hx => ?_⟩
    · simp only [List.mem_cons, not_or] at hn
      rw [frame n hn.2, other n hn.1]
    · by_cases hna : n = a
      · subst hna
        have kept : ∀ x : Notice, x.key = .line n → (x ∈ (rest.foldl f (f s n)).link.notices ↔ x ∈ (f s n).link.notices) :=
          fun x hx => only x (by rw [hx]; simpa using ha)
        rw [frame n ha]
        exact ⟨fun h => (kept _ rfl).mpr ((first n hn).1 h), fun h x hx => (kept x hx).trans ((first n hn).2 h x hx)⟩
      · have same := holds n hn
        rw [other n hna] at same
        exact ⟨same.1, fun h x hx => (same.2 h x hx).trans (firstOnly x (by rw [hx]; simpa using hna))⟩
    · simp only [List.map_cons, List.mem_cons, not_or] at hx
      exact (only x hx.2).trans (firstOnly x (by simpa using hx.1))

end Sys2Proof.Machine
end

