-- ==== Sys2Proof/Laws/PerInstr.lean ====
section
/-! SUPPORT. The family `BodyFits`: the body a host sends for a well-formed request has at most the 240 bytes of a frame (sections
9.1 and 11.2), one lemma per command. -/

namespace Sys2Proof.Laws

open Sys2Proof Sys2Proof.Machine

@[simp] theorem length_bytesOf (w x : Nat) : (bytesOf w x).length = w := by
  induction w with
  | zero => rfl
  | succ k ih => simp [bytesOf, ih]

@[simp] theorem length_field (w x : Nat) : (field w x).length = w := length_bytesOf w _

@[simp] theorem length_signedField (w : Nat) (x : Int) : (signedField w x).length = w := length_bytesOf w _

@[simp] theorem length_flagField (b : Bool) : (flagField b).length = 1 := rfl

@[simp] theorem length_sizeField (z : Size) : (sizeField z).length = 6 := by simp [sizeField]

@[simp] theorem length_sizesField (z : SizeSet) : (sizesField z).length = 24 := by simp [sizesField]

@[simp] theorem length_optionalField (w : Nat) (x : Option Nat) : (optionalField w x).length = w + 1 := by
  simp [optionalField]; omega

@[simp] theorem length_configField (c : LineConfig) : (configField c).length = 35 := by
  simp [configField, limitsField, cleaningDueField]

@[simp] theorem length_entryField (e : RouteEntry) : (entryField e).length = 3 := by simp [entryField]

@[simp] theorem length_stepField (e : StepEntry) : (stepField e).length = 10 := by simp [stepField]

/-- The body of a well-formed request fits a frame. -/
def BodyFits.Statement (i : Instr) : Prop := i.wf = true → ∀ k b, encodeRequest i = some (k, b) → b.length ≤ maxBody

theorem fits_of_length {i : Instr} {k : RequestKind} {b : List Byte} (h : encodeRequest i = some (k, b)) (hl : b.length ≤ maxBody) :
    BodyFits.Statement i := by
  intro _ k' b' e
  rw [h] at e
  cases e
  exact hl

theorem fits_of_none {i : Instr} (h : encodeRequest i = none) : BodyFits.Statement i := by
  intro _ k b e
  rw [h] at e
  cases e

theorem BodyFits.status : ∀ tag, BodyFits.Statement (.status tag) :=
  fun _ => fits_of_length rfl (by simp [maxBody])

theorem BodyFits.noticePace : ∀ tag pace, BodyFits.Statement (.noticePace tag pace) :=
  fun _ _ => fits_of_length rfl (by simp [maxBody])

theorem BodyFits.timeSet : ∀ tag reading, BodyFits.Statement (.timeSet tag reading) :=
  fun _ _ => fits_of_length rfl (by simp [maxBody])

theorem BodyFits.timeGet : ∀ tag, BodyFits.Statement (.timeGet tag) :=
  fun _ => fits_of_length rfl (by simp [maxBody])

theorem BodyFits.restart : ∀ tag, BodyFits.Statement (.restart tag) :=
  fun _ => fits_of_length rfl (by simp [maxBody])

theorem BodyFits.factoryClear : ∀ tag, BodyFits.Statement (.factoryClear tag) :=
  fun _ => fits_of_length rfl (by simp [maxBody])

theorem BodyFits.productRegister : ∀ tag code label, BodyFits.Statement (.productRegister tag code label) :=
  fun _ _ _ => fits_of_length rfl (by simp [maxBody])

theorem BodyFits.productRemove : ∀ tag code, BodyFits.Statement (.productRemove tag code) :=
  fun _ _ => fits_of_length rfl (by simp [maxBody])

theorem BodyFits.productRead : ∀ tag code, BodyFits.Statement (.productRead tag code) :=
  fun _ _ => fits_of_length rfl (by simp [maxBody])

theorem BodyFits.lineSet : ∀ tag line config, BodyFits.Statement (.lineSet tag line config) :=
  fun _ _ _ => fits_of_length rfl (by simp [maxBody])

theorem BodyFits.lineGet : ∀ tag line, BodyFits.Statement (.lineGet tag line) :=
  fun _ _ => fits_of_length rfl (by simp [maxBody])

theorem BodyFits.lineClear : ∀ tag line, BodyFits.Statement (.lineClear tag line) :=
  fun _ _ => fits_of_length rfl (by simp [maxBody])

theorem BodyFits.lineHoldApply : ∀ tag line stop, BodyFits.Statement (.lineHoldApply tag line stop) :=
  fun _ _ _ => fits_of_length rfl (by simp [maxBody])

theorem BodyFits.lineHoldRelease : ∀ tag line causes, BodyFits.Statement (.lineHoldRelease tag line causes) :=
  fun _ _ _ => fits_of_length rfl (by simp [maxBody])

theorem BodyFits.kegAdd : ∀ tag line kegId product nominal holdAfterSwitch, BodyFits.Statement (.kegAdd tag line kegId product nominal holdAfterSwitch) :=
  fun _ _ _ _ _ _ => fits_of_length rfl (by simp [maxBody])

theorem BodyFits.kegRemove : ∀ tag line kegId, BodyFits.Statement (.kegRemove tag line kegId) :=
  fun _ _ _ => fits_of_length rfl (by simp [maxBody])

theorem BodyFits.kegSwitch : ∀ tag line, BodyFits.Statement (.kegSwitch tag line) :=
  fun _ _ => fits_of_length rfl (by simp [maxBody])

theorem BodyFits.kegList : ∀ tag line, BodyFits.Statement (.kegList tag line) :=
  fun _ _ => fits_of_length rfl (by simp [maxBody])

theorem BodyFits.tapSetAssign : ∀ tag tap bar, BodyFits.Statement (.tapSetAssign tag tap bar) :=
  fun _ _ _ => fits_of_length rfl (by simp [maxBody])

theorem BodyFits.tapSetUnassign : ∀ tag tap bar, BodyFits.Statement (.tapSetUnassign tag tap bar) :=
  fun _ _ _ => fits_of_length rfl (by simp [maxBody])

theorem BodyFits.tapSetCloseOrphan : ∀ tag tap bar, BodyFits.Statement (.tapSetCloseOrphan tag tap bar) :=
  fun _ _ _ => fits_of_length rfl (by simp [maxBody])

theorem BodyFits.tapGet : ∀ tag tap, BodyFits.Statement (.tapGet tag tap) :=
  fun _ _ => fits_of_length rfl (by simp [maxBody])

theorem BodyFits.sizeSetWrite : ∀ tag set sizes, BodyFits.Statement (.sizeSetWrite tag set sizes) :=
  fun _ _ _ => fits_of_length rfl (by simp [maxBody])

theorem BodyFits.sizeSetRead : ∀ tag set, BodyFits.Statement (.sizeSetRead tag set) :=
  fun _ _ => fits_of_length rfl (by simp [maxBody])

theorem BodyFits.freeLimitsWrite : ∀ tag vfree seconds foam, BodyFits.Statement (.freeLimitsWrite tag vfree seconds foam) :=
  fun _ _ _ _ => fits_of_length rfl (by simp [maxBody])

theorem BodyFits.freeLimitsRead : ∀ tag, BodyFits.Statement (.freeLimitsRead tag) :=
  fun _ => fits_of_length rfl (by simp [maxBody])

theorem BodyFits.routeWrite : ∀ tag map first entries, BodyFits.Statement (.routeWrite tag map first entries) := by
  intro _ _ _ es h k b e
  cases e
  have hl : es.length ≤ maxRouteEntries := by simp [Instr.wf] at h; omega
  simp [maxRouteEntries, maxBody] at hl ⊢
  omega

theorem BodyFits.routeRead : ∀ tag map first count, BodyFits.Statement (.routeRead tag map first count) :=
  fun _ _ _ _ => fits_of_length rfl (by simp [maxBody])

theorem BodyFits.routeSwap : ∀ tag, BodyFits.Statement (.routeSwap tag) :=
  fun _ => fits_of_length rfl (by simp [maxBody])

theorem BodyFits.routeCheck : ∀ tag tap, BodyFits.Statement (.routeCheck tag tap) :=
  fun _ _ => fits_of_length rfl (by simp [maxBody])

theorem BodyFits.barStateSet : ∀ tag mask, BodyFits.Statement (.barStateSet tag mask) :=
  fun _ _ => fits_of_length rfl (by simp [maxBody])

theorem BodyFits.barStateClear : ∀ tag mask, BodyFits.Statement (.barStateClear tag mask) :=
  fun _ _ => fits_of_length rfl (by simp [maxBody])

theorem BodyFits.barStateToggle : ∀ tag mask, BodyFits.Statement (.barStateToggle tag mask) :=
  fun _ _ => fits_of_length rfl (by simp [maxBody])

theorem BodyFits.trunkSet : ∀ tag trunk setpoint kp cls alarm, BodyFits.Statement (.trunkSet tag trunk setpoint kp cls alarm) :=
  fun _ _ _ _ _ _ => fits_of_length rfl (by simp [maxBody])

theorem BodyFits.chillerSet : ∀ tag count points, BodyFits.Statement (.chillerSet tag count points) :=
  fun _ _ _ => fits_of_length rfl (by simp [maxBody])

theorem BodyFits.surgeAdd : ∀ tag start duration lead boost, BodyFits.Statement (.surgeAdd tag start duration lead boost) :=
  fun _ _ _ _ _ => fits_of_length rfl (by simp [maxBody])

theorem BodyFits.surgeRemove : ∀ tag start, BodyFits.Statement (.surgeRemove tag start) :=
  fun _ _ => fits_of_length rfl (by simp [maxBody])

theorem BodyFits.coolingGet : ∀ tag scope trunk, BodyFits.Statement (.coolingGet tag scope trunk) :=
  fun _ _ _ => fits_of_length rfl (by simp [maxBody])

theorem BodyFits.programLoad : ∀ tag program threshold steps, BodyFits.Statement (.programLoad tag program threshold steps) := by
  intro _ _ _ es h k b e
  cases e
  have hl : es.length ≤ maxStepEntries := by simp [Instr.wf] at h; omega
  simp [maxStepEntries, maxBody] at hl ⊢
  omega

theorem BodyFits.programRead : ∀ tag program, BodyFits.Statement (.programRead tag program) :=
  fun _ _ => fits_of_length rfl (by simp [maxBody])

theorem BodyFits.cleanRequest : ∀ tag line program, BodyFits.Statement (.cleanRequest tag line program) :=
  fun _ _ _ => fits_of_length rfl (by simp [maxBody])

theorem BodyFits.cleanWithdraw : ∀ tag line, BodyFits.Statement (.cleanWithdraw tag line) :=
  fun _ _ => fits_of_length rfl (by simp [maxBody])

theorem BodyFits.cleanStop : ∀ tag circuit, BodyFits.Statement (.cleanStop tag circuit) :=
  fun _ _ => fits_of_length rfl (by simp [maxBody])

theorem BodyFits.cleanContinue : ∀ tag circuit, BodyFits.Statement (.cleanContinue tag circuit) :=
  fun _ _ => fits_of_length rfl (by simp [maxBody])

theorem BodyFits.cleanAbort : ∀ tag circuit, BodyFits.Statement (.cleanAbort tag circuit) :=
  fun _ _ => fits_of_length rfl (by simp [maxBody])

theorem BodyFits.circuitGet : ∀ tag circuit, BodyFits.Statement (.circuitGet tag circuit) :=
  fun _ _ => fits_of_length rfl (by simp [maxBody])

theorem BodyFits.returnToService : ∀ tag line, BodyFits.Statement (.returnToService tag line) :=
  fun _ _ => fits_of_length rfl (by simp [maxBody])

theorem BodyFits.journalRead : ∀ tag first, BodyFits.Statement (.journalRead tag first) :=
  fun _ _ => fits_of_length rfl (by simp [maxBody])

theorem BodyFits.journalRelease : ∀ tag through, BodyFits.Statement (.journalRelease tag through) :=
  fun _ _ => fits_of_length rfl (by simp [maxBody])

theorem BodyFits.totalsRead : ∀ tag scope number, BodyFits.Statement (.totalsRead tag scope number) :=
  fun _ _ _ => fits_of_length rfl (by simp [maxBody])

theorem BodyFits.histogramRead : ∀ tag code, BodyFits.Statement (.histogramRead tag code) :=
  fun _ _ => fits_of_length rfl (by simp [maxBody])

theorem BodyFits.totalsClear : ∀ tag, BodyFits.Statement (.totalsClear tag) :=
  fun _ => fits_of_length rfl (by simp [maxBody])

theorem BodyFits.reconcile : ∀ tag line, BodyFits.Statement (.reconcile tag line) :=
  fun _ _ => fits_of_length rfl (by simp [maxBody])

theorem BodyFits.watchSet : ∀ tag watch entry, BodyFits.Statement (.watchSet tag watch entry) :=
  fun _ _ _ => fits_of_length rfl (by simp [maxBody])

theorem BodyFits.watchClear : ∀ tag watch, BodyFits.Statement (.watchClear tag watch) :=
  fun _ _ => fits_of_length rfl (by simp [maxBody])

theorem BodyFits.watchGet : ∀ tag watch, BodyFits.Statement (.watchGet tag watch) :=
  fun _ _ => fits_of_length rfl (by simp [maxBody])

theorem BodyFits.calOpen : ∀ tag, BodyFits.Statement (.calOpen tag) :=
  fun _ => fits_of_length rfl (by simp [maxBody])

theorem BodyFits.calWrite : ∀ tag meter number gain offset rReset, BodyFits.Statement (.calWrite tag meter number gain offset rReset) :=
  fun _ _ _ _ _ _ => fits_of_length rfl (by simp [maxBody])

theorem BodyFits.calRead : ∀ tag meter number, BodyFits.Statement (.calRead tag meter number) :=
  fun _ _ _ => fits_of_length rfl (by simp [maxBody])

theorem BodyFits.unknownRequest : ∀ kind tag body, BodyFits.Statement (.unknownRequest kind tag body) :=
  fun _ _ _ => fits_of_none rfl

theorem BodyFits.busyReply : ∀ kind tag body, BodyFits.Statement (.busyReply kind tag body) :=
  fun _ _ _ => fits_of_none rfl

theorem BodyFits.frameDiscarded : ∀ frame, BodyFits.Statement (.frameDiscarded frame) :=
  fun _ => fits_of_none rfl

theorem BodyFits.interByteTimeout : BodyFits.Statement .interByteTimeout :=
  fits_of_none rfl

theorem BodyFits.startMarkerReceived : BodyFits.Statement .startMarkerReceived :=
  fits_of_none rfl

theorem BodyFits.replyTransmitted : ∀ start, BodyFits.Statement (.replyTransmitted start) :=
  fun _ => fits_of_none rfl

theorem BodyFits.noticeTransmitted : BodyFits.Statement .noticeTransmitted :=
  fits_of_none rfl

theorem BodyFits.noticePaceWaitEnd : BodyFits.Statement .noticePaceWaitEnd :=
  fits_of_none rfl

theorem BodyFits.clockSecond : BodyFits.Statement .clockSecond :=
  fits_of_none rfl

theorem BodyFits.cleaningDueAgeCheck : BodyFits.Statement .cleaningDueAgeCheck :=
  fits_of_none rfl

theorem BodyFits.mainPowerFail : BodyFits.Statement .mainPowerFail :=
  fits_of_none rfl

theorem BodyFits.backupSupplyBelowMinimum : BodyFits.Statement .backupSupplyBelowMinimum :=
  fits_of_none rfl

theorem BodyFits.powerUp : ∀ checkPasses start, BodyFits.Statement (.powerUp checkPasses start) :=
  fun _ _ => fits_of_none rfl

theorem BodyFits.resetAsserted : BodyFits.Statement .resetAsserted :=
  fits_of_none rfl

theorem BodyFits.resetReleased : ∀ start, BodyFits.Statement (.resetReleased start) :=
  fun _ => fits_of_none rfl

theorem BodyFits.replyWindowExpiry : BodyFits.Statement .replyWindowExpiry :=
  fits_of_none rfl

theorem BodyFits.replyByteGapTimeout : BodyFits.Statement .replyByteGapTimeout :=
  fits_of_none rfl

theorem BodyFits.replyFormatBroken : BodyFits.Statement .replyFormatBroken :=
  fits_of_none rfl

theorem BodyFits.replyReceived : ∀ bytes, BodyFits.Statement (.replyReceived bytes) :=
  fun _ => fits_of_none rfl

theorem BodyFits.emptyRoundExpiry : BodyFits.Statement .emptyRoundExpiry :=
  fits_of_none rfl

theorem BodyFits.foamOnBeerTrip : ∀ line, BodyFits.Statement (.foamOnBeerTrip line) :=
  fun _ => fits_of_none rfl

theorem BodyFits.detectorRearm : ∀ line, BodyFits.Statement (.detectorRearm line) :=
  fun _ => fits_of_none rfl

theorem BodyFits.cellarMeterPulse : ∀ line, BodyFits.Statement (.cellarMeterPulse line) :=
  fun _ => fits_of_none rfl

theorem BodyFits.sensorSample : ∀ returns bath, BodyFits.Statement (.sensorSample returns bath) :=
  fun _ _ => fits_of_none rfl

theorem BodyFits.alarmTimerExpiry : ∀ trunk, BodyFits.Statement (.alarmTimerExpiry trunk) :=
  fun _ => fits_of_none rfl

theorem BodyFits.releaseTimerExpiry : ∀ trunk, BodyFits.Statement (.releaseTimerExpiry trunk) :=
  fun _ => fits_of_none rfl

theorem BodyFits.controlPeriodExpiry : BodyFits.Statement .controlPeriodExpiry :=
  fits_of_none rfl

theorem BodyFits.dutyWindowStart : BodyFits.Statement .dutyWindowStart :=
  fits_of_none rfl

theorem BodyFits.valveDutyExpiry : ∀ trunk, BodyFits.Statement (.valveDutyExpiry trunk) :=
  fun _ => fits_of_none rfl

theorem BodyFits.stageFault : ∀ stage, BodyFits.Statement (.stageFault stage) :=
  fun _ => fits_of_none rfl

theorem BodyFits.stageRestored : ∀ stage, BodyFits.Statement (.stageRestored stage) :=
  fun _ => fits_of_none rfl

theorem BodyFits.circuitMeterPulse : ∀ circuit, BodyFits.Statement (.circuitMeterPulse circuit) :=
  fun _ => fits_of_none rfl

theorem BodyFits.conductivityReading : ∀ circuit reading, BodyFits.Statement (.conductivityReading circuit reading) :=
  fun _ _ => fits_of_none rfl

theorem BodyFits.supplyLow : ∀ circuit supply active, BodyFits.Statement (.supplyLow circuit supply active) :=
  fun _ _ _ => fits_of_none rfl

theorem BodyFits.flowTimerExpiry : ∀ circuit, BodyFits.Statement (.flowTimerExpiry circuit) :=
  fun _ => fits_of_none rfl

theorem BodyFits.timedStepExpiry : ∀ circuit, BodyFits.Statement (.timedStepExpiry circuit) :=
  fun _ => fits_of_none rfl

theorem BodyFits.calSwitchOff : ∀ off, BodyFits.Statement (.calSwitchOff off) :=
  fun _ => fits_of_none rfl

theorem BodyFits.calWindowTimeout : BodyFits.Statement .calWindowTimeout :=
  fits_of_none rfl

end Sys2Proof.Laws
end

