-- ==== Sys2Proof/Laws/Wire.lean ====
section
/-! SUPPORT. What a reader of a reply's bytes answers, said once: the readers of taps, of events and of a whole reply up to its CRC take
the bytes that spell the parts they answer, and no others (section 11.4, R194). -/

namespace Sys2Proof.Machine

open Sys2Proof Sys2Proof.Safety

/-- The taps read are those the first bytes spell, three each. -/
theorem readTaps_eq_ok_iff {k : Nat} {b rest : List Byte} {ts : List TapStatus} :
    readTaps k b = .ok ts rest ↔
      ts.length = k ∧ ∃ pieces, List.Forall₂ TapSpelled pieces ts ∧ b = pieces.flatten ++ rest := by
  induction k generalizing b ts with
  | zero =>
    cases ts <;> simp [readTaps]
  | succ k ih =>
    constructor
    · intro h
      match b, h with
      | [], h | [_], h | [_, _], h => simp [readTaps] at h
      | st :: hi :: lo :: b, h =>
        simp only [readTaps] at h
        split at h
        · rename_i xs r hx
          cases h
          obtain ⟨hl, pieces, hp, rfl⟩ := ih.mp hx
          exact ⟨by simp [hl], [st, hi, lo] :: pieces, .cons ⟨st, hi, lo, rfl, rfl, rfl⟩ hp, by simp⟩
        · cases h
        · cases h
    · rintro ⟨hl, pieces, hp, rfl⟩
      cases hp with
      | nil => simp at hl
      | @cons p x ps xs hx hxs =>
        obtain ⟨st, hi, lo, rfl, h1, h2⟩ := hx
        have hr : readTaps k (ps.flatten ++ rest) = .ok xs rest := ih.mpr ⟨by simpa using hl, ps, hxs, rfl⟩
        cases x
        simp only at h1 h2
        simp [readTaps, hr, h1, h2]

/-- The end causes in the order of their codes; any other code is HANDLE. -/
theorem endCauseOfCode_eq (n : Nat) :
    endCauseOfCode n = ([EndCause.budget, .handle, .timeout, .forced, .expired][n]?).getD .handle := by
  match n with
  | 0 | 1 | 2 | 3 | 4 => rfl
  | n + 5 => rfl

/-- A field of two bytes is tenths of a degree in two's complement, the lowest one standing for absent. -/
theorem temperatureOf_eq {n : Nat} (h : n < 65536) :
    temperatureOf n = if n = 32768 then none else some (if n < 32768 then (n : Int) else (n : Int) - 65536) := by
  simp only [temperatureOf, signedValue]
  split <;> simp
  split <;> split <;> omega

/-- The event read is the one the first bytes spell. -/
theorem readEvent_eq_ok_iff {b rest : List Byte} {e : Event} :
    readEvent b = .ok e rest ↔ ∃ piece, EventSpelled piece e ∧ b = piece ++ rest := by
  constructor
  · intro h
    match b, h with
    | [], h | [_], h => simp [readEvent] at h
    | head :: loc :: b, h =>
      simp only [readEvent] at h
      split at h
      · cases h
      rename_i hloc
      split at h
      · rename_i body r hb
        cases h
        simp only [readEventBody] at hb
        split at hb
        · rename_i hk
          split at hb
          · rename_i size r
            cases hb
            exact ⟨[head, loc, size], ⟨head, loc, rfl, rfl, by simpa using hloc, .inl ⟨hk, size, rfl, rfl⟩⟩, rfl⟩
          · cases hb
        · split at hb
          · rename_i hk
            simp only [readDone] at hb
            split at hb
            · rename_i token p1 p0 f1 f0 t1 t0 cause r
              cases hb
              refine ⟨[head, loc, token, p1, p0, f1, f0, t1, t0, cause],
                ⟨head, loc, rfl, rfl, by simpa using hloc, .inr ⟨hk, token, p1, p0, f1, f0, t1, t0, cause, rfl, ?_⟩⟩, rfl⟩
              have h1 := t1.isLt
              have h0 := t0.isLt
              simp only [endCauseOfCode_eq, temperatureOf_eq (show t1.toNat * 256 + t0.toNat < 65536 by omega)]
            · cases hb
          · cases hb
      · cases h
      · cases h
  · rintro ⟨piece, ⟨head, loc, hn, hl, hle, hk⟩, rfl⟩
    obtain ⟨number, l, body⟩ := e
    rcases hk with ⟨hk, size, rfl, hb⟩ | ⟨hk, token, p1, p0, f1, f0, t1, t0, cause, rfl, hb⟩
    · simp_all [readEvent, readEventBody, show ¬ 3 < loc.toNat by omega]
    · have h1 := t1.isLt
      have h0 := t0.isLt
      simp_all [readEvent, readEventBody, readDone, show ¬ 3 < loc.toNat by omega, endCauseOfCode_eq,
        temperatureOf_eq (show t1.toNat * 256 + t0.toNat < 65536 by omega)]

/-- The events read are those the first bytes spell, in order. -/
theorem readEvents_eq_ok_iff {k : Nat} {b rest : List Byte} {es : List Event} :
    readEvents k b = .ok es rest ↔
      es.length = k ∧ ∃ pieces, List.Forall₂ EventSpelled pieces es ∧ b = pieces.flatten ++ rest := by
  induction k generalizing b es with
  | zero => cases es <;> simp [readEvents]
  | succ k ih =>
    constructor
    · intro h
      simp only [readEvents] at h
      split at h
      · rename_i e r he
        split at h
        · rename_i xs r' hx
          cases h
          obtain ⟨hl, pieces, hp, rfl⟩ := ih.mp hx
          obtain ⟨piece, hpe, rfl⟩ := readEvent_eq_ok_iff.mp he
          exact ⟨by simp [hl], piece :: pieces, .cons hpe hp, by simp⟩
        · cases h
        · cases h
      · cases h
      · cases h
    · rintro ⟨hl, pieces, hp, rfl⟩
      cases hp with
      | nil => simp at hl
      | @cons p x ps xs hx hxs =>
        have hr : readEvents k (ps.flatten ++ rest) = .ok xs rest := ih.mpr ⟨by simpa using hl, ps, hxs, rfl⟩
        have he : readEvent (p ++ (ps.flatten ++ rest)) = .ok x (ps.flatten ++ rest) := readEvent_eq_ok_iff.mpr ⟨p, hx, rfl⟩
        simp [readEvents, he, hr]

/-- The reply read is the one the bytes before the rest spell. -/
theorem readReplyBody_eq_ok_iff {b rest : List Byte} {r : BusReply} :
    readReplyBody b = .ok r rest ↔ ∃ front, ReplySpelled front r ∧ b = front ++ rest := by
  constructor
  · intro h
    match b, h with
    | [], h | [_], h => simp [readReplyBody] at h
    | address :: count :: b, h =>
      simp only [readReplyBody] at h
      split at h
      · cases h
      rename_i hc
      split at h
      · rename_i taps r' ht
        obtain ⟨htl, tps, htp, rfl⟩ := readTaps_eq_ok_iff.mp ht
        split at h
        · rename_i n r1
          split at h
          · cases h
          rename_i hn
          split at h
          · rename_i es r2 he
            cases h
            obtain ⟨hel, eps, hep, rfl⟩ := readEvents_eq_ok_iff.mp he
            simp only [Bool.or_eq_true, decide_eq_true_eq, not_or, Nat.not_lt] at hc
            exact ⟨address :: count :: tps.flatten ++ n :: eps.flatten,
              ⟨address, tps, eps, rfl, htp, hep, by simp [htl]; omega, by simp [htl]; omega, by simp [hel]; omega,
                by simp [htl, hel]⟩, by simp⟩
          · cases h
          · cases h
        · cases h
      · cases h
      · cases h
  · rintro ⟨front, ⟨address, tps, eps, ha, htp, hep, h1, h4, h5, rfl⟩, rfl⟩
    obtain ⟨a, taps, events⟩ := r
    simp only at ha htp hep h1 h4 h5
    have ht : ∀ r, readTaps taps.length (tps.flatten ++ r) = .ok taps r := fun r => readTaps_eq_ok_iff.mpr ⟨rfl, tps, htp, rfl⟩
    have he : readEvents events.length (eps.flatten ++ rest) = .ok events rest := readEvents_eq_ok_iff.mpr ⟨rfl, eps, hep, rfl⟩
    have m1 : (BitVec.ofNat 8 taps.length).toNat = taps.length := by simp; omega
    have m2 : (BitVec.ofNat 8 events.length).toNat = events.length := by simp; omega
    simp only [List.cons_append, List.append_assoc, readReplyBody, m1, ht, m2, he, ← ha,
      show ¬ 4 < events.length by omega, if_false]
    have hc : ¬ (decide (taps.length < 1) || decide (4 < taps.length)) = true := by
      simp only [Bool.or_eq_true, decide_eq_true_eq]
      omega
    rw [if_neg hc]

end Sys2Proof.Machine
end

