-- ==== Sys2Proof/Tests/Slice0.lean ====
section
/-! SUPPORT. Tests: what WellFormed refuses, the manual's worked examples, and for each statement with hypotheses a state and operands
that meet them. Expected figures are the manual's own, except where a comment names another source. -/

namespace Sys2Proof.Tests

-- One theorem at a time: each keeps a thread of its own while the kernel decides it.
set_option Elab.async false

open Sys2Proof Sys2Proof.Machine Sys2Proof.Safety

/-! ### Small states -/

/-- After reset, with a free transmitter. -/
def base : State := { State.reset with link := { State.reset.link with tx := .idle } }

/-- The state a command leaves. -/
def after (c : Instr) (s : State) : State :=
  match exec c s with
  | .next t => t
  | .fault _ => s
  | .refused _ => s

/-- The status of the reply in the slot. -/
def statusOf (s : State) : Option Status := s.link.slot.map (·.status)

/-- A keg with its pulses and poured volume. -/
def kegOf (id nominal pulses poured : Nat) : Keg :=
  { id := id, coupler := id % 6, product := 1, nominal := nominal, pulses := pulses, frozen := 0, poured := poured,
    holdAfterSwitch := false }

/-- A line in a state, with a chain. -/
def lineOf (st : ServiceState) (mark : Bool) (chain : List Keg) : Line :=
  { coldLine with config := { coldLineConfig with product := 1 }, state := st, mark := mark, chain := chain }

/-- One product, and lines 0 to 4 SERVING, DRY, RINSED with a keg, FOUL and PRIMING. -/
def plant : State :=
  ((((base.setProducts [newProduct 1 (Vector.replicate 16 0)]).setLine 0
    (lineOf .serving false [kegOf 1 50000 0 0, kegOf 2 50000 0 0])).setLine 1 (lineOf .dry false [])).setLine 2
    (lineOf .rinsed false [kegOf 3 50000 0 0])).setLine 3 (lineOf .foul true []) |>.setLine 4
    (lineOf .priming false [kegOf 4 50000 0 0])

/-- Line 0 with as many kegs as a chain holds. -/
def fullChain : State :=
  plant.setLine 0 (lineOf .serving false ((List.range 6).map fun i => kegOf (10 + i) 50000 0 0))

/-- A pour in flight on line 0. -/
def pourOf (phase : PourPhase) : Pour :=
  { phase := phase
    record := { token := 3, cls := .free, size := none, budget := 5000, clamped := false, maxSeconds := 30, grantTime := 0,
                line := 0, kegId := 1, lastRunning := 0, stopSent := false } }

/-- Tap 0 routed to line 0, with a pour or without. -/
def tapWith (p : Option Pour) (s : State) : State :=
  s.setTap 0 { coldTap with configured := true, route := { line := some 0, portionOnly := false, sizeSet := 0 }, pour := p }

/-- Node 1 with a state and misses, polled. -/
def polled (st : NodeState) (misses : Nat) : State :=
  let n : Node := { freshNode 3333 with state := st, misses := misses, tapCount := some 1 }
  let s := (tapWith none plant).setNode 1 n
  { s with bus := { s.bus with phase := .exchange (formPoll 1 n) } }

/-- The bytes of a reply of node `a` with one idle tap and no event. -/
def quietReply (a : Byte) : List Byte := withCrc [a, 1, 0, 0, 0, 0]

/-- The bytes of a reply of node 32 before its CRC: two taps, one of them locked and one with a pour open; an ASK of size 2 at tap 3
numbered 15, and a DONE at tap 1 numbered 0 (section 11.4). -/
def eventBytes : List Byte :=
  [32, 2, 0xFD, 0, 7, 2, 1, 44, 2, 0x1F, 3, 2, 0x20, 1, 9, 1, 0, 0, 5, 0xFF, 0xFE, 5]

/-- What those bytes spell: the bits above 1 of a tap's status are ignored, and the end cause 5 is HANDLE (R194). -/
def eventReply : BusReply :=
  { address := 32
    taps := [⟨true, none⟩, ⟨false, some 300⟩]
    events := [⟨15, 3, .ask 2⟩, ⟨0, 1, .done 9 256 5 (some (-2)) .handle⟩] }

/-- A program of one step kind, then a VERIFY. -/
def programWith (k : StepKind) (amount : Nat) : Program :=
  { threshold := 150, steps := [{ kind := k, amount := amount, limit := 0, notify := true },
                                { kind := .verify, amount := 1000, limit := 3000, notify := false }] }

/-- Program 0 stored. -/
def withProgram (g : Program) (s : State) : State :=
  { s with clean := { s.clean with programs := s.clean.programs.set 0 (some g) } }

/-- A line of trunk `n` that holds TEMP. -/
def tempHeld (n : Nat) : Line :=
  let l := lineOf .serving false [kegOf 1 50000 0 0]
  { l with holds := { HoldSet.empty with temp := true }, config := { l.config with trunk := n } }

/-- Circuit A in a state at step 1 of program 0, with line 3 as its batch. -/
def circuitAt (st : CircuitState) (why : Option PauseCause) (g : Program) : State :=
  ((withProgram g plant).setLine 3 (lineOf .cleaning true [])).setCircuit .a
    { coldCircuit with state := st, batch := [3], program := some 0, stepIndex := some 1, pauseCause := why, target := 1000 }

/-- Every circuit busy. -/
def bothBusy (s : State) : State :=
  (s.setCircuit .a { coldCircuit with state := .running }).setCircuit .b { coldCircuit with state := .running }

/-- The calibration window open with `n` requests remaining, the switch on. -/
def calibrating (n : Nat) (s : State) : State :=
  { s with
    acct := { s.acct with window := { isOpen := true, remaining := n, openTime := 0 } }
    pins := { s.pins with calSwitch := true } }

/-! ### Ill-formed commands -/

theorem test_wf_fits1 : Instr.wf (.lineGet 0 256) = false := by decide
theorem test_wf_fits2 : Instr.wf (.chillerSet 0 65536 100) = false := by decide
theorem test_wf_fits3 : Instr.wf (.kegAdd 0 0 1 1 16777216 false) = false := by decide
theorem test_wf_fits4 : Instr.wf (.timeSet 0 4294967296) = false := by decide
theorem test_wf_temperature : Instr.wf (.trunkSet 0 0 32768 10 2 70) = false := by decide
theorem test_wf_optional : Instr.wf (.noticePace 0 (some 65536)) = false := by decide
theorem test_wf_lineConfig : Instr.wf (.lineSet 0 0 { coldLineConfig with hardLimit := -32769 }) = false := by decide
theorem test_wf_size : Instr.wf (.sizeSetWrite 0 0 #v[⟨16777216, 0⟩, ⟨0, 0⟩, ⟨0, 0⟩, ⟨0, 0⟩]) = false := by decide
theorem test_wf_routeEntry : Instr.wf (.routeWrite 0 0 0 [⟨256, false, 0⟩]) = false := by decide
theorem test_wf_routeCount : Instr.wf (.routeWrite 0 0 0 (List.replicate 79 ⟨0, false, 0⟩)) = false := by decide +kernel
theorem test_wf_stepEntry : Instr.wf (.programLoad 0 0 100 [⟨256, 0, 0, false⟩]) = false := by decide
theorem test_wf_stepCount : Instr.wf (.programLoad 0 0 100 (List.replicate 24 ⟨0, 0, 0, false⟩)) = false := by decide +kernel
theorem test_wf_watchEntry : Instr.wf (.watchSet 0 0 ⟨0, 0, 0, 4294967296, 0⟩) = false := by decide
theorem test_wf_body : Instr.wf (.unknownRequest 0 0 (List.replicate 241 0)) = false := by decide +kernel
theorem test_wf_frame : Instr.wf (.frameDiscarded ⟨List.replicate 248 0, false⟩) = false := by decide +kernel
theorem test_wf_busReply : Instr.wf (.replyReceived (List.replicate 58 0)) = false := by decide +kernel

/-! ### The manual's worked examples -/

theorem test_table_names_no_word : decodeTableWord 8 1 = none := by decide

/-- The check value of this CRC-16 over the digits 1 to 9, from general knowledge of the polynomial. -/
theorem test_crc16_check_value : crc16 [0x31, 0x32, 0x33, 0x34, 0x35, 0x36, 0x37, 0x38, 0x39] = 0x29B1#16 := by decide +kernel

/-- Section 3.4, the table of budgets. -/
theorem test_budget_examples :
    portionBudget 5000 85 2000 12 = (2446, false) ∧ portionBudget 5000 95 2000 12 = (2441, false)
      ∧ portionBudget 200 250 2000 12 = (1, false) ∧ portionBudget 120 100 2000 12 = (1, false)
      ∧ freeBudget 10000 2350 0 = (4256, false) ∧ freeBudget 50000 500 0 = (65535, true) := by decide +kernel

/-- R65, the table of overruns. -/
theorem test_overrun_examples :
    learnOverrun 85 168 = 95 ∧ learnOverrun 95 40 = 88 ∧ learnOverrun 95 75 = 92 ∧ learnOverrun 290 2600 = 300
      ∧ learnOverrun 2 (-30) = 0 := by decide +kernel

/-- Section 3.7: volumes, foam ratios and the rounding case. -/
theorem test_metering_case :
    pulseVolume 2000 12 2530 = 5084 ∧ foamRatio 310 2530 = 31 ∧ pulseVolume 2000 12 2446 = 4916
      ∧ pulseVolume 1873 0 2502 = 4686 ∧ pulseVolume 2350 0 3100 = 7285 ∧ foamRatio 1200 3100 = 99 := by decide +kernel

/-- Section 3.7: tap 9 on line 14. -/
def meteringCase : State :=
  let s := (plant.setLine 14 (lineOf .serving false [kegOf 31007 500000 0 0])).setNode 3
    { freshNode 3333 with state := .present, tapCount := some 4 }
  let s := { s with pour := { s.pour with barOpen := 1#16, sizes := s.pour.sizes.set 0 #v[⟨0, 0⟩, ⟨5000, 100⟩, ⟨0, 0⟩, ⟨0, 0⟩] } }
  s.setTap 9 { coldTap with
    configured := true, route := { line := some 14, portionOnly := false, sizeSet := 0 }, offset := 12, overrun := 85
    nextToken := 116 }

theorem test_ask_grants :
    (((ask 9 2 meteringCase).tap 9).pour.map fun p => (p.record.token, p.record.budget, p.record.kegId)) = some (116, 2446, 31007)
      ∧ ((ask 9 2 meteringCase).line 14).inFlight = 1
      ∧ ((ask 9 2 meteringCase).node 3).items.map (·.item) = [.grant 1 116 2446 60] := by decide +kernel

theorem test_done_measures :
    let t := finishPour 9 116 2530 310 (some 52) .budget (ask 9 2 meteringCase)
    (t.tap 9).overrun = 95 ∧ (t.tap 9).pour = none ∧ (t.tap 9).portion = { count := 1, volume := 5084 }
      ∧ (t.line 14).chain.map (·.poured) = [5084] ∧ t.acct.journal.length = 1 := by decide +kernel

/-- Section 1.6: stock and variance across a keg change. -/
def stockCase : State :=
  plant.setLine 7 { lineOf .serving false [kegOf 1 500000 249000 471350, kegOf 2 500000 0 0, kegOf 3 300000 0 0] with
    config := { coldLineConfig with product := 1, lowThreshold := 1000000, criticalThreshold := 400000 }, stock := .low }

theorem test_switch_records_the_keg :
    ((after (.kegSwitch 0 7) stockCase).acct.journal.map (·.body)) = [.keg 7 1 1 500000 498000 471350 26650 .switched]
      ∧ remainingStock ((after (.kegSwitch 0 7) stockCase).line 7) = 800000
      ∧ ((after (.kegSwitch 0 7) stockCase).line 7).stock = .low := by decide +kernel

theorem test_calWrite_freezes_the_head :
    let s := calibrating 4 (plant.setLine 7 (lineOf .serving false [kegOf 2 500000 10000 0]))
    let t := after (.calWrite 0 1 7 1950 0 false) s
    (t.line 7).chain.map (fun k => (k.frozen, k.pulses)) = [(20000, 0)] ∧ (t.line 7).gain = 1950
      ∧ drawnVolume 1950 { kegOf 2 500000 5001 0 with frozen := 20000 } = 29752 := by decide +kernel

/-- Section 8.9: the last pulse of a prime. -/
theorem test_prime_ends :
    let l : Line := { lineOf .priming false [kegOf 8104 500000 24999 0] with
      config := { coldLineConfig with product := 1, fillVolume := 42000, primeMargin := 8000 }, primeProgress := 49998 }
    let t := after (.cellarMeterPulse 30) (plant.setLine 30 l)
    (t.line 30).state = .serving ∧ (t.line 30).primeProgress = 50000 := by decide +kernel

/-- Section 7.3: trunk 3. -/
theorem test_demand_example :
    let s := plant.setLine 0 { lineOf .serving false [] with config := { coldLineConfig with trunk := 3 } }
    let s := { s with cool := { s.cool with surges := [{ start := 0, duration := 60, lead := 0, boost := 30, active := true }] } }
    demandOf s 3 { coldTrunk with reading := 62, warm := 3 } = 67 := by decide +kernel

/-- Section 7.4: the shortfall, with `n` stages running. -/
def shortfall (n : Nat) : State :=
  let d : Nat → Nat → Trunk := fun cls demand => { coldTrunk with cls := cls, allocCls := cls, demand := demand }
  let s := (((base.setTrunk 0 (d 1 80)).setTrunk 1 (d 2 70)).setTrunk 2 (d 2 90)).setTrunk 3 (d 3 40)
  { s with cool := { s.cool with
    stages := #v[{ running := 0 < n, time := 500 }, { running := 1 < n, time := 500 }, startStage, startStage] } }

theorem test_allocation_two_stages :
    ((allocate (shortfall 2)).cool.trunks.toList.map (·.allocation)).take 4 = [80, 52, 67, 0] := by decide +kernel

theorem test_stageFault_shares_again :
    ((after (.stageFault 1) (shortfall 2)).cool.trunks.toList.map (·.allocation)).take 4 = [80, 8, 11, 0] := by decide +kernel

/-- Section 7.5: the first stage switches on when its time off is 300 s. -/
theorem test_stage_switches_on_at_300 :
    let s := { shortfall 0 with cellar := plant.cellar }
    let s := { s with cool := { s.cool with
      stages := Vector.replicate 4 { running := false, time := 290 }, controlTimer := 0 } }
    let hot := s.setTrunk 0 { coldTrunk with reading := 220 }
    (after .controlPeriodExpiry hot).cool.stages.toList.map (·.running) = [true, false, false, false]
      ∧ (after .controlPeriodExpiry { hot with cool := { hot.cool with controlTimer := 1 } }).cool.running = 0 := by decide +kernel

/-- Section 8.11: a line whose taps are all locked is taken at once; the second line finds circuit A busy. -/
theorem test_cleanRequest_taken_at_once :
    let s := withProgram (programWith .rinse 80000) plant
    let t := after (.cleanRequest 0 1 0) s
    (t.circuit .a).batch = [1] ∧ (t.line 1).state = .cleaning ∧ (t.circuit .a).target = 80000
      ∧ ((after (.cleanRequest 0 3 0) { t with link := base.link }).circuit .b).batch = [3] := by decide +kernel

/-- R152, R158: with no water the first step is not admitted and the batch ends at once; the reply names the circuit that took the
line and no place. -/
theorem test_cleanRequest_batch_ends_at_once :
    let s := withProgram (programWith .rinse 80000) plant
    let t := after (.cleanRequest 0 1 0) { s with pins := { s.pins with waterLow := ⟨true, true⟩ } }
    t.link.slot.map (·.body) = some (.cleanPlace .rinsed none (some .a)) ∧ (t.circuit .a).state = .idle
      ∧ (t.circuit .a).lastEnd = some (.fault .supply) ∧ t.clean.queue = [] := by decide +kernel

/-- Circuit A in a PURGE step with `n` places taken by POUR and PURGE records. -/
def purging (n : Nat) : State :=
  let s := circuitAt .running none (programWith .purge 80000)
  { s with acct := { s.acct with pourPurge := n } }

/-- R95, R99, R157, R162: a PURGE record that finds no place counts on its circuit. -/
theorem test_purge_record :
    (let t := completeStep .a ⟨.purge, 80000, 0, false⟩ (purging 4031)
     t.acct.journal.map (·.body) = [.purge 3 .a 0 (t.line 3).config.fillVolume] ∧ (t.circuit .a).unstoredPurge = 0)
      ∧ (let t := completeStep .a ⟨.purge, 80000, 0, false⟩ (purging 4032)
         t.acct.journal = [] ∧ (t.circuit .a).unstoredPurge = 1) := by decide +kernel

/-- R148: a batch of 4 lines under a PURGE of 60,000 per line. -/
theorem test_stepTarget_example :
    stepTarget { kind := .purge, amount := 60000, limit := 0, notify := true } 4 = 240000 := by decide

/-- Section 9.7: the second request is answered BUSY, a third is discarded; a merged notice keeps its place. -/
theorem test_second_request_is_busy :
    let t := after (.kegList 42 7) (after (.lineHoldRelease 41 7 HoldSet.empty) plant)
    t.link.busy = some { kind := 0x18, tag := 42 } ∧ t.link.tx = .reply
      ∧ (after (.kegList 43 7) t).link.discarded = 1 := by decide +kernel

theorem test_posting_merges :
    mergeNotice (.line 7) .lineFoam [⟨.keg 7, .kegEmpty⟩, ⟨.line 7, .lineHold⟩] = [⟨.keg 7, .kegEmpty⟩, ⟨.line 7, .lineFoam⟩] := by
  decide

/-- R173: a frame whose CRC matches is received, one whose CRC does not is discarded and counted; TIME GET has kind 04. -/
theorem test_receiver_tests_the_crc :
    let good := after (.frameDiscarded ⟨frameBytes 0x04 7 [], false⟩) plant
    let bad := after (.frameDiscarded ⟨[0xC3, 0, 2, 0x04, 7, 0, 0], false⟩) plant
    good.link.slot = (after (.timeGet 7) plant).link.slot ∧ good.link.receiver = .hunting
      ∧ bad.link.slot = none ∧ bad.link.discarded = 1 := by decide +kernel

/-- R50: every FREE LIMITS reply carries the values as they stand, a refusal too. -/
theorem test_freeLimits_refusal_carries_the_values :
    ((after (.freeLimitsWrite 7 999 30 64) plant).link.slot.map fun r => (r.status, r.body)) = some (.range, .limits 10000 30 64)
      ∧ ((after (.unknownRequest 0x23 7 [2, 0, 0, 0, 0, 0, 0, 0]) plant).link.slot.map fun r => (r.status, r.body))
        = some (.range, .limits 10000 30 64) := by decide +kernel

/-- R191: a power failure before the cold start of FACTORY CLEAR completes leaves the latch set, and the next start is a cold start with
cause RETENTION LOST. -/
theorem test_cut_factory_clear :
    let s := after (.factoryClear 7) (calibrating 4 plant)
    let t := after (.replyTransmitted ⟨quietPins.straps, some .powerLost⟩) s
    t.store.retentionLost = true ∧ t.takesEvents = false
      ∧ (after (.powerUp true ⟨quietPins.straps, none⟩) t).store.lastStart = .retentionLost := by decide +kernel

/-- R192: a reply body has at most 240 bytes, the status among them; the two longest record replies fit. -/
theorem test_longest_replies_fit :
    (ReplyBody.bytes (.line (fullChain.line 0))).length < 240 ∧ (ReplyBody.bytes (.trunks plant.cool.trunks)).length < 240 := by
  decide +kernel

/-- R138: a fault active at the start is reported at the first sample, and at no later one. -/
theorem test_start_fault_is_reported_once :
    let s : State := { base with cool := coldCooling { quietPins with stageFault := #v[true, false, false, false] } }
    let t := after (.sensorSample (Vector.replicate 12 (some 40)) (some 0)) s
    t.link.tx = .notice { notice := ⟨.chiller, .stageFault⟩, state := noticeState t ⟨.chiller, .stageFault⟩ }
      ∧ (after (.sensorSample (Vector.replicate 12 (some 40)) (some 0)) t).link.notices = [] := by decide +kernel

/-- R189: the clock wraps, counting while the part is stopped. -/
theorem test_clock_wraps :
    let s := { base with store := { base.store with clock := 4294967295, mainPower := false } }
    (after .clockSecond s).store.clock = 0 := by decide +kernel

/-- R105 and R103: the bucket bounds. -/
theorem test_buckets : bucketOf 999 = 0 ∧ bucketOf 1000 = 1 ∧ bucketOf 5999 = 5 ∧ bucketOf 6000 = 6 ∧ bucketOf 8000 = 7 := by
  decide

/-- Section 9.7: the notices of a keg that runs out, in their order. -/
theorem test_keg_runs_out :
    let l : Line := { lineOf .serving false [kegOf 1 50000 0 0, { kegOf 2 50000 0 0 with holdAfterSwitch := true }] with
      config := { coldLineConfig with product := 1, lowThreshold := 60000 } }
    (retireHead 7 .empty (plant.setLine 7 l)).link.notices
      = [⟨.line 7, .lineHold⟩, ⟨.stock 7, .stockLow⟩, ⟨.keg 7, .kegEmpty⟩] := by decide +kernel

/-- R4: the head keg's coupler alone, and in DRAINING from SERVING; none in RINSED. -/
theorem test_keg_valves :
    kegValves plant 0 = #v[false, true, false, false, false, false]
      ∧ kegValves (plant.setLine 0 { plant.line 0 with state := .draining, preDrain := some .serving }) 0 = kegValves plant 0
      ∧ kegValves plant 2 = Vector.replicate 6 false := by decide +kernel

/-- R147: a FILL step drives the pump and the solution, with the batch's clean valve open. -/
theorem test_fill_outputs :
    let o := circuitOutputs (circuitAt .running none (programWith .fill 80000)) .a
    (o.pump, o.water, o.solution, o.recirculate) = (true, false, true, false)
      ∧ o.cleanValves[3] = true ∧ o.cleanValves[4] = false := by decide +kernel

/-! ### States and operands that meet the hypotheses of the statements

Each theorem carries the name of its statement and shows, clause by clause, a state and operands that meet what the clause assumes,
at a limit of its range where it has one. -/

/-- A part stopped by the loss of main power, and one whose reset input is held under main power. -/
def dark : State := after .mainPowerFail plant
def heldReset : State := after .resetAsserted plant

/-- The state after a request: its reply is in the slot and in transmission. -/
def replying : State := after (.timeGet 7) plant

/-- With the receiver in the middle of a frame. -/
def midFrame : State := after .startMarkerReceived plant

/-- With a pending notice and `n` notices begun. -/
def posted (n : Nat) : State :=
  { plant with link := { plant.link with notices := [⟨.line 1, .lineHold⟩], starts := n } }

/-- A configuration with every field at a limit of its range. -/
def limitConfig : LineConfig :=
  { trunk := 11, product := 1, fillVolume := 100, primeMargin := 50000, serveLimit := 300, hardLimit := 300,
    lowThreshold := 12000000, criticalThreshold := 12000000, ration := true, softAge := 1, hardAge := 8760,
    softVolume := 2000000000, hardVolume := 2000000000 }

/-- A product table with every place taken. -/
def fullTable : State := plant.setProducts ((List.range 32).map fun i => newProduct (100 + i) (Vector.replicate 16 0))

/-- Tap 0 with node 1 PRESENT, its bar open and size 1 defined: every check of an ask passes. -/
def asking : State :=
  let s := (tapWith none plant).setNode 1 { freshNode 3333 with state := .present, tapCount := some 1 }
  { s with pour := { s.pour with barOpen := 1#16, sizes := s.pour.sizes.set 0 (Vector.replicate 4 ⟨5000, 100⟩) } }

/-- The inactive map with tap 0 on line `n`. -/
def incomingTo (n : Nat) : State :=
  { plant with pour := { plant.pour with mapB := plant.pour.mapB.set 0 { line := some n, portionOnly := false, sizeSet := 3 } } }

/-- A POUR record of tap 0 on line 0. -/
def pourRec : PourRecord :=
  { tap := 0, line := 0, product := 1, kegId := 1, cls := .free, sizeIndex := none, target := none, volume := 5001, pulses := 2500
    foamRatio := 0, temperature := some 40
    flags := { short := false, overTarget := false, foamy := false, warm := false, timeout := false, forced := false
               clamped := false, cut := false, lost := false, recovered := false } }

/-- A journal of `n` POUR records, whose next number is `n + 1`. -/
def journalOf (n : Nat) : State :=
  { plant with acct := { plant.acct with
      journal := (List.range n).map fun i => { seq := i + 1, time := none, body := .pour pourRec }
      nextSeq := n + 1, pourPurge := n } }

/-- Watch 7 over tap 0 in a state. -/
def watching (st : WatchState) : State :=
  (tapWith none plant).setWatch 7
    { target := .tap 0, condition := .volumeOver, threshold := 5000, action := .hold, state := st, count := 1 }

/-- A HOLD on every line watched by entry 7, which has line 0 held. -/
def heldByWatch (st : WatchState) : State :=
  (plant.setLine 0 { lineOf .serving false [kegOf 1 50000 0 0] with holds := { HoldSet.empty with watch := true } }).setWatch 7
    { target := .all, condition := .anyPour, threshold := 0, action := .hold, state := st, count := 1 }

/-- A surge plan with every place taken. -/
def fullPlan : State :=
  { plant with cool := { plant.cool with
      surges := (List.range 4).map fun i => { start := 100 * i, duration := 60, lead := 0, boost := 50, active := false } } }

/-- Line 1 QUEUED with its entry ready, or DRAINING with one that is not. -/
def queued (ready : Bool) : State :=
  let s := (withProgram (programWith .rinse 80000) plant).setLine 1
    { lineOf (if ready then .queued else .draining) false [] with preDrain := some .dry }
  { s with clean := { s.clean with queue := [{ line := 1, program := 0, ready := ready }] } }

/-- Circuit A at a PAUSE step. -/
def atPause : State := circuitAt .paused (some .pauseStep) (programWith .pause 0)

theorem witness_StoppedPart :
    dark.takesEvents = false ∧ (decisionOf (.timeGet 7)).isSome = true ∧ (decisionOf .interByteTimeout).isSome = false := by
  decide +kernel

theorem witness_RequestAnswered : Ready (calibrating 1 base) ∧ (decisionOf (.timeGet 7)).isSome = true := by
  unfold Ready; decide +kernel

theorem witness_BodyRoundTrip :
    Instr.wf (.routeWrite 1 255 255 (List.replicate 78 ⟨255, true, 255⟩)) = true
      ∧ (encodeRequest (.routeWrite 1 255 255 (List.replicate 78 ⟨255, true, 255⟩))).isSome = true := by decide +kernel

theorem witness_FramesAnswered :
    Ready base ∧ kindOfCode 0#8 = none
      ∧ kindOfCode (kindCode .timeSet) = some .timeSet ∧ readRequest .timeSet 7 [] = none
      ∧ kindOfCode (kindCode .barState) = some .barState ∧ readRequest .barState 7 [3, 0, 0] = some none
      ∧ readRequest .freeLimits 7 [2, 0, 0, 0, 0, 0, 0, 0] = some none
      ∧ replying.takesEvents = true ∧ replying.link.slot.isSome = true
      ∧ (encodeRequest (.timeGet 8)).isSome = true
      ∧ (List.replicate 240 (0#8 : Byte)).length ≤ 240 ∧ 240 < (List.replicate 241 (0#8 : Byte)).length := by
  unfold Ready; decide +kernel

theorem witness_LinkEvents :
    (plant.takesEvents = true ∧ plant.link.receiver = .hunting)
      ∧ ((0#8 : Byte) ≠ 0xC3#8 ∧ ¬ (2 ≤ (0#8 : Byte).toNat * 256 + (243#8 : Byte).toNat
          ∧ (0#8 : Byte).toNat * 256 + (243#8 : Byte).toNat ≤ 242))
      ∧ (2 ≤ (0#8 : Byte).toNat * 256 + (242#8 : Byte).toNat ∧ (0#8 : Byte).toNat * 256 + (242#8 : Byte).toNat ≤ 242
        ∧ (List.replicate 243 (0#8 : Byte)).length < (0#8 : Byte).toNat * 256 + (242#8 : Byte).toNat + 2)
      ∧ ((List.replicate 240 (0#8 : Byte)).length ≤ 240 ∧ 0#16 ≠ crc16 (bytesOf 2 2 ++ [0x04#8, 7#8]))
      ∧ (midFrame.takesEvents = true ∧ midFrame.link.receiver = .readingLength none)
      ∧ ((frameBytes 0x04#8 7#8 []).length = 7 ∧ (frameBytes 0x04#8 7#8 []).drop 6 ≠ [])
      ∧ (let u := after (.frameDiscarded ⟨[0#8], false⟩) midFrame
         u.takesEvents = true ∧ u.link.receiver = .readingLength (some 0#8))
      ∧ (let u := after (.frameDiscarded ⟨[0#8, 242#8], false⟩) midFrame
         u.takesEvents = true ∧ u.link.receiver = .readingFrame 242 [])
      ∧ (let u := after (.frameDiscarded ⟨(frameBytes 0x04#8 7#8 []).take 6, false⟩) plant
         let crc := crc16 (bytesOf 2 2 ++ [0x04#8, 7#8])
         let high := (bytesOf 2 crc.toNat).take 1
         let low := (bytesOf 2 crc.toNat).drop 1
         u.takesEvents = true ∧ u.link.receiver = .readingFrame 2 ([0x04#8, 7#8] ++ high) ∧ low ≠ []
          ∧ ([0x04#8, 7#8] ++ high) ++ low = 0x04#8 :: 7#8 :: [] ++ bytesOf 2 crc.toNat)
      ∧ (replying.takesEvents = true ∧ replying.link.tx = .reply ∧ (replying.link.slot.map (·.start)) = some none)
      ∧ ((after (.restart 7) plant).link.tx = .reply
        ∧ ((after (.restart 7) plant).link.slot.map (·.start)) = some (some .restart))
      ∧ (let u := after (.replyTransmitted ⟨quietPins.straps, none⟩) (after (.timeGet 8) replying)
         u.takesEvents = true ∧ u.link.tx = .busyReply)
      ∧ (State.reset.takesEvents = true
        ∧ State.reset.link.tx = .notice ⟨⟨.system, .start .retentionLost⟩, .system .retentionLost 0 true⟩) := by decide +kernel

theorem witness_NoticesPostedAndSent :
    State.reset.link.tx ≠ .idle
      ∧ (let u : State := { replying with link := { replying.link with tx := .idle } }
         u.link.tx = .idle ∧ u.link.slot.isSome = true)
      ∧ (let u : State := { plant with link := { plant.link with busy := some ⟨1, 7⟩ } }
         u.link.tx = .idle ∧ u.link.slot = none ∧ u.link.busy.isSome = true)
      ∧ ((posted 19).link.tx = .idle ∧ (posted 19).link.slot = none ∧ (posted 19).link.busy = none
        ∧ (posted 19).link.notices = ⟨.line 1, .lineHold⟩ :: [] ∧ (posted 19).link.starts < (posted 19).link.pace)
      ∧ (posted 20).link.pace ≤ (posted 20).link.starts
      ∧ ((plant.line 1).chain = [] ∧ (plant.line 0).chain = kegOf 1 50000 0 0 :: [kegOf 2 50000 0 0]) := by decide +kernel

theorem witness_NoticePace : Ready base := by unfold Ready; decide +kernel

/-- At a whole minute an hour after the last clean of three lines: line 0 due, line 1 OVERDUE, line 47 neither. -/
def anHourOn : State :=
  let aged : ServiceState → Nat → Nat → Line := fun st soft hard =>
    { coldLine with state := st, lastClean := some 0, config := { coldLineConfig with softAge := soft, hardAge := hard } }
  after .clockSecond (after (.timeSet 7 3599)
    (((plant.setLine 0 (aged .dry 1 2)).setLine 1 (aged .dry 1 1)).setLine 47 (aged .dry 2 2)))

theorem test_age_notices :
    (after .cleaningDueAgeCheck anHourOn).link.notices = [⟨.line 0, .lineDue⟩, ⟨.line 1, .lineHold⟩] := by decide +kernel

theorem witness_ClockAndAges :
    Ready base
      ∧ (anHourOn.takesEvents = true ∧ anHourOn.store.minuteReached = true ∧ anHourOn.store.unset = false
        ∧ anHourOn.store.clock - 0 = 1 * 3600 ∧ (anHourOn.line 0).softAgeNoted = false ∧ (anHourOn.line 0).config.softAge = 1
        ∧ (anHourOn.line 0).config.hardAge = 2 ∧ (anHourOn.line 1).holds.overdue = false ∧ (anHourOn.line 1).config.hardAge = 1
        ∧ (anHourOn.line 47).config.softAge = 2)
      ∧ (let u := after .clockSecond (after (.timeSet 7 59) plant)
         u.takesEvents = true ∧ u.store.minuteReached = true ∧ u.store.unset = false)
      ∧ (plant.takesEvents = true ∧ plant.store.minuteReached = false ∧ plant.store.unset = true) := by
  unfold Ready; decide +kernel

theorem witness_StartsBegin :
    (Ready plant ∧ plant.pins.calSwitch = false)
      ∧ (Ready (calibrating 4 (bothBusy plant)) ∧ (calibrating 4 (bothBusy plant)).pins.calSwitch = true
        ∧ ((calibrating 4 (bothBusy plant)).circuit .a).state ≠ .idle)
      ∧ (Ready (calibrating 4 plant) ∧ ((calibrating 4 plant).circuit .a).state = .idle
        ∧ ((calibrating 4 plant).circuit .b).state = .idle)
      ∧ (plant.store.mainPower = true ∧ plant.store.resetHeld = false)
      ∧ (dark.store.mainPower = false ∧ dark.store.resetHeld = false)
      ∧ (heldReset.store.resetHeld = true ∧ heldReset.store.mainPower = true)
      ∧ ((after .mainPowerFail heldReset).store.mainPower = false ∧ (after .mainPowerFail heldReset).store.resetHeld = true)
      ∧ (plant.store.retentionLost = false ∧ (after .backupSupplyBelowMinimum dark).store.retentionLost = true) := by
  unfold Ready; decide +kernel

theorem witness_LineReadsAndProducts :
    Ready plant ∧ (plant.cellar.products.find? (fun p => p.code = 1)).isSome = true
      ∧ (∀ p ∈ plant.cellar.products, p.code ≠ 255) ∧ plant.cellar.products.length < 32
      ∧ (Ready fullTable ∧ (∀ p ∈ fullTable.cellar.products, p.code ≠ 255) ∧ 32 ≤ fullTable.cellar.products.length)
      ∧ (plant.line 0).config.product = 1
      ∧ ((∀ n, n < 48 → (fullTable.line n).config.product ≠ 131 ∧ ∀ k ∈ (fullTable.line n).chain, k.product ≠ 131)
        ∧ (fullTable.cellar.products.find? (fun p => p.code = 131)).map (fun p => (p.sales, p.histogram))
            = some (⟨0, 0⟩, Vector.replicate 8 0)) := by unfold Ready; decide +kernel

theorem witness_LineSet :
    Ready plant ∧ ConfigInRange plant limitConfig ∧ ¬ ConfigInRange plant { limitConfig with trunk := 12 }
      ∧ ¬ ConfigInRange plant { limitConfig with hardLimit := 299 } :=
  ⟨by unfold Ready; decide +kernel, by unfold ConfigInRange; decide +kernel, fun h => absurd h.1 (by decide),
    fun h => absurd h.2.2.2.2.2.2.2.1 (by decide)⟩

theorem witness_LineClearAndReturn :
    Ready plant ∧ (plant.line 47).state = .offline
      ∧ (Ready (tapWith none plant) ∧ ((tapWith none plant).line 0).state = .serving
        ∧ ((tapWith none plant).tap 0).route.line = some 0)
      ∧ ((plant.line 0).state = .serving ∧ (plant.line 0).inFlight = 0 ∧ ∀ i, i < 128 → (plant.tap i).route.line ≠ some 0)
      ∧ (Ready stockCase ∧ (stockCase.line 7).state = .serving ∧ (stockCase.line 7).inFlight = 0
        ∧ (stockCase.line 7).stock ≠ .normal ∧ ∀ i, i < 128 → (stockCase.tap i).route.line ≠ some 7)
      ∧ ((plant.line 2).state = .rinsed ∧ (plant.line 2).chain ≠ []) := by unfold Ready; decide +kernel

theorem witness_LineHold :
    Ready plant ∧ (plant.line 47).state = .offline ∧ (plant.line 0).state ≠ .offline
      ∧ (((tapWith (some (pourOf .pouring)) plant).tap 0).pour = some (pourOf .pouring) ∧ (pourOf .pouring).phase ≠ .orphaned
        ∧ (pourOf .pouring).record.line = 0 ∧ (pourOf .pouring).record.stopSent = false) := by unfold Ready; decide +kernel

theorem witness_KegAddAndRemove :
    Ready plant ∧ Ready fullChain ∧ (∃ p ∈ plant.cellar.products, p.code = 1) ∧ (plant.line 47).state = .offline
      ∧ 6 ≤ (fullChain.line 0).chain.length ∧ (plant.line 1).state = .dry ∧ (plant.line 1).chain.length < 6
      ∧ (∃ k ∈ (plant.line 0).chain, k.id = 2) ∧ (∀ m, m < 48 → ∀ k ∈ (plant.line m).chain, k.id ≠ 4294967295)
      ∧ (plant.line 0).chain = kegOf 1 50000 0 0 :: [kegOf 2 50000 0 0] := by unfold Ready; decide +kernel

theorem witness_HeadRetires :
    Ready stockCase ∧ (stockCase.line 47).chain = []
      ∧ (stockCase.line 7).chain = kegOf 1 500000 249000 471350 :: [kegOf 2 500000 0 0, kegOf 3 300000 0 0]
      ∧ (let u := after (.detectorRearm 7) stockCase
         u.takesEvents = true ∧ u.cellar.detectorArmed[7] = true ∧ (u.line 7).state = .serving)
      ∧ stockCase.cellar.detectorArmed[7] = false := by unfold Ready; decide +kernel

theorem witness_CellarPulse :
    plant.takesEvents = true ∧ (plant.line 1).chain = []
      ∧ ((plant.line 0).state = .serving ∧ (plant.line 0).chain = kegOf 1 50000 0 0 :: [kegOf 2 50000 0 0]
        ∧ (kegOf 1 50000 0 0).coupler = 1)
      ∧ (plant.line 4).state = .priming
      ∧ (plant.line 4).chain = kegOf 4 50000 0 0 :: [] := by decide +kernel

/-- An orphan on tap 0, last seen running at a count. -/
def orphanPour (running : Nat) : Pour :=
  { pourOf .orphaned with record := { (pourOf .orphaned).record with lastRunning := running } }
def orphanAt (running : Nat) : State := tapWith (some (orphanPour running)) plant

theorem witness_TapReads : Ready (tapWith none plant) := by unfold Ready; decide +kernel

theorem witness_TapSet :
    let inFlight := tapWith (some (pourOf .granted)) plant
    let orphan := tapWith (some (pourOf .orphaned)) plant
    let two := (tapWith none plant).setTap 1 { coldTap with configured := true }
    Ready plant ∧ nodeConfigured plant 32 = false
      ∧ (Ready two ∧ (two.tap 1).pour = none ∧ nodeConfigured (unassignTap 1 two) 1 = true)
      ∧ (let s := polled .present 0
         Ready s ∧ (s.tap 0).pour = none ∧ nodeConfigured s 1 = true ∧ nodeConfigured (unassignTap 0 s) 1 = false
          ∧ s.bus.phase = .exchange (formPoll 1 (s.node 1)))
      ∧ (Ready (tapWith none plant) ∧ ((tapWith none plant).tap 0).pour = none ∧ (tapWith none plant).bus.phase = .emptyRound)
      ∧ (Ready inFlight ∧ nodeConfigured inFlight 1 = true ∧ (inFlight.tap 0).pour ≠ none)
      ∧ (plant.tap 127).pour = none
      ∧ (Ready orphan ∧ (orphan.tap 0).pour = some (pourOf .orphaned) ∧ presence orphan 0 ≠ .present
        ∧ (pourOf .orphaned).record.line < 48 ∧ (pourOf .orphaned).record.lastRunning = 0)
      ∧ (Ready (orphanAt 9) ∧ ((orphanAt 9).tap 0).pour = some (orphanPour 9) ∧ presence (orphanAt 9) 0 ≠ .present
        ∧ (orphanPour 9).record.lastRunning ≠ 0) := by
  unfold Ready; decide +kernel

theorem witness_SizesAndLimits :
    Ready plant ∧ (∀ x ∈ (#v[⟨0, 0⟩, ⟨100, 500⟩, ⟨20000, 0⟩, ⟨0, 500⟩] : SizeSet).toList,
      (x.target = 0 ∨ (100 ≤ x.target ∧ x.target ≤ 20000)) ∧ x.tolerance ≤ 500)
      ∧ ¬ (∀ x ∈ (#v[⟨99, 0⟩, ⟨0, 0⟩, ⟨0, 0⟩, ⟨0, 0⟩] : SizeSet).toList,
        (x.target = 0 ∨ (100 ≤ x.target ∧ x.target ≤ 20000)) ∧ x.tolerance ≤ 500) := by unfold Ready; decide +kernel

theorem witness_BarState : Ready plant ∧ 3 ≤ (3#8 : Byte).toNat := by unfold Ready; decide +kernel

/-- Tap 0 goes from line 1, DRAINING behind it, to line 0 where the map swaps. -/
def leaving (p : Option Pour) : State :=
  let s := (queued false).setTap 0 { coldTap with route := { line := some 1, portionOnly := false, sizeSet := 0 }, pour := p }
  { s with pour := { s.pour with mapB := (incomingTo 0).pour.mapB } }

/-- R6, R35 and R39: the swap takes tap 0 from line 1, which queues the line, and IDLE circuit A takes it. -/
theorem test_swap_lets_a_line_queue :
    let t := after (.routeSwap 7) (leaving none)
    (t.line 1).state = .cleaning ∧ (t.circuit .a).batch = [1] ∧ t.clean.queue = [] ∧ (t.tap 0).route.line = some 0 := by
  decide +kernel

theorem witness_RouteChanges :
    let waits := (tapWith none plant).setTap 0 { (tapWith none plant).tap 0 with deferred := true }
    Ready plant ∧ plant.pour.active = .a
      ∧ (∀ e ∈ (List.replicate 32 (⟨255, true, 3⟩ : RouteEntry)), (e.line ≤ 47 ∨ e.line = 255) ∧ e.sizeSet ≤ 3)
      ∧ (Ready waits ∧ (waits.tap 0).deferred = true)
      ∧ (Ready (incomingTo 3) ∧ (mapEntry (incomingTo 3).pour.mapB 0).line = some 3
        ∧ ((incomingTo 3).tap 0).lockout = false ∧ ((incomingTo 3).line 3).mark = true
        ∧ ∀ i, i < 128 → ((incomingTo 3).tap i).deferred = false)
      ∧ (∀ i, i < 128 → i ≠ 0 → (mapEntry (incomingTo 0).pour.mapB i).line = none)
      ∧ ((mapEntry (incomingTo 0).pour.mapB 0).line = some 0 ∧ ((incomingTo 0).line 0).mark = false
        ∧ ((incomingTo 0).line 0).state = .serving)
      ∧ (Ready (incomingTo 0) ∧ (∀ i, i < 128 → ((incomingTo 0).tap i).deferred = false)
        ∧ ∀ n, n < 48 → ((incomingTo 0).line n).state ≠ .draining ∧ ((incomingTo 0).line n).state ≠ .queued)
      ∧ (Ready (bothBusy (leaving none)) ∧ (∀ i, i < 128 → ((leaving none).tap i).deferred = false)
        ∧ ((leaving none).tap 0).pour = none ∧ ((leaving none).tap 0).route.line = some 1 ∧ ((leaving none).line 1).state = .draining
        ∧ (mapEntry (leaving none).pour.mapB 0).line = some 0 ∧ ((leaving none).line 0).state = .serving
        ∧ (∀ e ∈ (leaving none).clean.queue, e.line ≠ 0) ∧ ((bothBusy (leaving none)).circuit .b).state ≠ .idle)
      ∧ (Ready (leaving (some (pourOf .granted))) ∧ ((leaving (some (pourOf .granted))).tap 0).pour ≠ none
        ∧ ((leaving (some (pourOf .granted))).tap 0).withheld = false) := by unfold Ready; decide +kernel

theorem witness_AskAndGrant :
    (askRefusal 0 1 asking = none ∧ askRefusal 127 1 asking = some .offline ∧ askRefusal 0 1 plant = some .offline)
      ∧ ([] : List QueuedItem).length < 8
      ∧ (let stop : QueuedItem := ⟨.stop 0 3, false⟩
         let full := [stop] ++ ⟨.refuse 1 .dark, false⟩ :: List.replicate 6 ⟨.refuse 2 .dry, true⟩
         8 ≤ full.length ∧ Item.refuse 1 .dark = .refuse 1 .dark ∧ ∀ k reason, stop.item ≠ .refuse k reason) := by
  refine ⟨by decide +kernel, by decide, by decide, rfl, ?_⟩
  intro k reason
  exact Item.noConfusion

/-- A pour in flight on line 0, counted by the line. -/
def flowing : State :=
  let s := tapWith (some (pourOf .pouring)) plant
  s.setLine 0 { s.line 0 with inFlight := 1 }

/-- Tap 0's pour on a line with a due volume of 1 tenth, soft or hard, and a hard temperature limit of 9.0 degrees. -/
def limited (soft hard : Nat) : State :=
  flowing.setLine 0 { flowing.line 0 with config := { (flowing.line 0).config with softVolume := soft, hardVolume := hard } }

/-- R23, R25 and R26: the last cause of the line's notice. -/
theorem test_pour_end_notices :
    let ends : Nat → Nat → Int → List Notice := fun soft hard x =>
      (finishPour 0 3 2500 0 (some x) .handle (limited soft hard)).link.notices
    ends 1 0 91 = [⟨.line 0, .lineDue⟩] ∧ ends 1 1 90 = [⟨.line 0, .lineHold⟩] ∧ ends 0 0 91 = [⟨.line 0, .lineHold⟩]
      ∧ ends 0 0 90 = [] := by decide +kernel

theorem witness_PourEnds :
    ((plant.tap 127).pour = none)
      ∧ (((limited 1 1).line 0).state ≠ .offline ∧ ((limited 1 1).line 0).softVolumeNoted = false
        ∧ ((limited 1 1).line 0).holds = HoldSet.empty ∧ ((limited 1 1).line 0).config.hardVolume = 1)
      ∧ ((tapWith (some (pourOf .pouring)) plant).tap 0).pour = some (pourOf .pouring)
      ∧ (pourOf .pouring).record.token = 3 ∧ (pourOf .pouring).record.line < 48
      ∧ (let s := bothBusy (flowing.setLine 0 { flowing.line 0 with state := .draining })
         (s.tap 0).deferred = false ∧ (s.tap 0).withheld = false ∧ (s.line 0).state = .draining ∧ (s.line 0).inFlight ≤ 1
           ∧ (s.circuit .a).state ≠ .idle ∧ (s.circuit .b).state ≠ .idle)
      ∧ (let s := flowing.setTap 0 { flowing.tap 0 with deferred := true }
         (s.tap 0).deferred = true ∧ (s.tap 0).withheld = false ∧ (s.tap 0).pour = some (pourOf .pouring)) := by decide +kernel

theorem witness_RestartKeeps :
    FirstDue 0 1 (restart { tied1 := false, tied2 := false } (tapWith none plant)) 1
      ∧ (∀ b, b < 33 → ¬ DueIn 0 (restart { tied1 := false, tied2 := false } plant) b) := by
  unfold FirstDue DueIn
  refine ⟨⟨by decide, by decide, by decide +kernel, fun c h1 h2 => absurd h2 (by omega)⟩, by decide +kernel⟩

theorem witness_ResetMeetsLaws :
    let s : State := { State.reset with bus := { State.reset.bus with phase := .stopped } }
    s.pins = quietPins ∧ s.bus.phase = .stopped ∧ s.bus.abandoned = none ∧ s.pending = [] := by decide +kernel

theorem witness_MissedExchange :
    (plant.takesEvents = true ∧ plant.bus.phase = .emptyRound)
      ∧ (let s := polled .absent 0; s.takesEvents = true ∧ s.bus.phase = .exchange (formPoll 1 (s.node 1)))
      ∧ (let s := polled .present 1; s.bus.phase = .exchange (formPoll 1 (s.node 1)) ∧ (s.node 1).misses + 1 < 3)
      ∧ (let s := polled .present 2; s.bus.phase = .exchange (formPoll 1 (s.node 1)) ∧ 3 ≤ (s.node 1).misses + 1)
      ∧ FirstDue 0 32 (plant.setTap 127 { coldTap with configured := true }) 32
      ∧ (∀ b, 1 < b → b ≤ 32 → ¬ DueIn 1 plant b) ∧ FirstDue 2 1 (polled .present 0) 1 := by
  refine ⟨by decide +kernel, by decide +kernel, by decide +kernel, by decide +kernel, ⟨by omega, by omega, ?_, ?_⟩, ?_,
    ⟨by omega, by omega, ?_, ?_⟩⟩
  · unfold DueIn; decide +kernel
  · intro c h k; omega
  · intro b _ h
    have h' : ∀ b, b ≤ 32 → ¬ DueIn 1 plant b := by unfold DueIn; decide +kernel
    exact h' b h
  · unfold DueIn; decide +kernel
  · intro c h k; omega

theorem witness_ReplyAndRound :
    let s := polled .present 1
    let late : State := { s with bus := { s.bus with abandoned := some 2 } }
    (s.takesEvents = true ∧ s.bus.phase = .exchange (formPoll 1 (s.node 1))
        ∧ (readReply (quietReply 1)).map (·.address) = some 1)
      ∧ ((readReply (quietReply 2)).map (·.address) = some 2 ∧ late.bus.abandoned = some 2)
      ∧ readReply [1, 1, 0, 0, 0, 0, 0, 0] = none
      ∧ (readReply (withCrc eventBytes) = some eventReply ∧ readReply (withCrc eventBytes ++ [0]) = some eventReply)
      ∧ (plant.takesEvents = true ∧ plant.bus.phase = .emptyRound ∧ ∀ a, a ≤ 32 → nodeConfigured plant a = false)
      ∧ (let r : State := { tapWith none plant with bus := { plant.bus with round := 7 } }
         r.bus.phase = .emptyRound ∧ nodeConfigured r 1 = true ∧ (r.bus.round + 1) % 8 = 0)
      ∧ ((s.node 1).tapCount = some 1 ∧ (plant.node 32).tapCount = none)
      ∧ (let locked := (tapWith none plant).setTap 0 { (tapWith none plant).tap 0 with lockout := true }
         (locked.tap 0).lockout = true ∧ ((tapWith none plant).tap 0).lockout = false
          ∧ (evalDrain 0 (locked.setTap 0 (locked.tap 0))).tap 0 = locked.tap 0 ∧ (locked.tap 0).withheld = false)
      ∧ (let back := (tapWith none plant).setTap 0 { (tapWith none plant).tap 0 with route := Route.dark, withheld := true }
         (back.tap 0).lockout = false ∧ (back.tap 0).route.line = none ∧ (back.tap 0).withheld = true)
      ∧ ((plant.tap 127).pour = none ∧ ((orphanAt 9).tap 0).pour = some (orphanPour 9) ∧ (orphanPour 9).phase = .orphaned
        ∧ (orphanPour 9).record.lastRunning ≠ 0 ∧ (orphanPour 0).record.lastRunning = 0)
      ∧ (let n : Node := { s.node 1 with lastTaken := some 15 }
         (s.node 1).lastTaken = none ∧ n.lastTaken = some 15 ∧ 0 = (15 + 1) % 16 ∧ 15 ≠ (15 + 1) % 16) := by decide +kernel

theorem witness_StatusReport : Ready plant := by unfold Ready; decide +kernel

theorem witness_TakeRecord :
    (plant.acct.journal.length < 4096 ∧ plant.acct.nextSeq ≤ 4294967295 ∧ plant.acct.pourPurge < 4032)
      ∧ (let full : State := { plant with acct := { plant.acct with pourPurge := 4032 } }
         ¬ full.acct.pourPurge < 4032) := by decide +kernel

theorem witness_JournalRequests :
    Ready (journalOf 9) ∧ JournalLaw (journalOf 9) ∧ (journalOf 9).acct.nextSeq - (journalOf 9).acct.journal.length = 1 := by
  unfold Ready JournalLaw; decide +kernel

theorem witness_TotalsReads :
    Ready plant ∧ (plant.cellar.products.find? (fun p => p.code = 1)).isSome = true
      ∧ (∀ p ∈ plant.cellar.products, p.code ≠ 255) := by unfold Ready; decide +kernel

theorem witness_ClearAndReconcile :
    (Ready (journalOf 1) ∧ (journalOf 1).acct.journal ≠ []) ∧ (Ready plant ∧ plant.acct.journal = [])
      ∧ (plant.line 47).chain = [] ∧ (plant.line 2).chain = kegOf 3 50000 0 0 :: [] := by unfold Ready; decide +kernel

theorem witness_WatchRequests :
    Ready (watching .tripped) ∧ (watching .tripped).watch 7
        = { target := .tap 0, condition := .volumeOver, threshold := 5000, action := .hold, state := .tripped, count := 1 }
      ∧ ([(0, 127), (1, 47), (2, 15), (3, 0)].map (fun x => watchTargetOf x.1 x.2)
        = [some (.tap 127), some (.line 47), some (.bar 15), some .all])
      ∧ (∀ x ∈ [(0, 128), (1, 48), (2, 16), (4, 0)], watchTargetOf x.1 x.2 = none)
      ∧ watchConditionOf 4 = some .shortOrOver ∧ watchConditionOf 5 = none ∧ watchActionOf 1 = some .hold ∧ watchActionOf 2 = none
      ∧ (Ready (heldByWatch .tripped) ∧ ((heldByWatch .tripped).line 0).holds.watch = true
        ∧ ((heldByWatch .tripped).line 1).holds.watch = false) := by
  unfold Ready; decide +kernel

theorem witness_WatchVisit :
    ((watching .off).watch 7).state = .off ∧ ((watching .armed).watch 7).state = .armed
      ∧ ((watching .tripped).watch 7).state = .tripped ∧ ((watching .armed).watch 7).target = .tap pourRec.tap
      ∧ ((watching .armed).watch 7).threshold < pourRec.volume
      ∧ (((heldByWatch .armed).watch 7).target = .all ∧ ((heldByWatch .armed).watch 7).action = .hold
        ∧ ((heldByWatch .armed).watch 7).state = .armed ∧ ((heldByWatch .armed).line 1).holds.watch = false) := by
  decide +kernel

theorem witness_CalWindowAndRead :
    (Ready plant ∧ plant.pins.calSwitch = false)
      ∧ (Ready (calibrating 4 plant) ∧ (calibrating 4 plant).pins.calSwitch = true
        ∧ (calibrating 4 plant).acct.window.isOpen = true)
      ∧ (let shut : State := { plant with pins := { plant.pins with calSwitch := true } }
         Ready shut ∧ shut.pins.calSwitch = true ∧ shut.acct.window.isOpen = false) := by unfold Ready; decide +kernel

theorem witness_CalWrite :
    let s := calibrating 1 (tapWith (some (pourOf .granted)) plant)
    (Ready plant ∧ plant.acct.window.isOpen = false)
      ∧ (Ready s ∧ s.acct.window.isOpen = true ∧ (s.tap 0).pour ≠ none ∧ (s.tap 127).pour = none
        ∧ (s.circuit .b).state = .idle)
      ∧ (Ready (calibrating 1 (bothBusy plant)) ∧ (calibrating 1 (bothBusy plant)).acct.window.isOpen = true
        ∧ ((calibrating 1 (bothBusy plant)).circuit .a).state ≠ .idle) := by unfold Ready; decide +kernel

theorem witness_CoolingRequests :
    let four : State := { plant with cool := { plant.cool with count := 4, stages := plant.cool.stages.set 3 ⟨true, 0⟩ } }
    let bad : State := { plant with pins := { plant.pins with stageFault := plant.pins.stageFault.set 3 true } }
    Ready plant ∧ plant.cool.surges = [] ∧ plant.store.unset = true
      ∧ (Ready four ∧ (four.stage 3).running = true)
      ∧ (Ready bad ∧ bad.cool.count ≤ 3 ∧ bad.pins.stageFault[3] = true ∧ ∀ i, i < 4 → (bad.stage i).running = false)
      ∧ (Ready fullPlan ∧ 4 ≤ fullPlan.cool.surges.length ∧ (∃ e ∈ fullPlan.cool.surges, e.start = 300)
        ∧ ∀ e ∈ fullPlan.cool.surges, e.start ≠ 301) := by unfold Ready; decide +kernel

theorem witness_AllocationAndTimers :
    let timed := plant.setTrunk 11 { coldTrunk with alarmTimer := 300, releaseTimer := 120, dutyInForce := 99 }
    let open100 := plant.setTrunk 11 { coldTrunk with dutyInForce := 100 }
    let bad : State := { plant with pins := { plant.pins with stageFault := Vector.replicate 4 true } }
    (∀ t ∈ (shortfall 2).cool.trunks.toList, 1 ≤ t.allocCls ∧ t.allocCls ≤ 3)
      ∧ (timed.takesEvents = true ∧ (timed.trunk 11).alarmTimer = 300 ∧ (timed.trunk 11).alarm = false
        ∧ (timed.trunk 11).releaseTimer = 120 ∧ (timed.trunk 11).dutyInForce < 100)
      ∧ (open100.takesEvents = true ∧ 100 ≤ (open100.trunk 11).dutyInForce ∧ (open100.trunk 11).alarmTimer ≠ 300
        ∧ (open100.trunk 11).releaseTimer ≠ 120)
      ∧ ((shortfall 2).takesEvents = true ∧ (shortfall 2).pins.stageFault[1] = false ∧ 1 < (shortfall 2).cool.count
        ∧ ((shortfall 2).stage 1).running = true)
      ∧ (plant.pins.stageFault[0] = false ∧ 0 < plant.cool.count ∧ (plant.stage 0).running = false)
      ∧ (plant.pins.stageFault[2] = false ∧ ¬ 2 < plant.cool.count)
      ∧ (bad.takesEvents = true ∧ bad.pins.stageFault[2] = true)
      ∧ (let held := timed.setLine 47 (tempHeld 11)
         held.takesEvents = true ∧ (held.trunk 11).releaseTimer = 120 ∧ (held.line 47).holds.temp = true
          ∧ (held.line 47).config.trunk = 11) := by decide +kernel

theorem witness_ControlPeriod : (shortfall 2).takesEvents = true := by decide +kernel

theorem witness_SensorSample :
    let faulted : State := { base with cool := coldCooling { quietPins with stageFault := #v[true, false, false, false] } }
    let froze : State := { shortfall 2 with cool := { (shortfall 2).cool with freezeHold := true, bathFault := true } }
    (shortfall 2).takesEvents = true ∧ (shortfall 2).cool.freezeHold = false ∧ (shortfall 2).cool.bathFault = false
      ∧ ((shortfall 2).stage 0).running = true ∧ froze.takesEvents = true ∧ froze.cool.freezeHold = true
      ∧ (faulted.takesEvents = true ∧ faulted.cool.startFaults[0] = true ∧ faulted.cool.freezeHold = false)
      ∧ (∀ i : Fin 4, (shortfall 2).cool.startFaults[i] = false)
      ∧ (let blind : State := { shortfall 2 with cool := { (shortfall 2).cool with bathFault := true } }
         let s := blind.setTrunk 11 { coldTrunk with sensorFault := true }
         s.takesEvents = true ∧ (s.trunk 11).sensorFault = true ∧ (s.trunk 11).alarm = false ∧ s.cool.bathFault = true
          ∧ s.cool.freezeHold = false) := by decide +kernel

/-- The steps of a program of one FILL with a VERIFY behind it, and with none. -/
def carried (last : Nat) : List StepEntry :=
  [⟨2, 1000000, 0, true⟩, ⟨3, 3600, 0, false⟩, ⟨5, 0, 0, false⟩, ⟨last, 1000, 2000000, false⟩]

theorem witness_ProgramTable :
    Ready plant ∧ plant.programSlot 7 = none
      ∧ (∀ x ∈ [0, 1, 2, 3, 4, 5, 6, 7], ∀ e ∈ (queued true).clean.queue, e.program = x → x = 0)
      ∧ ((queued true).clean.queue.map (·.program) = [0])
      ∧ ((carried 6)[0]?.map (·.kind) = some 2 ∧ (carried 6)[3]?.map (·.kind) = some 6
        ∧ (carried 6).all (fun e => (e.kind = 2 && 1000 ≤ e.amount && e.amount ≤ 1000000)
          || (e.kind = 3 && 1 ≤ e.amount && e.amount ≤ 3600) || (e.kind = 5 && e.amount = 0 && e.limit = 0)
          || (e.kind = 6 && 1000 ≤ e.amount && e.amount < e.limit && e.limit ≤ 2000000)) = true)
      ∧ (carried 1).all (fun e => e.kind ≠ 6) = true := by unfold Ready; decide +kernel

theorem witness_CleanQueueRequests :
    let s := withProgram (programWith .rinse 80000) plant
    let noVerify := withProgram { threshold := 150, steps := [⟨.rinse, 80000, 0, false⟩] } plant
    let routed := withProgram (programWith .rinse 80000) (tapWith none plant)
    let aBusy := s.setCircuit .a { coldCircuit with state := .running }
    Ready s ∧ (s.line 47).state = .offline ∧ (s.line 3).state = .foul ∧ s.programSlot 7 = none
      ∧ (∃ g, s.programSlot 0 = some g ∧ g = programWith .rinse 80000) ∧ s.clean.queue = []
      ∧ ((s.line 1).inFlight = 0 ∧ (∀ i, i < 128 → (s.tap i).route.line ≠ some 1) ∧ (s.circuit .a).state = .idle)
      ∧ (Ready aBusy ∧ (aBusy.circuit .a).state ≠ .idle ∧ (aBusy.circuit .b).state = .idle ∧ (aBusy.line 1).state = .dry)
      ∧ (Ready noVerify ∧ (noVerify.line 3).mark = true
        ∧ (noVerify.programSlot 0).map (fun g => g.steps.all fun st => st.kind ≠ .verify) = some true)
      ∧ (Ready routed ∧ (routed.tap 0).route.line = some 0 ∧ (routed.tap 0).lockout = false ∧ (routed.line 0).mark = false)
      ∧ (Ready (bothBusy s) ∧ ((bothBusy s).circuit .a).state ≠ .idle ∧ ((bothBusy s).circuit .b).state ≠ .idle)
      ∧ (Ready (queued true) ∧ (∃ e ∈ (queued true).clean.queue, e.line = 1) ∧ ((queued true).line 1).state = .queued
        ∧ ((queued true).line 1).preDrain = some .dry) := by
  refine ⟨by unfold Ready; decide +kernel, by decide +kernel, by decide +kernel, by decide +kernel, ⟨_, rfl, rfl⟩, ?_⟩
  unfold Ready; decide +kernel

theorem witness_CircuitRequests :
    let run := circuitAt .running none (programWith .rinse 80000)
    let stopped := circuitAt .paused (some .stop) (programWith .rinse 80000)
    (Ready plant ∧ (plant.circuit .b).state = .idle) ∧ (Ready run ∧ (run.circuit .a).state = .running)
      ∧ (Ready stopped ∧ (stopped.circuit .a).pauseCause = some .stop)
      ∧ (Ready atPause ∧ (atPause.circuit .a).state = .paused ∧ (atPause.circuit .a).pauseCause = some .pauseStep
        ∧ currentStep atPause .a = some ⟨.pause, 0, 0, true⟩) := by unfold Ready; decide +kernel

theorem witness_Batches :
    let run := circuitAt .running none (programWith .rinse 80000)
    ((queued false).circuit .a).state = .idle ∧ (∀ e ∈ (queued false).clean.queue, e.ready = false)
      ∧ (((queued true).circuit .a).state = .idle ∧ QueueLaw (queued true)
        ∧ (queued true).clean.queue.find? (·.ready) = some ⟨1, 0, true⟩)
      ∧ ((run.circuit .a).batch.Nodup ∧ ∀ n ∈ (run.circuit .a).batch, n < 48 ∧ (run.line n).state = .cleaning)
      ∧ (let s := run.setTap 127 { coldTap with lockout := true, route := { line := some 3, portionOnly := false, sizeSet := 0 } }
         (s.tap 127).route.line = some 3 ∧ (s.tap 127).lockout = true ∧ (s.line 3).state = .cleaning
           ∧ (s.circuit .a).state ≠ .idle ∧ 3 ∈ (s.circuit .a).batch ∧ 3 ∉ (s.circuit .b).batch)
      ∧ (let s := run.setLine 3 { lineOf .cleaning false [] with holds := { HoldSet.empty with overdue := true } }
         (s.circuit .a).batch = [3] ∧ (s.line 3).state = .cleaning ∧ (s.line 3).holds.overdue = true) := by
  unfold QueueLaw; decide +kernel

theorem witness_Steps :
    let fill := circuitAt .running none (programWith .fill 80000)
    let dry : State := { fill with pins := { fill.pins with solutionLow := ⟨true, true⟩ } }
    let loose := fill.setTap 127 { coldTap with route := { line := some 3, portionOnly := false, sizeSet := 0 } }
    let rinse := circuitAt .stopping none (programWith .rinse 80000)
    let thirsty : State := { rinse with pins := { rinse.pins with waterLow := ⟨true, true⟩ } }
    (currentStep fill .a = some ⟨.fill, 80000, 0, true⟩ ∧ (∀ i, i < 128 → (fill.tap i).route.line ≠ some 3)
        ∧ fill.pins.solutionLow.sel .a = false)
      ∧ dry.pins.solutionLow.sel .a = true
      ∧ ((loose.tap 127).route.line = some 3 ∧ (loose.tap 127).lockout = false ∧ 3 ∈ (loose.circuit .a).batch)
      ∧ (currentStep rinse .a = some ⟨.rinse, 80000, 0, true⟩ ∧ rinse.pins.waterLow.sel .a = false)
      ∧ thirsty.pins.waterLow.sel .a = true
      ∧ currentStep (circuitAt .running none (programWith .soak 60)) .a = some ⟨.soak, 60, 0, true⟩
      ∧ currentStep atPause .a = some ⟨.pause, 0, 0, true⟩
      ∧ ((rinse.circuit .a).program = some 0 ∧ rinse.programSlot 0 = some (programWith .rinse 80000)
        ∧ (rinse.circuit .a).stepIndex = some 1 ∧ 1 < (programWith .rinse 80000).steps.length
        ∧ (rinse.circuit .a).state = .stopping ∧ (fill.circuit .a).state ≠ .stopping)
      ∧ (programWith .rinse 80000).steps.length ≤ 2
      ∧ (let s := purging 4031
         currentStep s .a = some ⟨.purge, 80000, 0, true⟩ ∧ (s.circuit .a).program = some 0 ∧ (s.circuit .a).batch = [3]
          ∧ s.acct.pourPurge < 4032 ∧ ¬ (purging 4032).acct.pourPurge < 4032) := by decide +kernel

theorem witness_CircuitEvents :
    let at1 := fun k => circuitAt .running none (programWith k 80000)
    let verifying := (at1 .rinse).setCircuit .a { (at1 .rinse).circuit .a with stepIndex := some 2, settling := true }
    plant.takesEvents = true ∧ (plant.circuit .a).state = .idle
      ∧ (atPause.takesEvents = true ∧ (atPause.circuit .a).state = .paused)
      ∧ (BatchLaw (at1 .rinse) ∧ 3 ∈ ((at1 .rinse).circuit .a).batch)
      ∧ (∀ k ∈ [StepKind.purge, .rinse, .fill, .soak, .circulate, .pause],
        (at1 k).takesEvents = true ∧ ((at1 k).circuit .a).state = .running
          ∧ (currentStep (at1 k) .a).map (·.kind) = some k)
      ∧ (verifying.takesEvents = true ∧ (currentStep verifying .a).map (·.kind) = some .verify) := by
  unfold BatchLaw; decide +kernel

theorem witness_OutOfRange : Ready plant := by unfold Ready; decide +kernel

theorem witness_StepKeepsJournal :
    JournalLaw (journalOf 9) ∧ step ((journalOf 9).withPending [.journalRelease 7 9])
      = .next (after (.journalRelease 7 9) (journalOf 9)) := by
  refine ⟨by unfold JournalLaw; decide +kernel, rfl⟩

theorem witness_StepKeepsNotices :
    NoticeLaw (posted 20) ∧ step ((posted 20).withPending [.lineHoldApply 7 1 false])
      = .next (after (.lineHoldApply 7 1 false) (posted 20)) := by
  refine ⟨by unfold NoticeLaw; decide +kernel, rfl⟩

theorem witness_StepKeepsChains :
    ChainLaw fullChain ∧ step (fullChain.withPending [.kegAdd 7 1 99 1 10000 false])
      = .next (after (.kegAdd 7 1 99 1 10000 false) fullChain) := by
  refine ⟨by unfold ChainLaw; decide +kernel, rfl⟩

theorem witness_StepKeepsInFlight :
    InFlightLaw flowing ∧ step (flowing.withPending [.lineHoldApply 7 0 true])
      = .next (after (.lineHoldApply 7 0 true) flowing) := by
  refine ⟨by unfold InFlightLaw; decide +kernel, rfl⟩

theorem witness_StepKeepsMetering :
    MeteringLaw flowing ∧ step (flowing.withPending [.tapGet 7 0]) = .next (after (.tapGet 7 0) flowing) := by
  refine ⟨by unfold MeteringLaw TapOk; decide +kernel, rfl⟩

theorem witness_StepKeepsConservation :
    ConservationLaw flowing ∧ step (flowing.withPending [.tapGet 7 0]) = .next (after (.tapGet 7 0) flowing)
      ∧ Unsaturated (after (.tapGet 7 0) flowing) := by
  refine ⟨by unfold ConservationLaw; decide +kernel, rfl, by unfold Unsaturated; decide +kernel⟩

theorem witness_StepKeepsAllocation :
    AllocationLaw (allocate (shortfall 2)) ∧ step ((allocate (shortfall 2)).withPending [.stageFault 1])
      = .next (after (.stageFault 1) (allocate (shortfall 2))) := by
  refine ⟨by unfold AllocationLaw; decide +kernel, rfl⟩

theorem witness_StepKeepsStaging :
    StagingLaw (shortfall 2) ∧ ((shortfall 2).stage 1).running = true
      ∧ step ((shortfall 2).withPending [.stageFault 1]) = .next (after (.stageFault 1) (shortfall 2)) := by
  refine ⟨by unfold StagingLaw; decide +kernel, by decide +kernel, rfl⟩

/-- Line 1 QUEUED while both circuits run. -/
def waiting : State := bothBusy (queued true)

theorem witness_StepKeepsCleaning :
    CleaningLaws waiting ∧ LockLaw waiting ∧ TakingLaw waiting
      ∧ step (waiting.withPending [.cleanWithdraw 7 1]) = .next (after (.cleanWithdraw 7 1) waiting) := by
  have other : ∀ n, n < 48 → n ≠ 1 → LineMarkLaw (waiting.line n) := by
    have h : ∀ n, n < 48 → n ≠ 1 → markFits (waiting.line n).state (waiting.line n).mark
        ∧ ¬ ((waiting.line n).state = .draining ∨ (waiting.line n).state = .queued) := by
      unfold markFits; decide +kernel
    exact fun n hn h1 => ⟨(h n hn h1).1, fun hd => absurd hd (h n hn h1).2⟩
  have one : LineMarkLaw (waiting.line 1) :=
    ⟨by unfold markFits; decide +kernel, fun _ => ⟨.dry, by unfold isPreDrain markFits; decide +kernel⟩⟩
  refine ⟨⟨fun n hn => ?_, by unfold QueueLaw; decide +kernel, by unfold BatchLaw; decide +kernel⟩,
    by unfold LockLaw; decide +kernel, by unfold TakingLaw; decide +kernel, rfl⟩
  by_cases h : n = 1
  · exact h ▸ one
  · exact other n hn h

end Sys2Proof.Tests
end

section
/-! ### What the laws of chains, of pours in flight and of cleaning read

Most operations change figures of a line, a tap or a circuit that none of these laws reads. `Alike` says that two states agree on what
they do read; one lemma per operation says that its outcome is alike to the state before it. -/

namespace Sys2Proof.Machine

open Sys2Proof Sys2Proof.Safety

/-- What the laws read of a line: service state, mark, pre-drain state, in-flight count and keg ids. -/
def Line.view (l : Line) : ServiceState × Bool × Option ServiceState × Nat × List Nat :=
  (l.state, l.mark, l.preDrain, l.inFlight, l.chain.map (·.id))

/-- The line that the pour in flight of a tap names. -/
def Tap.flight (t : Tap) : Option Nat := t.pour.map (·.record.line)

/-- What the laws read of a tap: the line of its route, its lockout and the line of its pour in flight. -/
def Tap.view (t : Tap) : Option Nat × Bool × Option Nat := (t.route.line, t.lockout, t.flight)

/-- What the laws read of a circuit: its state and its batch. -/
def CircuitRec.view (r : CircuitRec) : CircuitState × List Nat := (r.state, r.batch)

/-- `t` agrees with `s` on everything the laws read. -/
structure Alike (s t : State) : Prop where
  line : ∀ n, (t.line n).view = (s.line n).view
  tap : ∀ i, (t.tap i).view = (s.tap i).view
  queue : t.clean.queue = s.clean.queue
  circuit : ∀ c, (t.circuit c).view = (s.circuit c).view

theorem Alike.refl (s : State) : Alike s s := ⟨fun _ => rfl, fun _ => rfl, rfl, fun _ => rfl⟩

theorem Alike.trans {s t u : State} (h : Alike s t) (k : Alike t u) : Alike s u :=
  ⟨fun n => (k.line n).trans (h.line n), fun i => (k.tap i).trans (h.tap i), k.queue.trans h.queue,
    fun c => (k.circuit c).trans (h.circuit c)⟩

theorem Alike.state {s t : State} (h : Alike s t) (n : Nat) : (t.line n).state = (s.line n).state := congrArg (·.1) (h.line n)

theorem Alike.mark {s t : State} (h : Alike s t) (n : Nat) : (t.line n).mark = (s.line n).mark := congrArg (·.2.1) (h.line n)

theorem Alike.preDrain {s t : State} (h : Alike s t) (n : Nat) : (t.line n).preDrain = (s.line n).preDrain :=
  congrArg (·.2.2.1) (h.line n)

theorem Alike.inFlight {s t : State} (h : Alike s t) (n : Nat) : (t.line n).inFlight = (s.line n).inFlight :=
  congrArg (·.2.2.2.1) (h.line n)

theorem Alike.ids {s t : State} (h : Alike s t) (n : Nat) : (t.line n).chain.map (·.id) = (s.line n).chain.map (·.id) :=
  congrArg (·.2.2.2.2) (h.line n)

theorem Alike.route {s t : State} (h : Alike s t) (i : Nat) : (t.tap i).route.line = (s.tap i).route.line := congrArg (·.1) (h.tap i)

theorem Alike.lockout {s t : State} (h : Alike s t) (i : Nat) : (t.tap i).lockout = (s.tap i).lockout :=
  congrArg (·.2.1) (h.tap i)

theorem Alike.flight {s t : State} (h : Alike s t) (i : Nat) : (t.tap i).flight = (s.tap i).flight := congrArg (·.2.2) (h.tap i)

theorem Alike.circuitState {s t : State} (h : Alike s t) (c : Circuit) : (t.circuit c).state = (s.circuit c).state :=
  congrArg (·.1) (h.circuit c)

theorem Alike.batch {s t : State} (h : Alike s t) (c : Circuit) : (t.circuit c).batch = (s.circuit c).batch :=
  congrArg (·.2) (h.circuit c)

/-- Blocks that no law reads may differ. -/
theorem alike_of_blocks {s t : State} (hl : t.cellar.lines = s.cellar.lines) (ht : t.pour.taps = s.pour.taps)
    (hq : t.clean.queue = s.clean.queue) (hc : t.clean.circuits = s.clean.circuits) : Alike s t := by
  refine ⟨fun n => ?_, fun i => ?_, hq, fun c => ?_⟩
  · simp only [State.line, hl]
  · simp only [State.tap, ht]
  · simp only [State.circuit, hc]

theorem setLine_alike {s : State} {n : Nat} {l : Line} (h : l.view = (s.line n).view) : Alike s (s.setLine n l) where
  line m := by
    rw [State.line_setLine]
    split
    · rename_i hm
      rw [← hm.1, h]
    · rfl
  tap _ := rfl
  queue := rfl
  circuit _ := rfl

theorem setTap_alike {s : State} {i : Nat} {r : Tap} (h : r.view = (s.tap i).view) : Alike s (s.setTap i r) where
  line _ := rfl
  tap j := by
    rw [State.tap_setTap]
    split
    · rename_i hj
      rw [← hj.1, h]
    · rfl
  queue := rfl
  circuit _ := rfl

theorem setCircuit_alike {s : State} {c : Circuit} {r : CircuitRec} (h : r.view = (s.circuit c).view) :
    Alike s (s.setCircuit c r) where
  line _ := rfl
  tap _ := rfl
  queue := rfl
  circuit d := by
    by_cases hd : c = d
    · rw [← hd, State.circuit_setCircuit_self, h]
    · rw [State.circuit_setCircuit_ne s c d r hd]

theorem post_alike (k : NoticeKey) (c : NoticeCause) (s : State) : Alike s (post k c s) := alike_of_blocks rfl rfl rfl rfl

theorem setNode_alike (a : Nat) (n : Node) (s : State) : Alike s (s.setNode a n) := alike_of_blocks rfl rfl rfl rfl

theorem setStore_alike (st : Store) (s : State) : Alike s { s with store := st } := alike_of_blocks rfl rfl rfl rfl

theorem setWatch_alike (w : Nat) (e : Watch) (s : State) : Alike s (s.setWatch w e) := alike_of_blocks rfl rfl rfl rfl

theorem Alike.then_post {s t : State} (h : Alike s t) (k : NoticeKey) (c : NoticeCause) : Alike s (post k c t) :=
  h.trans (post_alike k c t)

theorem Alike.ite {s t u : State} {c : Prop} [Decidable c] (ht : Alike s t) (hu : Alike s u) : Alike s (if c then t else u) := by
  split
  · exact ht
  · exact hu

theorem Alike.post_unless {s t : State} {c : Prop} [Decidable c] {k : NoticeKey} {x : NoticeCause} (h : Alike s t) :
    Alike s (if c then t else post k x t) := h.ite (h.then_post k x)

/-- A repetition of operations each of which leaves a like state leaves a like state. -/
theorem foldl_alike {α : Type} {f : State → α → State} (h : ∀ s x, Alike s (f s x)) (l : List α) (s : State) :
    Alike s (l.foldl f s) :=
  foldl_closed (P := Alike s) (fun t x ht => ht.trans (h t x)) l s (Alike.refl s)

/-! #### Figures of a line -/

section line

variable (n : Nat) (s : State)

theorem changeHolds_alike (h : HoldSet) : Alike s (changeHolds n h s) :=
  (Alike.refl s).ite ((setLine_alike (by rfl)).then_post _ _)

theorem recomputeStock_alike : Alike s (recomputeStock n s) :=
  (Alike.refl s).ite ((setLine_alike (by rfl)).then_post _ _)

theorem clearFoam_alike : Alike s (clearFoam n s) :=
  have h : Alike s (s.setLine n { s.line n with foamCount := 0, foamAlert := false }) := setLine_alike rfl
  (h.then_post _ _).ite h

theorem countFoam_alike (foamy : Bool) : Alike s (countFoam n foamy s) := by
  unfold countFoam
  split
  · exact clearFoam_alike n s
  · have h : Alike s (s.setLine n { s.line n with
        foamCount := min Config.foamLimit ((s.line n).foamCount + 1)
        foamAlert := (s.line n).foamAlert || min Config.foamLimit ((s.line n).foamCount + 1) = Config.foamLimit }) :=
      setLine_alike rfl
    exact (h.then_post _ _).ite h

theorem decideTempHold_alike (v : Option Int) : Alike s (decideTempHold n v s) := by
  unfold decideTempHold
  split
  · exact Alike.refl s
  · exact (changeHolds_alike n s _).ite (Alike.refl s)

theorem decideKegHold_alike : Alike s (decideKegHold n s) := by
  unfold decideKegHold
  simp only []
  split
  · exact Alike.refl s
  · exact (changeHolds_alike n s _).ite (Alike.refl s)

theorem productChanged_alike (old : Nat) : Alike s (productChanged n old s) := by
  unfold productChanged
  simp only []
  refine (Alike.refl s).ite ?_
  split
  · exact Alike.refl s
  · exact changeHolds_alike n s _

theorem checkDueVolume_alike : Alike s (checkDueVolume n s) := by
  unfold checkDueVolume
  simp only []
  refine (Alike.refl s).ite ?_
  have noted := ((setLine_alike rfl : Alike s (s.setLine n { s.line n with softVolumeNoted := true })).then_post
    (.line n) .lineDue).ite (c := (decide ((s.line n).config.softVolume ≠ 0) && decide ((s.line n).config.softVolume ≤
        (s.line n).volumeSinceClean) && !(s.line n).softVolumeNoted) = true) (Alike.refl s)
  exact (noted.trans (changeHolds_alike n _ _)).ite noted

theorem checkDueAge_alike : Alike s (checkDueAge n s) := by
  unfold checkDueAge
  simp only []
  split
  · exact Alike.refl s
  · rename_i t _
    refine (Alike.refl s).ite ?_
    have noted := ((setLine_alike rfl : Alike s (s.setLine n { s.line n with softAgeNoted := true })).then_post
      (.line n) .lineDue).ite (c := (decide ((s.line n).config.softAge * 3600 ≤ s.store.clock - t)
        && !(s.line n).softAgeNoted) = true) (Alike.refl s)
    exact (noted.trans (changeHolds_alike n _ _)).ite noted

theorem setWatchHold_alike (on : Bool) : Alike s (setWatchHold n on s) := changeHolds_alike n s _

theorem takeRecord_alike (b : RecordBody) : Alike s (takeRecord b s) := by
  unfold takeRecord storeRecord noteHigh noteFull
  repeat' split
  all_goals exact alike_of_blocks rfl rfl rfl rfl

theorem removeKegs_alike : Alike s (removeKegs n s) := foldl_alike (fun s _ => takeRecord_alike s _) _ s

theorem ageCheck_alike : Alike s (ageCheck s) := by
  unfold ageCheck
  split
  · have checked := foldl_alike (fun s n => checkDueAge_alike n s) (List.range 48) s
    exact checked.trans (setStore_alike _ _)
  · exact Alike.refl s

theorem releaseExpiry_alike : Alike s (releaseExpiry n s) := by
  unfold releaseExpiry
  refine Alike.ite ?_ (Alike.refl s)
  have timer : Alike s (s.modTrunk n fun t => { t with releaseTimer := 0 }) := alike_of_blocks rfl rfl rfl rfl
  exact timer.trans (foldl_alike (fun s i => (changeHolds_alike i s _).ite (Alike.refl s)) _ _)

end line

/-! #### Watches and totals -/

section accounts

variable (s : State)

theorem applyHold_alike (target : WatchTarget) : Alike s (applyHold target s) := by
  cases target with
  | tap n => exact setTap_alike rfl
  | line n => exact setWatchHold_alike n s true
  | bar n => exact alike_of_blocks rfl rfl rfl rfl
  | all => exact foldl_alike (fun s n => setWatchHold_alike n s true) _ s

theorem releaseLines_alike : Alike s (releaseLines s) :=
  foldl_alike (fun s n => (Alike.refl s).ite (setWatchHold_alike n s false)) _ s

theorem withdrawHold_alike (target : WatchTarget) : Alike s (withdrawHold target s) := by
  cases target with
  | tap n => exact (Alike.refl s).ite (setTap_alike rfl)
  | line n => exact releaseLines_alike s
  | bar n => exact Alike.refl s
  | all => exact releaseLines_alike s

theorem replaceWatch_alike (w : Nat) (e : Watch) : Alike s (replaceWatch w e s) := by
  have off := setWatch_alike w { s.watch w with state := .off } s
  exact ((off.trans (withdrawHold_alike _ _)).ite off).trans (setWatch_alike w e _)

theorem tripWatch_alike (w : Nat) (seq : Option Nat) : Alike s (tripWatch w seq s) := by
  have noted := ((setWatch_alike w { s.watch w with state := .tripped, count := 1 } s).trans
    (takeRecord_alike _ (.watch w (s.watch w).target (s.watch w).condition (s.watch w).threshold seq))).then_post
    (.watch w) .watchTripped
  exact (noted.trans (applyHold_alike _ _)).ite noted

theorem visitWatch_alike (r : PourRecord) (seq : Option Nat) (w : Nat) : Alike s (visitWatch r seq w s) := by
  unfold visitWatch
  simp only []
  refine Alike.ite ?_ (Alike.refl s)
  split
  · exact Alike.refl s
  · exact tripWatch_alike s w seq
  · exact setWatch_alike _ _ s

theorem addClass_view (t : Tap) (c : PourClass) (v : Nat) : (t.addClass c v).view = t.view := by
  cases c <;> rfl

theorem addTotals_alike (r : PourRecord) : Alike s (addTotals r s) := by
  have total : Alike s (s.modTap r.tap fun t => t.addClass r.cls r.volume) := setTap_alike (addClass_view _ _ _)
  unfold addTotals sellProduct
  exact total.ite (total.trans (alike_of_blocks rfl rfl rfl rfl))

theorem takePour_alike (r : PourRecord) : Alike s (takePour r s) := by
  have taken := takeRecord_alike s (.pour r)
  have folded := taken.ite (c := (s.acct.seqIfStored (.pour r)).isSome = true)
    (taken.trans (setTap_alike rfl : Alike _ (foldPour r (takeRecord (.pour r) s))))
  exact (folded.trans (addTotals_alike _ r)).trans (foldl_alike (fun s w => visitWatch_alike s r _ w) _ _)

theorem releaseRecord_alike (r : Record) : Alike s (releaseRecord s r) := by
  unfold releaseRecord
  split
  · exact setTap_alike rfl
  all_goals exact Alike.refl s

theorem releaseRecords_alike (k : Nat) : Alike s (releaseRecords k s) :=
  (foldl_alike (fun s r => releaseRecord_alike s r) _ s).trans (alike_of_blocks rfl rfl rfl rfl)

theorem clearTotals_alike : Alike s (clearTotals s) where
  line _ := rfl
  tap i := by
    simp only [clearTotals, State.tap, Vector.getElem?_map]
    cases s.pour.taps[i]? <;> rfl
  queue := rfl
  circuit c := by cases c <;> rfl

theorem freezeHead_ids (g : Nat) (ks : List Keg) : (freezeHead g ks).map (·.id) = ks.map (·.id) := by
  cases ks <;> rfl

theorem recomputeThreshold_alike (a : Nat) : Alike s (recomputeThreshold a s) := by
  unfold recomputeThreshold
  split
  · exact Alike.refl s
  · exact (Alike.refl s).ite (setNode_alike _ _ s)

theorem applyCal_alike (m : Meter) (g o : Nat) (r : Bool) : Alike s (applyCal m g o r s) := by
  cases m with
  | tap n => exact Alike.trans (setTap_alike (by rfl)) (recomputeThreshold_alike _ _)
  | line n => exact setLine_alike (by simp only [Line.view, freezeHead_ids])
  | circuit c => exact setCircuit_alike rfl

end accounts

/-! #### Items, stops and the tap bus -/

section bus

variable (s : State)

theorem queueItem_alike (t : Nat) (i : Item) : Alike s (queueItem t i s) := setNode_alike _ _ s

theorem dropStop_alike (t k : Nat) : Alike s (dropStop t k s) := setNode_alike _ _ s

theorem stopTap_alike (n t : Nat) : Alike s (stopTap n t s) := by
  unfold stopTap
  split
  · exact Alike.refl s
  · rename_i p hp
    refine (Alike.refl s).ite (Alike.trans (setTap_alike ?_) (queueItem_alike _ t _))
    simp only [Tap.view, Tap.flight, hp, Option.map_some]

theorem stopLine_alike (n : Nat) : Alike s (stopLine n s) := foldl_alike (fun s t => stopTap_alike s n t) _ s

theorem orphan_view (t : Tap) : t.orphan.view = t.view := by
  unfold Tap.orphan Tap.view Tap.flight
  cases t.pour <;> rfl

theorem orphanTaps_alike (a k : Nat) : Alike s (orphanTaps a k s) :=
  foldl_alike (fun s _ => (setTap_alike (orphan_view _)).ite (Alike.refl s)) _ s

theorem reportRunning_alike (t k : Nat) : Alike s (reportRunning t k s) := by
  unfold reportRunning
  split
  · exact Alike.refl s
  · rename_i p hp
    refine setTap_alike ?_
    simp only [Tap.view, Tap.flight, hp, Option.map_some]

theorem startPoll_alike (a : Nat) : Alike s (startPoll a s) := alike_of_blocks rfl rfl rfl rfl

theorem startRound_alike : Alike s (startRound s) := by
  unfold startRound
  split
  · exact startPoll_alike s _
  · exact alike_of_blocks rfl rfl rfl rfl

theorem endRound_alike : Alike s (endRound s) :=
  Alike.trans (alike_of_blocks (by rfl) (by rfl) (by rfl) (by rfl)) (startRound_alike _)

theorem nextPoll_alike (a : Nat) : Alike s (nextPoll a s) := by
  have free : Alike s { s with bus := { s.bus with abandoned := none } } := alike_of_blocks rfl rfl rfl rfl
  unfold nextPoll
  simp only []
  split
  · exact free.trans (startPoll_alike _ _)
  · exact free.trans (endRound_alike _)

theorem countMiss_alike (a : Nat) : Alike s (countMiss a s) := by
  unfold countMiss
  simp only []
  refine (Alike.refl s).ite (Alike.ite (setNode_alike _ _ s) ?_)
  exact ((setNode_alike _ _ s).trans (orphanTaps_alike _ a 0)).then_post _ _

theorem missExchange_alike : Alike s (missExchange s) := by
  unfold missExchange
  split
  · exact ((setNode_alike _ _ s).trans (countMiss_alike _ _)).trans (nextPoll_alike _ _)
  all_goals exact Alike.refl s

theorem findNode_alike (a : Nat) : Alike s (findNode a s) :=
  (Alike.refl s).ite ((setNode_alike _ _ s).then_post _ _)

theorem confirmPoll_alike (p : Poll) : Alike s (confirmPoll p s) := setNode_alike _ _ s

theorem takeTapCount_alike (a k : Nat) : Alike s (takeTapCount a k s) := by
  unfold takeTapCount
  split
  · exact setNode_alike _ _ s
  · rename_i old _
    have counted := setNode_alike a { s.node a with tapCount := some k } s
    refine Alike.post_unless (Alike.ite ?_ counted)
    exact (counted.trans (setNode_alike a _ _)).trans (orphanTaps_alike _ a k)

theorem emptyRoundEnds_alike : Alike s (emptyRoundEnds s) := by
  unfold emptyRoundEnds
  split
  · exact Alike.trans (alike_of_blocks (by rfl) (by rfl) (by rfl) (by rfl)) (endRound_alike _)
  all_goals exact Alike.refl s

theorem resetNode_alike (a : Nat) : Alike s (resetNode a s) := setNode_alike _ _ s

theorem dropNode_alike (a : Nat) : Alike s (dropNode a s) := by
  have left := setNode_alike a { s.node a with
    state := .absent, items := [], lastTaken := none, tapCount := none, freshDue := true, setupDue := true } s
  refine (left.post_unless (c := (s.node a).state = .absent)).trans (Alike.ite ?_ (Alike.refl _))
  exact (nextPoll_alike _ _).trans (alike_of_blocks rfl rfl rfl rfl)

theorem assignTap_alike (t b : Nat) : Alike s (assignTap t b s) := by
  have set : Alike s (s.modTap t fun r => { r with configured := true, bar := b }) := setTap_alike rfl
  exact (set.trans (recomputeThreshold_alike _ _)).ite (set.trans (resetNode_alike _ _))

theorem unassignTap_alike (t : Nat) : Alike s (unassignTap t s) := by
  have set : Alike s (s.modTap t fun r => { r with configured := false }) := setTap_alike rfl
  exact (set.trans (dropNode_alike _ _)).ite (set.trans (recomputeThreshold_alike _ _))

end bus

end Sys2Proof.Machine
end

section
/-! ### One step

`StepLaw P` lists what a step can do beyond figures that the laws do not read; a property that has these parts is kept by every step. -/

namespace Sys2Proof.Machine

open Sys2Proof Sys2Proof.Safety

/-- The states of a line that has been cleaned and waits for no clean: its mark is clear (R11). -/
def ServiceState.clear (st : ServiceState) : Prop := st = .rinsed ∨ st = .priming ∨ st = .serving ∨ st = .dry

/-- `P` is kept by everything a step can do. -/
structure StepLaw (P : State → Prop) : Prop where
  alike : ∀ s t, Alike s t → P s → P t
  move : ∀ s n st, (s.line n).state.clear → st.clear → P s → P (moveLine n st s)
  leaveOffline : ∀ s n, P s → P (leaveOffline n s)
  clear : ∀ s n, (s.line n).state.clearable = true → P s → P (s.modLine n Line.cleared)
  append : ∀ s n k, n < 48 → kegHeld s k.id = false → (s.line n).chain.length < 6 → P s →
    P (s.modLine n fun l => { l with chain := l.chain ++ [k] })
  shrink : ∀ s n ks, ks.Sublist (s.line n).chain → P s → P (s.setLine n { s.line n with chain := ks })
  grant : ∀ s t n z, t < 128 → (s.tap t).pour = none → P s → P (grant t n z s)
  pourEnds : ∀ t (r : InFlight) x y u, (x.tap t).flight = some r.line → P x → Alike (pourLeft r.line x) y →
    Alike (evalDrain r.line y) u → P (idleTap t r.token u)
  lockout : ∀ s t on, P s → P (reportLockout t on s)
  swap : ∀ s, failingTap s = none → P s → P (swapMaps s)
  queueLine : ∀ s n p, cleanRefusal s n p = none → P s → P (queueLine n p s)
  withdrawLine : ∀ s n, n < 48 → isQueued s n = true → P s → P (withdrawLine n s)
  finish : ∀ s c e, (s.circuit c).state ≠ .idle → P s → P (finishBatch c e s)
  markBatch : ∀ s c on, P s → P (markBatch c on s)
  circuit : ∀ s c r, (s.circuit c).state ≠ .idle → r.state ≠ .idle → r.batch = (s.circuit c).batch → P s → P (s.setCircuit c r)
  restart : ∀ s straps, P s → P (restart straps s)
  coldStart : ∀ s cause straps, P s → P (coldStart cause straps s)

/-! #### What the parts of a step do -/

/-- A number above 47 names no line. -/
theorem State.line_of_ge {s : State} {n : Nat} (h : 48 ≤ n) : s.line n = coldLine := by simp [State.line, h]

/-- A number above 127 names no tap. -/
theorem State.tap_of_ge {s : State} {t : Nat} (h : 128 ≤ t) : s.tap t = coldTap := by simp [State.tap, h]

/-- Only a line of the part has a keg. -/
theorem lt_of_chain {s : State} {n : Nat} {k : Keg} {rest : List Keg} (h : (s.line n).chain = k :: rest) : n < 48 := by
  by_contra hn
  rw [State.line_of_ge (Nat.not_lt.mp hn)] at h
  exact absurd h (by simp [coldLine])

theorem creditHead_ids (v : Nat) (ks : List Keg) : (creditHead v ks).map (·.id) = ks.map (·.id) := by
  cases ks <;> rfl

/-- An ask that passes every check is for a tap that exists and is IDLE, and names the line it is granted on. -/
theorem idle_of_askRefusal_none {t z : Nat} {s : State} (h : askRefusal t z s = none) :
    t < 128 ∧ (s.tap t).pour = none ∧ ∃ n, (s.tap t).route.line = some n := by
  unfold askRefusal at h
  simp only [] at h
  split at h
  · exact absurd h (by simp)
  · rename_i hp
    have ht : t < 128 := by
      by_contra hn
      have hc := s.tap_of_ge (Nat.not_lt.mp hn)
      exact hp (by simp [presence, hc, coldTap])
    split at h
    · exact absurd h (by simp)
    · rename_i n hn
      refine ⟨ht, ?_, n, hn⟩
      by_contra hpour
      have hb : (s.tap t).pour.isSome = true := Option.isSome_iff_ne_none.mpr hpour
      simp only [hb, if_true] at h
      repeat' split at h
      all_goals exact absurd h (by simp)

/-- What the Line Manager does with a finished pour before its in-flight count goes down changes figures alone. -/
theorem applyPour_eq_evalDrain (n v : Nat) (f l : Bool) (temp : Option Int) (s : State) :
    ∃ x, Alike s x ∧ applyPour n v f l temp s = evalDrain n (checkDueVolume n (pourLeft n x)) := by
  have credited : Alike s (s.modLine n fun l => { l with
      chain := creditHead v l.chain
      volumeSinceClean := satAdd Config.max32 l.volumeSinceClean v
      tapPoured := satAdd Config.max48 l.tapPoured v }) :=
    setLine_alike (by simp only [Line.view, creditHead_ids])
  exact ⟨_, (Alike.ite (c := l = true) credited (credited.trans (countFoam_alike n _ f))).trans (decideTempHold_alike n _ temp), rfl⟩

/-- The end of a pour: figures that no law reads, the in-flight count and the drain condition, figures again, and the tap IDLE. -/
theorem endPour_eq_idleTap (t : Nat) (r : InFlight) (e : PourEnd) (s : State) :
    ∃ x y u, Alike s x ∧ Alike (pourLeft r.line x) y ∧ Alike (evalDrain r.line y) u ∧ endPour t r e s = idleTap t r.token u := by
  unfold endPour
  split
  · exact ⟨s, _, _, Alike.refl s, Alike.refl _, Alike.refl _, rfl⟩
  · have learned : ∀ u v b, Alike u (u.modTap t fun x => x.learn v b) := fun u v b => setTap_alike rfl
    have warmed : ∀ n u, Alike u (countWarm n u) := fun n u => alike_of_blocks rfl rfl rfl rfl
    unfold measuredEnd
    simp only []
    generalize pourFlags _ _ _ _ _ _ = flags
    obtain ⟨x, hx, he⟩ := applyPour_eq_evalDrain r.line (pulseVolume (s.tap t).gain (s.tap t).offset e.pulses) flags.foamy e.lost
      e.temperature s
    rw [he]
    have told : ∀ p u, Alike u (if flags.warm then countWarm (s.line r.line).config.trunk (takePour p u) else takePour p u) :=
      fun p u => ((takePour_alike u p).trans (warmed _ _)).ite (takePour_alike u p)
    refine ⟨x, _, _, hx, checkDueVolume_alike r.line _, ?_, rfl⟩
    exact ((told _ _).trans (learned _ _ _)).ite (told _ _)

/-- A step that begins: nothing that a law reads changes, or the batch is marked, or the circuit pauses; only then is there no fault. -/
theorem beginStep_cases (c : Circuit) (s : State) :
    Alike s (beginStep c s).1
      ∨ (beginStep c s).2 = none ∧ ∃ u, Alike s u ∧ ((beginStep c s).1 = markBatch c true u
        ∨ (beginStep c s).1 = pauseCircuit c .pauseStep u) := by
  unfold beginStep
  split
  · exact .inl (Alike.refl s)
  · rename_i st _
    have set : Alike s (s.modCircuit c fun r => r.atStep st) := setCircuit_alike rfl
    simp only []
    split
    · exact .inl set
    · cases st.kind with
      | fill => exact .inr ⟨rfl, _, set, .inl rfl⟩
      | pause => exact .inr ⟨rfl, _, set, .inr rfl⟩
      | purge => exact .inl set
      | rinse => exact .inl set
      | soak => exact .inl set
      | circulate => exact .inl set
      | verify => exact .inl set

theorem takePurge_alike (c : Circuit) (n p v : Nat) (s : State) : Alike s (takePurge c n p v s) := by
  have taken := takeRecord_alike s (.purge n c p v)
  exact taken.ite (taken.trans (setCircuit_alike (by rfl)))

theorem postPurges_alike (c : Circuit) (s : State) : Alike s (postPurges c s) :=
  foldl_alike (fun s n => takePurge_alike c n _ _ s) _ s

theorem runs_not_idle {r : CircuitRec} (h : r.runs = true) : r.state ≠ .idle := by
  intro hi
  simp [CircuitRec.runs, hi] at h

theorem runningStep_not_idle {s : State} {c : Circuit} {st : Step} (h : runningStep s c = some st) : (s.circuit c).state ≠ .idle := by
  refine runs_not_idle ?_
  by_contra hr
  simp [runningStep, hr] at h

@[simp] theorem acceptWith_state (b : ReplyBody) (s : State) : (acceptWith b s).state = s := rfl
@[simp] theorem acceptWith_status (b : ReplyBody) (s : State) : (acceptWith b s).status = .ok := rfl
@[simp] theorem acceptWith_body (b : ReplyBody) (s : State) : (acceptWith b s).body = b := rfl
@[simp] theorem acceptWith_start (b : ReplyBody) (s : State) : (acceptWith b s).start = none := rfl

theorem allocate_alike (s : State) : Alike s (allocate s) := alike_of_blocks rfl rfl rfl rfl

theorem setChiller_alike (count points : Nat) (s : State) : Alike s (setChiller count points s) := by
  have set : Alike s { s with cool := { s.cool with
      count := count, points := points
      startFaults := s.cool.startFaults.mapIdx fun i b => b && decide (i < count) } } := alike_of_blocks rfl rfl rfl rfl
  unfold setChiller
  simp only []
  have shared := Alike.ite (c := s.cool.points = points) set (set.trans (allocate_alike _))
  exact Alike.ite (shared.then_post _ _) shared

theorem setMap_taps (p : PourBlock) (m : MapSel) (v : Vector Route 128) : (p.setMap m v).taps = p.taps := by
  cases m <;> rfl

/-- A command that spells a request is that request, decided by its owner. -/
theorem exec_of_decision {i : Instr} {f : State → Decision} (h : decisionOf i = some f) (s : State) :
    ∃ k, exec i s = .next (request k (tagOf i) f s) := by
  cases i <;> cases h <;> exact ⟨_, rfl⟩

namespace StepLaw

variable {P : State → Prop} (h : StepLaw P) {s : State}
include h

theorem setLink (l : Link) (hs : P s) : P (s.setLink l) := h.alike s _ (alike_of_blocks rfl rfl rfl rfl) hs

theorem post (k : NoticeKey) (c : NoticeCause) (hs : P s) : P (post k c s) := h.alike _ _ (post_alike k c s) hs

/-! #### Cleaning -/

theorem pauseCircuit (c : Circuit) (w : PauseCause) (hi : (s.circuit c).state ≠ .idle) (hs : P s) : P (pauseCircuit c w s) :=
  h.post _ _ (h.circuit _ _ _ hi (by simp) rfl hs)

theorem startStep (c : Circuit) (hi : (s.circuit c).state ≠ .idle) (hs : P s) : P (startStep c s) := by
  have begun := beginStep_cases c s
  unfold Machine.startStep
  generalize beginStep c s = b at begun
  obtain ⟨s1, f⟩ := b
  obtain alike | ⟨hf, u, alike, marked | paused⟩ := begun
  · cases f with
    | none => exact h.alike _ _ alike hs
    | some f => exact h.finish _ _ _ (by rwa [alike.circuitState]) (h.alike _ _ alike hs)
  · subst hf marked
    exact h.markBatch _ _ _ (h.alike _ _ alike hs)
  · subst hf paused
    exact h.pauseCircuit _ _ (by rwa [alike.circuitState]) (h.alike _ _ alike hs)

theorem nextStep (c : Circuit) (hi : (s.circuit c).state ≠ .idle) (hs : P s) : P (nextStep c s) := by
  have next : Alike s (s.modCircuit c fun r => { r with stepIndex := r.stepIndex.map (· + 1) }) := setCircuit_alike rfl
  exact h.startStep c (by rwa [next.circuitState]) (h.alike _ _ next hs)

theorem completeStep (c : Circuit) (st : Step) (hi : (s.circuit c).state ≠ .idle) (hs : P s) : P (completeStep c st s) := by
  have done : Alike s (s.modCircuit c fun r => { r with stepsDone := r.stepsDone + 1 }) := setCircuit_alike rfl
  have purged := Alike.ite (c := st.kind = .purge) (done.trans (postPurges_alike c _)) done
  have noted := Alike.ite (c := st.notify = true) (purged.then_post (.circuit c) .circuitStep) purged
  have hn := h.alike _ _ noted hs
  have hni := fun hx => hi (noted.circuitState c ▸ hx)
  exact ite_closed (h.finish _ _ _ hni hn) (ite_closed (h.pauseCircuit _ _ hni hn) (h.nextStep _ hni hn))

theorem decideVerify (c : Circuit) (st : Step) (hi : (s.circuit c).state ≠ .idle) (hs : P s) : P (decideVerify c st s) := by
  unfold Machine.decideVerify
  have same : (Machine.markBatch c false s).circuit c = s.circuit c := by
    refine foldl_closed (P := fun u => u.circuit c = s.circuit c) (fun u n hu => ?_) _ _ rfl
    exact hu
  exact ite_closed (h.completeStep c st (by rwa [same]) (h.markBatch _ _ _ hs)) (ite_closed (h.finish _ _ _ hi hs) hs)

theorem circuitPulse (c : Circuit) (hs : P s) : P (circuitPulse c s) := by
  unfold Machine.circuitPulse
  split
  · exact hs
  · rename_i st hst
    have hi := runningStep_not_idle hst
    have counted : ∀ k, Alike s (s.modCircuit c fun r => r.countPulse k) := fun k => setCircuit_alike (by
      unfold CircuitRec.countPulse CircuitRec.draw
      simp only [CircuitRec.view]
      split <;> rfl)
    have hc := fun k => h.alike _ _ (counted k) hs
    have hci := fun k hx => hi ((counted k).circuitState c ▸ hx)
    split
    · exact hs
    · exact hs
    · exact h.alike _ _ (setCircuit_alike (by rfl)) hs
    · exact h.decideVerify _ _ (hci .verify) (hc .verify)
    · exact ite_closed (h.completeStep c st (hci .purge) (hc .purge)) (hc .purge)
    · exact ite_closed (h.completeStep c st (hci .rinse) (hc .rinse)) (hc .rinse)
    · exact ite_closed (h.completeStep c st (hci .fill) (hc .fill)) (hc .fill)

theorem conductivity (c : Circuit) (reading : Option Int) (hs : P s) : P (conductivity c reading s) := by
  unfold Machine.conductivity
  split
  · exact hs
  · rename_i hr
    have hi := runs_not_idle (by simpa using hr)
    split
    · exact h.finish _ _ _ hi hs
    · rename_i v
      have read : Alike s (s.modCircuit c fun r => { r with conductivity := v }) := setCircuit_alike rfl
      refine ite_closed (h.finish _ _ _ (by rwa [read.circuitState]) (h.alike _ _ read hs)) ?_
      split
      · exact h.alike _ _ read hs
      · rename_i st _
        have second := read.trans (setCircuit_alike (by rfl) :
          Alike _ ((s.modCircuit c fun r => { r with conductivity := v }).modCircuit c fun r => r.second st.kind))
        refine ite_closed (ite_closed ?_ ?_) (h.alike _ _ second hs)
        · exact h.alike _ _ (second.trans (setCircuit_alike (by rfl))) hs
        · exact h.alike _ _ (second.trans (setCircuit_alike (by rfl))) hs

theorem flowExpiry (c : Circuit) (hs : P s) : P (flowExpiry c s) := by
  unfold Machine.flowExpiry
  split
  · rename_i hp
    have hi : (s.circuit c).state ≠ .idle := by
      unfold pumpOn at hp
      split at hp
      · rename_i hst
        exact runningStep_not_idle hst
      · exact absurd hp (by simp)
    have timer : Alike s (s.modCircuit c fun r => { r with flowTimer := Config.flowSeconds }) := setCircuit_alike rfl
    exact h.finish _ _ _ (by rwa [timer.circuitState]) (h.alike _ _ timer hs)
  · exact hs

theorem timedExpiry (c : Circuit) (hs : P s) : P (timedExpiry c s) := by
  unfold Machine.timedExpiry
  split
  · exact hs
  · rename_i st hst
    have hi := runningStep_not_idle hst
    have full : Alike s (s.modCircuit c fun r => { r with progress := r.target }) := setCircuit_alike rfl
    exact ite_closed (h.completeStep c st (by rwa [full.circuitState]) (h.alike _ _ full hs)) hs

theorem supplyFault (c : Circuit) (u : Supply) (hs : P s) : P (supplyFault c u s) := by
  unfold Machine.supplyFault
  split
  · rename_i hd
    refine h.finish _ _ _ ?_ hs
    unfold drawsFrom at hd
    split at hd
    · rename_i hst
      exact runningStep_not_idle hst
    · rename_i hst
      exact runningStep_not_idle hst
    · exact absurd hd (by simp)
  · exact hs

theorem resumeCircuit (c : Circuit) (hi : (s.circuit c).state ≠ .idle) (hs : P s) : P (resumeCircuit c s) := by
  have running : P (s.modCircuit c fun r => { r with state := .running, pauseCause := none }) :=
    h.circuit _ _ _ hi (by simp) rfl hs
  have hri : ((s.modCircuit c fun r => { r with state := .running, pauseCause := none }).circuit c).state ≠ .idle := by
    simp [State.modCircuit_eq]
  unfold Machine.resumeCircuit
  split
  · exact h.completeStep c _ hri running
  · exact h.nextStep c hri running

/-! #### Lines and kegs -/

theorem checkPrime (n : Nat) (hs : P s) : P (checkPrime n s) := by
  unfold Machine.checkPrime
  simp only []
  split
  · rename_i hp
    have hst : (s.line n).state = .priming := by
      simp only [Bool.and_eq_true, decide_eq_true_eq] at hp
      exact hp.1
    exact h.move s n .serving (by simp [ServiceState.clear, hst]) (by simp [ServiceState.clear]) hs
  · exact hs

theorem runDry (n : Nat) (hs : P s) : P (runDry n s) := by
  unfold Machine.runDry
  split
  · rename_i hd
    simp only [Bool.and_eq_true, decide_eq_true_eq] at hd
    exact h.alike _ _ (stopLine_alike _ n)
      (h.move s n .dry (by simp [ServiceState.clear, hd.2]) (by simp [ServiceState.clear]) hs)
  · exact hs

theorem retireHead (n : Nat) (cause : KegCause) (hs : P s) : P (retireHead n cause s) := by
  unfold Machine.retireHead
  split
  · exact hs
  · rename_i k rest hchain
    have hn := lt_of_chain hchain
    have taken := takeRecord_alike s (kegRecord n (s.line n) k cause)
    have hl : (takeRecord (kegRecord n (s.line n) k cause) s).line n = s.line n := State.line_congr (takeRecord_cellar s _) n
    have counts : Alike s ((takeRecord (kegRecord n (s.line n) k cause) s).modLine n fun l =>
      { l with cellarDrawn := 0, tapPoured := 0 }) := taken.trans (setLine_alike (by rfl))
    have foam := counts.trans (clearFoam_alike n _)
    have shrunk := h.shrink _ n rest (by
      rw [clearFoam_line _ _ hn, modLine_line _ _ _ hn, hl, hchain]
      exact List.sublist_cons_self k rest) (h.alike _ _ foam hs)
    exact h.runDry n (h.post _ _ (h.alike _ _ ((decideKegHold_alike n _).trans (recomputeStock_alike n _)) shrunk))

theorem detectorTrip (n : Nat) (hs : P s) : P (detectorTrip n s) := by
  have disarmed : Alike s { s with cellar := { s.cellar with
    detectorArmed := s.cellar.detectorArmed.setIfInBounds n false } } := alike_of_blocks rfl rfl rfl rfl
  exact ite_closed (h.retireHead n .empty (h.alike _ _ disarmed hs)) (h.alike _ _ disarmed hs)

theorem cellarPulse (n : Nat) (hs : P s) : P (cellarPulse n s) := by
  unfold Machine.cellarPulse
  simp only []
  split
  · exact hs
  · rename_i k rest hchain
    refine ite_closed hs (h.alike _ _ (recomputeStock_alike n _) (h.checkPrime n (h.alike _ _ (setLine_alike ?_) hs)))
    simp only [Line.view, hchain, List.map_cons]

theorem refill (n : Nat) (b : Bool) (hs : P s) : P (if b && (s.line n).state = .dry then moveLine n .serving s else s) := by
  split
  · rename_i hd
    simp only [Bool.and_eq_true, decide_eq_true_eq] at hd
    exact h.move s n .serving (by simp [ServiceState.clear, hd.2]) (by simp [ServiceState.clear]) hs
  · exact hs

theorem addKeg (n : Nat) (k : Keg) (hn : n < 48) (hk : kegHeld s k.id = false) (hl : (s.line n).chain.length < 6) (hs : P s) :
    P (addKeg n k s) := by
  have joined := h.append s n k hn hk hl hs
  have held := ite_closed (c := (s.line n).chain.isEmpty = true) (h.alike _ _ (decideKegHold_alike n _) joined) joined
  exact h.post _ _ (h.alike _ _ (recomputeStock_alike n _) (h.refill n _ held))

/-! #### Pours and the tap bus -/

theorem endPour (t : Nat) (p : Pour) (e : PourEnd) (hp : (s.tap t).pour = some p) (hs : P s) : P (endPour t p.record e s) := by
  obtain ⟨x, y, u, hx, hy, hu, he⟩ := endPour_eq_idleTap t p.record e s
  rw [he]
  refine h.pourEnds t p.record x y u ?_ (h.alike _ _ hx hs) hy hu
  rw [hx.flight]
  simp [Tap.flight, hp]

theorem finishPour (t k p f : Nat) (x : Option Int) (c : EndCause) (hs : P s) : P (finishPour t k p f x c s) := by
  unfold Machine.finishPour
  split
  · exact hs
  · exact ite_closed hs (h.endPour t _ _ ‹_› hs)

theorem closeLost (t : Nat) (hs : P s) : P (closeLost t s) := by
  unfold Machine.closeLost
  split
  · exact hs
  · exact ite_closed (h.endPour t _ _ ‹_› hs) hs

theorem ask (t z : Nat) (hs : P s) : P (ask t z s) := by
  unfold Machine.ask
  split
  · exact h.alike _ _ (queueItem_alike s _ _) hs
  · rename_i hr
    obtain ⟨ht, hidle, -⟩ := idle_of_askRefusal_none hr
    split
    · exact h.grant s t _ z ht hidle hs
    · exact hs

theorem takeStatus (t : Nat) (st : TapStatus) (hs : P s) : P (takeStatus t st s) := by
  unfold Machine.takeStatus
  simp only []
  split
  · exact h.alike _ _ (reportRunning_alike _ _ _) (h.lockout s t _ hs)
  · exact h.lockout s t _ hs

omit s in
theorem takeStatuses (a : Nat) (l : List TapStatus) : ∀ (i : Nat) (s : State), P s → P (takeStatuses a i l s) := by
  induction l with
  | nil => exact fun _ _ hs => hs
  | cons st rest ih => exact fun i s hs => ih _ _ (h.takeStatus _ _ hs)

theorem takeEvent (a : Nat) (e : Event) (hs : P s) : P (takeEvent a e s) := by
  unfold Machine.takeEvent
  split
  · have taken := h.alike _ _ (setNode_alike a { s.node a with lastTaken := some e.number } s) hs
    cases e.body with
    | ask z => exact h.ask _ z taken
    | done k p f x c => exact h.finishPour _ k p f x c taken
  · exact hs

omit s in
theorem closeSilent (a : Nat) (l : List TapStatus) : ∀ (i : Nat) (s : State), P s → P (closeSilent a i l s) := by
  induction l with
  | nil => exact fun _ _ hs => hs
  | cons st rest ih => exact fun i s hs => ih _ _ (ite_closed (h.closeLost _ hs) hs)

theorem handleReply (p : Poll) (r : BusReply) (hs : P s) : P (handleReply p r s) := by
  have found := (setNode_alike p.address { s.node p.address with misses := 0 } s).trans (findNode_alike _ p.address)
  have counted := (found.trans (confirmPoll_alike _ p)).trans (takeTapCount_alike _ p.address r.taps.length)
  have status := h.takeStatuses p.address r.taps 0 _ (h.alike _ _ counted hs)
  have events := foldl_closed (fun s e hs => h.takeEvent p.address e hs) r.events _ status
  exact ite_closed (h.closeSilent p.address r.taps 0 _ events) events

theorem receiveReply (b : List Byte) (hs : P s) : P (receiveReply b s) := by
  have missed := h.alike _ _ (missExchange_alike s) hs
  unfold Machine.receiveReply
  split
  · exact hs
  · exact hs
  · split
    · exact missed
    · refine ite_closed (h.alike _ _ (nextPoll_alike _ _) (h.handleReply _ _ hs)) (ite_closed ?_ missed)
      exact h.alike _ _ (alike_of_blocks (by rfl) (by rfl) (by rfl) (by rfl)) hs

/-! #### Requests -/

theorem lineSet (n : Nat) (c : LineConfig) (hs : P s) : P (decideLineSet n c s).state := by
  unfold decideLineSet
  split
  · exact hs
  · have set := h.alike _ _ (setLine_alike (by rfl) : Alike s (s.modLine n fun l => l.configure c)) hs
    have primed := h.checkPrime n (h.leaveOffline _ n set)
    exact h.post _ _ (h.alike _ _ ((recomputeStock_alike n _).trans (productChanged_alike n _ _)) primed)

theorem lineClear (n : Nat) (hs : P s) : P (decideLineClear n s).state := by
  unfold decideLineClear
  split
  · exact hs
  · split
    · exact hs
    · rename_i hc
      split
      · exact hs
      · have removed := removeKegs_alike n s
        have cleared := h.clear _ n (by rw [removed.state]; simpa using hc) (h.alike _ _ removed hs)
        have noted := fun b k x u (hu : P u) => ite_closed (c := b = true) (h.post k x hu) hu
        exact h.post _ _ (h.post _ _ (noted _ _ _ _ (noted _ _ _ _ (noted _ _ _ _ cleared))))

theorem kegAdd (n id product nominal : Nat) (hold : Bool) (hs : P s) : P (decideKegAdd n id product nominal hold s).state := by
  unfold decideKegAdd
  split
  · exact hs
  · rename_i hr
    split
    · exact hs
    · split
      · exact hs
      · rename_i hf
        split
        · exact hs
        · rename_i hk
          exact h.addKeg n _ (by simp at hr; omega) (by simpa using hk) (Nat.not_le.mp hf) hs

theorem kegRemove (n id : Nat) (hs : P s) : P (decideKegRemove n id s).state := by
  have removed := h.shrink s n _ (List.filter_sublist (p := fun k => decide (k.id ≠ id))) hs
  unfold decideKegRemove
  repeat' split
  · exact hs
  · exact hs
  · exact hs
  · exact h.post _ _ (h.alike _ _ (recomputeStock_alike n _) removed)

theorem returnToService (n : Nat) (hs : P s) : P (decideReturnToService n s).state := by
  unfold decideReturnToService
  split
  · exact hs
  · split
    · exact hs
    · rename_i hn hr
      have hst : (s.line n).state = .rinsed := by
        simp only [Bool.or_eq_true, decide_eq_true_eq, not_or, not_not] at hr
        exact hr.1
      have zero : Alike s (s.modLine n fun l => { l with primeProgress := 0 }) := setLine_alike rfl
      refine h.move _ n .priming ?_ (by simp [ServiceState.clear]) (h.alike _ _ zero hs)
      rw [zero.state, hst]
      simp [ServiceState.clear]

theorem cleanRequest (n p : Nat) (hs : P s) : P (decideCleanRequest n p s).state := by
  unfold decideCleanRequest
  split
  · exact hs
  · exact h.queueLine s n p ‹_› hs

theorem cleanWithdraw (n : Nat) (hs : P s) : P (decideCleanWithdraw n s).state := by
  unfold decideCleanWithdraw
  split
  · exact hs
  · rename_i hn
    split
    · exact hs
    · rename_i hq
      exact h.withdrawLine s n (by omega) (by simpa using hq) hs

theorem routeSwap (hs : P s) : P (decideRouteSwap s).state := by
  unfold decideRouteSwap
  split
  · exact hs
  · split
    · exact hs
    · simp only [acceptWith_state]
      exact h.swap s ‹_› hs

theorem circuitStop (code : Nat) (hs : P s) : P (decideCleanStop code s).state := by
  unfold decideCleanStop
  split
  · exact hs
  · split
    · exact hs
    · rename_i hr
      simp only [ne_eq, not_not] at hr
      exact h.circuit _ _ _ (by simp [hr]) (by simp) rfl hs

theorem circuitContinue (code : Nat) (hs : P s) : P (decideCleanContinue code s).state := by
  unfold decideCleanContinue
  split
  · exact hs
  · split
    · exact hs
    · rename_i hp
      simp only [ne_eq, not_not] at hp
      exact h.resumeCircuit _ (by simp [hp]) hs

theorem circuitAbort (code : Nat) (hs : P s) : P (decideCleanAbort code s).state := by
  unfold decideCleanAbort
  split
  · exact hs
  · split
    · exact hs
    · exact h.finish _ _ _ ‹_› hs

theorem closeOrphan (t b : Nat) (hs : P s) : P (decideTapSetCloseOrphan t b s).state := by
  unfold decideTapSetCloseOrphan
  repeat' split
  · exact hs
  · exact hs
  · exact h.alike _ _ (recomputeThreshold_alike _ _) (h.closeLost t hs)

/-- The owner's decision of any request keeps `P`. -/
theorem decision {i : Instr} {f : State → Decision} (hd : decisionOf i = some f) (hs : P s) : P (f s).state := by
  cases i <;> cases hd
  case lineSet n c => exact h.lineSet n c hs
  case lineClear n => exact h.lineClear n hs
  case kegAdd n id p v b => exact h.kegAdd n id p v b hs
  case kegRemove n id => exact h.kegRemove n id hs
  case returnToService n => exact h.returnToService n hs
  case cleanRequest n p => exact h.cleanRequest n p hs
  case cleanWithdraw n => exact h.cleanWithdraw n hs
  case routeSwap => exact h.routeSwap hs
  case cleanStop c => exact h.circuitStop c hs
  case cleanContinue c => exact h.circuitContinue c hs
  case cleanAbort c => exact h.circuitAbort c hs
  case tapSetCloseOrphan t b => exact h.closeOrphan t b hs
  case kegSwitch n =>
    unfold decideKegSwitch
    repeat' split
    · exact hs
    · exact hs
    · exact h.retireHead n .switched hs
  case lineHoldApply n stop =>
    have held := changeHolds_alike n s { (s.line n).holds with host := true }
    unfold decideLineHoldApply
    repeat' split
    · exact hs
    · exact hs
    · simp only [acceptWith_state]
      exact h.alike _ _ (held.trans (stopLine_alike _ n)) hs
    · exact h.alike _ _ held hs
  case lineHoldRelease n c =>
    unfold decideLineHoldRelease
    repeat' split
    · exact hs
    · exact hs
    · exact h.alike _ _ (changeHolds_alike n s _) hs
  case tapSetAssign t b =>
    unfold decideTapSetAssign
    split
    · exact hs
    · exact h.alike _ _ (assignTap_alike s t b) hs
  case tapSetUnassign t b =>
    unfold decideTapSetUnassign
    repeat' split
    · exact hs
    · exact hs
    · exact h.alike _ _ (unassignTap_alike s t) hs
  case journalRelease n =>
    unfold decideJournalRelease
    split
    · exact hs
    · exact h.alike _ _ (releaseRecords_alike s _) hs
  case totalsClear =>
    unfold decideTotalsClear
    split
    · exact h.alike _ _ (clearTotals_alike s) hs
    · exact hs
  case reconcile n =>
    unfold decideReconcile
    split
    · exact hs
    · exact h.alike s _ (setLine_alike rfl) hs
  case watchSet w e =>
    unfold decideWatchSet
    repeat' split
    · exact hs
    · exact hs
    · exact h.alike _ _ (replaceWatch_alike s w _) hs
  case watchClear w =>
    unfold decideWatchClear
    split
    · exact hs
    · exact h.alike _ _ (replaceWatch_alike s w _) hs
  case calWrite k n g o r =>
    unfold decideCalWrite
    repeat' split
    · exact hs
    · exact hs
    · exact hs
    · exact hs
    · exact h.alike _ _ ((applyCal_alike s _ g o r).trans (takeRecord_alike _ _)) hs
  case chillerSet c p =>
    unfold decideChillerSet
    repeat' split
    · exact hs
    · exact hs
    · exact h.alike _ _ (setChiller_alike c p s) hs
  case routeWrite m first es =>
    unfold decideRouteWrite
    repeat' split
    · exact hs
    · exact hs
    · exact h.alike s _ (alike_of_blocks rfl (setMap_taps _ _ _) rfl rfl) hs
    · exact hs
  -- the other requests change at most blocks that no law reads
  all_goals
    simp only [decideStatus, decideNoticePace, decideTimeSet, decideTimeGet, decideRestart, decideFactoryClear,
      decideProductRegister, decideProductRemove, decideProductRead, decideLineGet, decideKegList, decideTapGet,
      decideSizeSetWrite, decideSizeSetRead, decideFreeLimitsWrite, decideFreeLimitsRead, decideRouteRead,
      decideRouteCheck, decideBarStateSet, decideBarStateClear, decideBarStateToggle, decideBarState, decideTrunkSet,
      decideSurgeAdd, decideSurgeRemove, decideCoolingGet, decideProgramLoad, decideProgramRead,
      decideCircuitGet, decideJournalRead, decideTotalsRead, decideHistogramRead, decideWatchGet, decideCalOpen, decideCalRead]
    repeat' split
  all_goals exact h.alike s _ (alike_of_blocks rfl rfl rfl rfl) hs


/-! #### The link (R173 to R177) -/

theorem transmit (hs : P s) : P (transmit s) := by
  obtain ⟨l, hl⟩ := transmit_eq_setLink s
  rw [hl]
  exact h.setLink l hs

theorem event {f : State → State} (hf : ∀ s, P s → P (f s)) (hs : P s) : P (event f s) :=
  ite_closed (h.transmit (hf s hs)) hs

theorem receiveFrame (kind tag : Byte) {f : State → Decision} (hf : ∀ s, P s → P (f s).state) (hs : P s) :
    P (receiveFrame kind tag f s) := by
  have hunts : P (huntAgain s) := h.setLink _ hs
  refine ite_closed (ite_closed (h.setLink _ hunts) (h.setLink _ hunts)) (h.setLink _ ?_)
  have decided := hf _ hunts
  exact ite_closed (h.alike _ _ (alike_of_blocks (by rfl) (by rfl) (by rfl) (by rfl)) decided) decided

theorem dispatchFrame (kind tag : Byte) (body : List Byte) (hs : P s) : P (dispatchFrame kind tag body s).state := by
  unfold Machine.dispatchFrame
  repeat' split
  · exact hs
  · exact hs
  · exact hs
  · unfold decideSpelled
    split
    · exact h.decision ‹_› hs
    · exact hs

theorem receiveWhole (kind tag : Byte) (body : List Byte) (hs : P s) : P (receiveWhole kind tag body s) :=
  ite_closed (h.setLink _ (h.setLink _ hs)) (h.receiveFrame kind tag (fun _ hu => h.dispatchFrame kind tag body hu) hs)

theorem receiveByte (b : Byte) (hs : P s) : P (receiveByte b s) := by
  have discards : P (discardFrame s) := h.setLink _ (h.setLink _ hs)
  unfold Machine.receiveByte
  split
  · exact ite_closed (h.setLink _ hs) hs
  · exact h.setLink _ hs
  · exact ite_closed discards (h.setLink _ hs)
  · refine ite_closed (h.setLink _ hs) ?_
    unfold frameRead
    split
    · exact ite_closed (h.receiveWhole _ _ _ hs) discards
    · exact discards

theorem frameArrives (bytes : List Byte) (e : Bool) (hs : P s) : P (frameArrives bytes e s) := by
  have read : P (receiveBytes bytes s) := foldl_closed (fun _ b hu => h.receiveByte b hu) bytes s hs
  exact ite_closed (ite_closed read (h.setLink _ (h.setLink _ read))) read

/-! #### Stops and starts -/

theorem beginStart (cause : StartCause) (straps : Straps) (cut : Option StartCut) (hs : P s) :
    P (beginStart cause straps cut s) := by
  cases cut with
  | some x => exact h.alike s _ (alike_of_blocks rfl rfl rfl rfl) hs
  | none =>
    cases cause with
    | restart => exact h.restart s straps hs
    | retentionLost => exact h.coldStart s _ straps hs
    | factoryClear => exact h.coldStart s _ straps hs

theorem replyEnds (straps : Straps) (cut : Option StartCut) (hs : P s) : P (replyEnds straps cut s) := by
  unfold Machine.replyEnds
  split
  · exact ite_closed (h.beginStart _ straps cut hs) hs
  · refine h.event (fun s hs => ?_) hs
    unfold replySent
    split
    · exact h.setLink _ hs
    · exact h.setLink _ hs
    · exact hs
    · exact hs

theorem powerUp (ok : Bool) (straps : Straps) (cut : Option StartCut) (hs : P s) : P (powerUp ok straps cut s) :=
  ite_closed hs (ite_closed (h.alike _ _ (setStore_alike _ s) hs) (h.beginStart _ straps cut hs))

theorem releaseReset (straps : Straps) (cut : Option StartCut) (hs : P s) : P (releaseReset straps cut s) :=
  ite_closed hs (ite_closed (h.beginStart _ straps cut hs) (h.alike _ _ (setStore_alike _ s) hs))

/-! #### Cooling -/

section cooling

omit h

theorem switchStage_alike (i : Nat) (on : Bool) (s : State) : Alike s (switchStage i on s) := alike_of_blocks rfl rfl rfl rfl

theorem ageStages_alike (n : Nat) (s : State) : Alike s (ageStages n s) := alike_of_blocks rfl rfl rfl rfl

theorem stageStep_alike (s : State) : Alike s (stageStep s) := by
  have target : Alike s { s with cool := { s.cool with target := stageTarget s } } := alike_of_blocks rfl rfl rfl rfl
  have recorded : ∀ u, Alike u (recordCapacity u) := fun u => alike_of_blocks rfl rfl rfl rfl
  unfold stageStep
  simp only []
  refine Alike.ite ?_ (Alike.ite ?_ target)
  · split
    · exact (target.trans (switchStage_alike _ _ _)).ite target
    · exact target
  · split
    · exact (((target.trans (switchStage_alike _ _ _)).trans (recorded _)).trans (allocate_alike _)).ite target
    · exact target

theorem controlPeriod_alike (s : State) : Alike s (controlPeriod s) := by
  have period : ∀ u, Alike u (allocateInPeriod (computeDemands (updateSurges { u with cool := { u.cool with controlTimer := 0 } }))) :=
    fun u => alike_of_blocks rfl rfl rfl rfl
  exact ((ageStages_alike _ s).trans (period _)).trans (stageStep_alike _)

theorem setTrunk_alike (n : Nat) (t : Trunk) (s : State) : Alike s (s.setTrunk n t) := alike_of_blocks rfl rfl rfl rfl

theorem sampleTrunk_alike (n : Nat) (reading : Option Int) (s : State) : Alike s (sampleTrunk n reading s) := by
  unfold sampleTrunk
  simp only []
  split
  · exact (setTrunk_alike n _ s).post_unless
  · have set := setTrunk_alike n ((s.trunk n).sampled ‹_›) s
    have restored := (set.then_post (.trunk n) .trunkSensorRestored).ite (c := (s.trunk n).sensorFault = true) set
    exact (restored.then_post _ _).ite restored

theorem freezeGuard_alike (v : Int) (s : State) : Alike s (freezeGuard v s) := by
  have held : ∀ b, Alike s { s with cool := { s.cool with freezeHold := b } } := fun b => alike_of_blocks rfl rfl rfl rfl
  have stopped : ∀ u, Alike u (stopStages u) := fun u => alike_of_blocks rfl rfl rfl rfl
  refine Alike.ite (((held false).then_post _ _).ite (Alike.refl s)) (Alike.ite ?_ (Alike.refl s))
  exact (((held true).trans (stopped _)).trans (allocate_alike _)).then_post _ _

theorem sampleBath_alike (reading : Option Int) (s : State) : Alike s (sampleBath reading s) := by
  unfold sampleBath
  split
  · exact (Alike.refl s).ite (Alike.then_post (alike_of_blocks (by rfl) (by rfl) (by rfl) (by rfl)) _ _)
  · have read : Alike s { s with cool := { s.cool with bath := ‹_›, bathFault := false } } := alike_of_blocks rfl rfl rfl rfl
    exact ((read.then_post _ _).ite read).trans (freezeGuard_alike _ _)

theorem firstFaultReading_alike (s : State) : Alike s (firstFaultReading s) := by
  have read : Alike s { s with cool := { s.cool with startFaults := Vector.replicate 4 false } } := alike_of_blocks rfl rfl rfl rfl
  exact (read.then_post _ _).ite read

theorem coolingSecond_alike (s : State) : Alike s (coolingSecond s) :=
  ((ageStages_alike 1 s).ite (c := s.cool.controlTimer < Config.controlSeconds) (Alike.refl s)).trans
    (alike_of_blocks rfl rfl rfl rfl)

theorem sampleAll_alike (returns : Vector (Option Int) 12) (bath : Option Int) (s : State) : Alike s (sampleAll returns bath s) :=
  (((coolingSecond_alike s).trans (firstFaultReading_alike _)).trans
    (foldl_alike (fun s n => sampleTrunk_alike n _ s) _ _)).trans (sampleBath_alike _ _)

theorem alarmExpiry_alike (n : Nat) (s : State) : Alike s (alarmExpiry n s) :=
  ((setTrunk_alike n _ s).then_post _ _).ite (Alike.refl s)

theorem dutyExpiry_alike (n : Nat) (s : State) : Alike s (dutyExpiry n s) :=
  (alike_of_blocks rfl rfl rfl rfl : Alike s (s.modTrunk n _)).ite (Alike.refl s)

theorem stageFails_alike (i : Nat) (s : State) : Alike s (stageFails i s) := by
  have switched := ((switchStage_alike i false s).trans (allocate_alike _)).ite (c := (s.stage i).running = true) (Alike.refl s)
  exact (Alike.refl s).ite (switched.then_post _ _)

theorem stageReturns_alike (i : Nat) (s : State) : Alike s (stageReturns i s) :=
  (Alike.refl s).ite (Alike.then_post (alike_of_blocks (by rfl) (by rfl) (by rfl) (by rfl)) _ _)

end cooling

/-! #### The step -/

/-- An event that leads to `t` leads to a state that has `P`. -/
theorem exec_event {i : Instr} (hd : decisionOf i = none) {t : State} (ht : Machine.exec i s = .next t) (hs : P s) : P t := by
  have figures : ∀ {f : State → State}, (∀ u, Alike u (f u)) → ∀ {u}, P u → P (Machine.event f u) :=
    fun hf _ hu => h.event (fun _ hv => h.alike _ _ (hf _) hv) hu
  have blocks : ∀ u, u.cellar.lines = s.cellar.lines → u.pour.taps = s.pour.taps → u.clean.queue = s.clean.queue →
      u.clean.circuits = s.clean.circuits → P u := fun u h1 h2 h3 h4 => h.alike _ _ (alike_of_blocks h1 h2 h3 h4) hs
  cases i <;> cases hd
  case unknownRequest k g b => cases ht; exact h.event (fun _ => h.receiveWhole k g b) hs
  case busyReply k g b => cases ht; exact h.event (fun _ => h.receiveWhole k g b) hs
  case frameDiscarded f => cases ht; exact h.event (fun _ => h.frameArrives _ _) hs
  case interByteTimeout =>
    cases ht
    exact figures (fun u => (Alike.refl u).ite (alike_of_blocks (by rfl) (by rfl) (by rfl) (by rfl))) hs
  case startMarkerReceived => cases ht; exact h.event (fun _ => h.receiveByte _) hs
  case replyTransmitted x => cases ht; exact h.replyEnds _ _ hs
  case noticeTransmitted =>
    cases ht
    refine figures (fun u => ?_) hs
    unfold noticeSent
    split
    · exact alike_of_blocks rfl rfl rfl rfl
    all_goals exact Alike.refl u
  case noticePaceWaitEnd => cases ht; exact figures (fun _ => alike_of_blocks (by rfl) (by rfl) (by rfl) (by rfl)) hs
  case clockSecond => cases ht; exact blocks _ rfl rfl rfl rfl
  case cleaningDueAgeCheck => cases ht; exact figures ageCheck_alike hs
  case mainPowerFail => cases ht; exact blocks _ rfl rfl rfl rfl
  case backupSupplyBelowMinimum => cases ht; exact ite_closed hs (blocks _ rfl rfl rfl rfl)
  case powerUp b x => cases ht; exact h.powerUp b _ _ hs
  case resetAsserted => cases ht; exact blocks _ rfl rfl rfl rfl
  case resetReleased x => cases ht; exact h.releaseReset _ _ hs
  case replyWindowExpiry => cases ht; exact figures missExchange_alike hs
  case replyByteGapTimeout => cases ht; exact figures missExchange_alike hs
  case replyFormatBroken => cases ht; exact figures missExchange_alike hs
  case replyReceived b => cases ht; exact h.event (fun _ => h.receiveReply b) hs
  case emptyRoundExpiry => cases ht; exact figures emptyRoundEnds_alike hs
  case foamOnBeerTrip n =>
    cases ht
    exact h.event (fun _ => h.detectorTrip n) (blocks (setDetectorPin n false s) rfl rfl rfl rfl)
  case detectorRearm n =>
    cases ht
    exact figures (fun _ => alike_of_blocks (by rfl) (by rfl) (by rfl) (by rfl))
      (blocks (setDetectorPin n true s) rfl rfl rfl rfl)
  case cellarMeterPulse n => cases ht; exact h.event (fun _ => h.cellarPulse n) hs
  case sensorSample r b => cases ht; exact figures (sampleAll_alike r b) hs
  case alarmTimerExpiry n => cases ht; exact figures (alarmExpiry_alike n) hs
  case releaseTimerExpiry n => cases ht; exact figures (releaseExpiry_alike n) hs
  case controlPeriodExpiry => cases ht; exact figures controlPeriod_alike hs
  case dutyWindowStart => cases ht; exact figures (fun _ => alike_of_blocks (by rfl) (by rfl) (by rfl) (by rfl)) hs
  case valveDutyExpiry n => cases ht; exact figures (dutyExpiry_alike n) hs
  case stageFault i =>
    simp only [Machine.exec, execStageFault] at ht
    split at ht <;> cases ht
    · exact hs
    · exact figures (stageFails_alike i) (blocks (setStagePin i true s) rfl rfl rfl rfl)
  case stageRestored i =>
    simp only [Machine.exec, execStageRestored] at ht
    split at ht <;> cases ht
    · exact figures (stageReturns_alike i) (blocks (setStagePin i false s) rfl rfl rfl rfl)
    · exact hs
  case circuitMeterPulse c => cases ht; exact h.event (fun _ => h.circuitPulse c) hs
  case conductivityReading c r => cases ht; exact h.event (fun _ => h.conductivity c r) hs
  case supplyLow c u b =>
    cases ht
    exact h.event (fun _ hu => ite_closed (h.supplyFault c u hu) hu) (by cases u <;> exact blocks _ rfl rfl rfl rfl)
  case flowTimerExpiry c => cases ht; exact h.event (fun _ => h.flowExpiry c) hs
  case timedStepExpiry c => cases ht; exact h.event (fun _ => h.timedExpiry c) hs
  case calSwitchOff b =>
    cases ht
    exact figures (fun u => Alike.ite (alike_of_blocks (by rfl) (by rfl) (by rfl) (by rfl)) (Alike.refl u))
      (blocks (setCalSwitch (!b) s) rfl rfl rfl rfl)
  case calWindowTimeout => cases ht; exact figures (fun _ => alike_of_blocks (by rfl) (by rfl) (by rfl) (by rfl)) hs

/-- A command that leads to `t` leads to a state that has `P`. -/
theorem exec (i : Instr) {t : State} (ht : Machine.exec i s = .next t) (hs : P s) : P t := by
  cases hd : decisionOf i with
  | some f =>
    obtain ⟨k, hk⟩ := exec_of_decision hd s
    rw [hk] at ht
    cases ht
    exact h.event (fun _ hu => h.receiveFrame _ _ (fun _ hv => h.decision hd hv) hu) hs
  | none => exact h.exec_event hd ht hs

/-- Every step keeps `P`. -/
theorem step {t : State} (ht : Machine.step s = .next t) (hs : P s) : P t := by
  unfold Machine.step at ht
  split at ht
  · cases ht
    exact hs
  · exact h.exec _ ht (h.alike s _ (alike_of_blocks rfl rfl rfl rfl) hs)

end StepLaw

end Sys2Proof.Machine
end

section
/-! ### Chains and pours in flight

Cleaning, routes and starts keep every line's keg ids and in-flight count and the line of every pour in flight. -/

namespace Sys2Proof.Machine

open Sys2Proof Sys2Proof.Safety

/-- `t` has the keg ids, the in-flight counts and the pours' lines of `s`. -/
structure SamePours (s t : State) : Prop where
  ids : ∀ n, (t.line n).chain.map (·.id) = (s.line n).chain.map (·.id)
  inFlight : ∀ n, (t.line n).inFlight = (s.line n).inFlight
  flight : ∀ i, (t.tap i).flight = (s.tap i).flight

theorem SamePours.refl (s : State) : SamePours s s := ⟨fun _ => rfl, fun _ => rfl, fun _ => rfl⟩

theorem SamePours.trans {s t u : State} (h : SamePours s t) (k : SamePours t u) : SamePours s u :=
  ⟨fun n => (k.ids n).trans (h.ids n), fun n => (k.inFlight n).trans (h.inFlight n), fun i => (k.flight i).trans (h.flight i)⟩

theorem Alike.samePours {s t : State} (h : Alike s t) : SamePours s t := ⟨h.ids, h.inFlight, h.flight⟩

theorem setLine_samePours {s : State} {n : Nat} {l : Line} (hi : l.chain.map (·.id) = (s.line n).chain.map (·.id))
    (hf : l.inFlight = (s.line n).inFlight) : SamePours s (s.setLine n l) where
  ids m := by
    rw [State.line_setLine]
    split
    · rename_i hm
      rw [← hm.1, hi]
    · rfl
  inFlight m := by
    rw [State.line_setLine]
    split
    · rename_i hm
      rw [← hm.1, hf]
    · rfl
  flight _ := rfl

theorem setTap_samePours {s : State} {i : Nat} {r : Tap} (h : r.flight = (s.tap i).flight) : SamePours s (s.setTap i r) where
  ids _ := rfl
  inFlight _ := rfl
  flight j := by
    rw [State.tap_setTap]
    split
    · rename_i hj
      rw [← hj.1, h]
    · rfl

theorem samePours_of_blocks {s t : State} (hl : t.cellar.lines = s.cellar.lines) (ht : t.pour.taps = s.pour.taps) :
    SamePours s t := by
  refine ⟨fun n => ?_, fun n => ?_, fun i => ?_⟩
  · simp only [State.line, hl]
  · simp only [State.line, hl]
  · simp only [State.tap, ht]

/-- Nothing that cleaning does touches a chain or a pour. -/
theorem SamePours.cleaning (s : State) : CleaningClosed (SamePours s) where
  line _ _ _ _ _ _ _ _ _ hs := hs.trans (setLine_samePours rfl rfl)
  route _ _ _ hs := hs.trans (setTap_samePours rfl)
  queue _ _ hs := hs.trans (samePours_of_blocks rfl rfl)
  circuit _ _ _ hs := hs.trans (samePours_of_blocks rfl rfl)
  post _ k c hs := hs.trans (post_alike k c _).samePours
  record t b hs := hs.trans (takeRecord_alike t b).samePours

section routes

variable (s : State)

theorem evalDrain_samePours (n : Nat) : SamePours s (evalDrain n s) := evalDrain_closed (SamePours.cleaning s) n s (.refl s)

theorem moveLine_samePours (n : Nat) (st : ServiceState) : SamePours s (moveLine n st s) :=
  moveLine_closed (SamePours.cleaning s) n st s (.refl s)

theorem reportLineChange_samePours (old new : Option Nat) : SamePours s (reportLineChange old new s) := by
  refine ite_closed (.refl s) ?_
  cases old <;> cases new <;> simp only []
  · exact .refl s
  · exact evalDrain_samePours s _
  · exact evalDrain_samePours s _
  · exact (evalDrain_samePours s _).trans (evalDrain_samePours _ _)

theorem copyRoute_samePours (t : Nat) (r : Route) : SamePours s (copyRoute t r s) :=
  SamePours.trans (setTap_samePours (by rfl)) (reportLineChange_samePours _ _ _)

theorem applyDeferred_samePours (t : Nat) : SamePours s (applyDeferred t s) :=
  ite_closed (.refl s) (ite_closed (SamePours.trans (setTap_samePours (by rfl)) (copyRoute_samePours _ _ _))
    (SamePours.trans (setTap_samePours (by rfl)) (copyRoute_samePours _ _ _)))

theorem reportLockout_samePours (t : Nat) (on : Bool) : SamePours s (reportLockout t on s) := by
  have set : SamePours s (s.modTap t fun r => { r with lockout := on }) := setTap_samePours rfl
  refine ite_closed (.refl s) (ite_closed (SamePours.trans ?_ (SamePours.trans (setTap_samePours (by rfl)) (copyRoute_samePours _ _ _))) ?_)
  all_goals
    split
    · exact set
    · rename_i n _
      have drained := set.trans (evalDrain_samePours _ n)
      exact ite_closed drained (drained.trans (lockoutFault_closed (SamePours.cleaning _) _ _ (.refl _)))

theorem swapTap_samePours (t : Nat) : SamePours s (swapTap t s) :=
  ite_closed (SamePours.trans (setTap_samePours (by rfl)) (copyRoute_samePours _ _ _)) (setTap_samePours rfl)

theorem swapMaps_samePours : SamePours s (swapMaps s) :=
  foldl_closed (fun u t hu => hu.trans (swapTap_samePours u t)) _ _ (samePours_of_blocks rfl rfl)

theorem queueLine_samePours (n p : Nat) : SamePours s (queueLine n p s) := by
  have joined : SamePours s { s with clean := { s.clean with queue := s.clean.queue ++ [{ line := n, program := p, ready := false }] } } :=
    samePours_of_blocks rfl rfl
  have noted := joined.trans (setLine_samePours (n := n) (l := { s.line n with preDrain := some (s.line n).state }) rfl rfl)
  exact (noted.trans (moveLine_samePours _ _ _)).trans (evalDrain_samePours _ _)

theorem withdrawLine_samePours (n : Nat) : SamePours s (withdrawLine n s) :=
  SamePours.trans (samePours_of_blocks (by rfl) (by rfl)) (moveLine_samePours _ _ _)

theorem leaveOffline_samePours (n : Nat) : SamePours s (leaveOffline n s) :=
  ite_closed (SamePours.trans (setLine_samePours (by rfl) (by rfl)) (moveLine_samePours _ _ _)) (.refl s)

theorem orphan_flight (t : Tap) : t.orphan.flight = t.flight := congrArg (·.2.2) (orphan_view t)

/-- A new round begins on the bus alone. -/
theorem startRound_cellar : (startRound s).cellar = s.cellar := by
  unfold startRound
  split <;> rfl

theorem startRound_pour : (startRound s).pour = s.pour := by
  unfold startRound
  split <;> rfl

theorem restart_lines (straps : Straps) : (restart straps s).cellar.lines = s.cellar.lines.map restartLine := by
  simp only [restart, restartBus, startRound_cellar, restartCellar, readStraps]

theorem restart_taps (straps : Straps) : (restart straps s).pour.taps =
    s.pour.taps.mapIdx fun i t => restartTap (mapEntry (s.pour.map s.pour.active) i) t := by
  simp only [restart, restartBus, startRound_pour, restartPour, readStraps]

/-- A line after a restart is the restarted line. -/
theorem restart_line (straps : Straps) (n : Nat) : (restart straps s).line n = restartLine (s.line n) := by
  simp only [State.line, restart_lines, Vector.getElem?_map]
  cases s.cellar.lines[n]? <;> rfl

/-- A tap of the part after a restart is the restarted tap. -/
theorem restart_tap (straps : Straps) {i : Nat} (hi : i < 128) :
    (restart straps s).tap i = restartTap (s.activeEntry i) (s.tap i) := by
  simp [State.tap, restart_taps, hi, State.activeEntry]

theorem restart_samePours (straps : Straps) : SamePours s (restart straps s) where
  ids n := by rw [restart_line]; rfl
  inFlight n := by rw [restart_line]; rfl
  flight i := by
    by_cases hi : i < 128
    · rw [restart_tap s straps hi]
      exact orphan_flight _
    · rw [State.tap_of_ge (Nat.not_lt.mp hi), State.tap_of_ge (Nat.not_lt.mp hi)]

end routes

/-- A property that depends on chains and pours in flight alone is kept by every step where the operations that change them keep it. -/
theorem StepLaw.of_samePours {P : State → Prop} (same : ∀ s t, SamePours s t → P s → P t)
    (clear : ∀ s n, P s → P (s.modLine n Line.cleared))
    (append : ∀ s n k, n < 48 → kegHeld s k.id = false → (s.line n).chain.length < 6 → P s →
      P (s.modLine n fun l => { l with chain := l.chain ++ [k] }))
    (shrink : ∀ s n ks, ks.Sublist (s.line n).chain → P s → P (s.setLine n { s.line n with chain := ks }))
    (granted : ∀ s t n z, t < 128 → (s.tap t).pour = none → P s → P (Machine.grant t n z s))
    (idle : ∀ t n x y, (x.tap t).flight = some n → P x → SamePours (pourLeft n x) y →
      P (y.modTap t fun r => { r with pour := none }))
    (cold : ∀ s cause straps, P s → P (Machine.coldStart cause straps s)) : StepLaw P where
  alike s t h := same s t h.samePours
  move s n st _ _ := same _ _ (moveLine_samePours s n st)
  leaveOffline s n := same _ _ (leaveOffline_samePours s n)
  clear s n _ := clear s n
  append := append
  shrink := shrink
  grant := granted
  pourEnds t r x y u hf hx hy hu := by
    have drained := (hy.samePours.trans (evalDrain_samePours y r.line)).trans hu.samePours
    have dropped := drained.trans (dropStop_alike u t r.token).samePours
    exact same _ _ (applyDeferred_samePours _ t) (idle t r.line x _ hf hx dropped)
  lockout s t on := same _ _ (reportLockout_samePours s t on)
  swap s _ := same _ _ (swapMaps_samePours s)
  queueLine s n p _ := same _ _ (queueLine_samePours s n p)
  withdrawLine s n _ _ := same _ _ (withdrawLine_samePours s n)
  finish s c e _ := same _ _ (finishBatch_closed (SamePours.cleaning s) c e s (.refl s))
  markBatch s c on := same _ _ (markBatch_closed (SamePours.cleaning s) c on s (.refl s))
  circuit s c r _ _ _ := same _ _ (samePours_of_blocks rfl rfl)
  restart s straps := same _ _ (restart_samePours s straps)
  coldStart := cold

/-! #### O54: the law of chains -/

/-- The keg ids of a line. -/
def State.idsOf (s : State) (n : Nat) : List Nat := (s.line n).chain.map (·.id)

theorem line_eq_getElem {s : State} {n : Nat} (h : n < 48) : s.line n = s.cellar.lines.toList[n]'(by simpa using h) := by
  simp [State.line, h]

/-- The law of chains, line by line: no id twice in a chain, none in two chains, at most 6 kegs in each. -/
theorem chainLaw_iff (s : State) : ChainLaw s ↔
    (∀ n, (s.idsOf n).Nodup ∧ (s.idsOf n).length ≤ 6) ∧ ∀ m n, m ≠ n → (s.idsOf m).Disjoint (s.idsOf n) := by
  have cold : ∀ n, ¬ n < 48 → s.idsOf n = [] := fun n hn => by
    simp [State.idsOf, State.line_of_ge (Nat.not_lt.mp hn), coldLine]
  have getL : ∀ n (hn : n < s.cellar.lines.toList.length), (s.cellar.lines.toList[n]).chain.map (·.id) = s.idsOf n :=
    fun n hn => by simp [State.idsOf, line_eq_getElem (s := s) (n := n) (by simpa using hn)]
  unfold ChainLaw kegIds
  rw [List.nodup_flatMap, List.pairwise_iff_getElem]
  simp only [List.forall_mem_iff_getElem, Function.onFun, getL]
  simp only [← List.length_map (f := fun k : Keg => k.id), getL]
  constructor
  · rintro ⟨⟨nodup, disjoint⟩, short⟩
    refine ⟨fun n => ?_, fun m n hne => ?_⟩
    · by_cases hn : n < 48
      · exact ⟨nodup n (by simpa using hn), short n (by simpa using hn)⟩
      · simp [cold n hn]
    · by_cases hm : m < 48 <;> by_cases hn : n < 48
      · rcases Nat.lt_or_gt_of_ne hne with h | h
        · exact disjoint m n (by simpa using hm) (by simpa using hn) h
        · exact (disjoint n m (by simpa using hn) (by simpa using hm) h).symm
      all_goals simp [*]
  · rintro ⟨each, disjoint⟩
    exact ⟨⟨fun n _ => (each n).1, fun m n _ _ h => disjoint m n (Nat.ne_of_lt h)⟩, fun n _ => (each n).2⟩

theorem kegHeld_iff (s : State) (id : Nat) : kegHeld s id = true ↔ ∃ n, id ∈ s.idsOf n := by
  constructor
  · intro h
    simp only [kegHeld, Vector.any_eq_true, List.any_eq_true, decide_eq_true_eq] at h
    obtain ⟨n, hn, k, hk, hid⟩ := h
    refine ⟨n, ?_⟩
    simp only [State.idsOf, State.line, Vector.getElem?_eq_getElem hn, Option.getD_some]
    exact List.mem_map.mpr ⟨k, hk, hid⟩
  · rintro ⟨n, h⟩
    obtain ⟨k, hk, hid⟩ := List.mem_map.mp h
    have hn : n < 48 := by
      cases hc : (s.line n).chain with
      | nil => simp [hc] at hk
      | cons a b => exact lt_of_chain hc
    simp only [kegHeld, Vector.any_eq_true, List.any_eq_true, decide_eq_true_eq]
    refine ⟨n, hn, k, ?_, hid⟩
    simpa [State.line, hn] using hk

/-- Giving one line fewer kegs keeps the law. -/
theorem chainLaw_setLine {s : State} {n : Nat} {l : Line} (hl : (l.chain.map (·.id)).Sublist (s.idsOf n)) (h : ChainLaw s) :
    ChainLaw (s.setLine n l) := by
  rw [chainLaw_iff] at h ⊢
  obtain ⟨each, disjoint⟩ := h
  have sub : ∀ m, ((s.setLine n l).idsOf m).Sublist (s.idsOf m) := fun m => by
    rw [State.idsOf, State.line_setLine]
    split
    · rename_i hm
      rwa [← hm.1]
    · exact List.Sublist.refl _
  exact ⟨fun m => ⟨(sub m).nodup (each m).1, (sub m).length_le.trans (each m).2⟩,
    fun m k hne => List.disjoint_of_subset_left (sub m).subset (List.disjoint_of_subset_right (sub k).subset (disjoint m k hne))⟩

/-- A keg that no chain holds joins a chain of fewer than 6. -/
theorem chainLaw_append {s : State} {n : Nat} {k : Keg} (hn : n < 48) (hk : kegHeld s k.id = false)
    (hl : (s.line n).chain.length < 6) (h : ChainLaw s) : ChainLaw (s.modLine n fun l => { l with chain := l.chain ++ [k] }) := by
  have fresh : ∀ m, k.id ∉ s.idsOf m := fun m hm => by
    rw [(kegHeld_iff s k.id).mpr ⟨m, hm⟩] at hk
    exact absurd hk (by simp)
  have ids : ∀ m, (s.modLine n fun l => { l with chain := l.chain ++ [k] }).idsOf m
      = s.idsOf m ++ if n = m then [k.id] else [] := fun m => by
    rw [State.idsOf, State.modLine_eq, State.line_setLine]
    by_cases hm : n = m
    · subst hm
      simp [hn, State.idsOf]
    · simp [hm, State.idsOf]
  rw [chainLaw_iff] at h ⊢
  obtain ⟨each, disjoint⟩ := h
  refine ⟨fun m => ?_, fun m j hne => ?_⟩
  · rw [ids]
    by_cases hm : n = m
    · subst hm
      have := fresh n
      simp only [if_true, List.nodup_append, List.length_append]
      refine ⟨⟨(each n).1, by simp, ?_⟩, by simpa [State.idsOf] using hl⟩
      intro a ha b hb hab
      simp only [List.mem_singleton] at hb
      exact this (hb ▸ hab ▸ ha)
    · simpa [hm] using each m
  · rw [ids, ids]
    have := disjoint m j hne
    by_cases hm : n = m
    · subst hm
      simpa [hne, List.disjoint_append_left, this] using fresh j
    · by_cases hj : n = j
      · subst hj
        simpa [hm, List.disjoint_append_right, this] using fresh m
      · simpa [hm, hj] using this

theorem coldStart_line (cause : StartCause) (straps : Straps) (s : State) (n : Nat) :
    (coldStart cause straps s).line n = coldLine := by
  by_cases hn : n < 48
  · simp [coldStart, coldCellar, State.line, hn]
  · exact State.line_of_ge (Nat.not_lt.mp hn)

theorem coldStart_tap (cause : StartCause) (straps : Straps) (s : State) (t : Nat) :
    (coldStart cause straps s).tap t = coldTap := by
  by_cases ht : t < 128
  · simp [coldStart, coldPour, State.tap, ht]
  · exact State.tap_of_ge (Nat.not_lt.mp ht)

theorem chainLaw_of_ids {s t : State} (h : ∀ n, t.idsOf n = s.idsOf n) (hs : ChainLaw s) : ChainLaw t := by
  rw [chainLaw_iff] at hs ⊢
  simpa only [h] using hs

theorem chainLaw_coldStart (cause : StartCause) (straps : Straps) (s : State) : ChainLaw (coldStart cause straps s) := by
  rw [chainLaw_iff]
  simp [State.idsOf, coldStart_line, coldLine]

theorem idsOf_setLine_same {s : State} {n : Nat} {l : Line} (h : l.chain = (s.line n).chain) (m : Nat) :
    (s.setLine n l).idsOf m = s.idsOf m := by
  rw [State.idsOf, State.line_setLine]
  split
  · rename_i hm
    rw [h, hm.1, State.idsOf]
  · rfl

/-- The law of chains is kept by everything a step can do. -/
theorem chainLaw_stepLaw : StepLaw ChainLaw := by
  refine StepLaw.of_samePours (fun s t h => chainLaw_of_ids h.ids) (fun s n => chainLaw_setLine (by simp [Line.cleared]))
    (fun s n k => chainLaw_append) (fun s n ks hks => chainLaw_setLine (hks.map _)) (fun s t n z _ _ hs => ?_)
    (fun t n x y _ hx hy => ?_) (fun s cause straps _ => chainLaw_coldStart cause straps s)
  · exact chainLaw_of_ids (idsOf_setLine_same (n := n) (l := { s.line n with inFlight := (s.line n).inFlight + 1 }) rfl) hs
  · exact chainLaw_of_ids (fun m => (hy.ids m).trans (idsOf_setLine_same (s := x) (n := n) (by rfl) m)) hx

/-- Settles O54: `ChainLaw` has every part of a step law. -/
theorem stepKeepsChains : Obligations.StepKeepsChains := fun _ _ hs ht => chainLaw_stepLaw.step ht hs

/-! #### O55: the law of pours in flight -/

/-- The pours on a line, counted by tap number. -/
theorem poursOn_eq_card (s : State) (n : Nat) :
    poursOn s n = ((Finset.range 128).filter fun i => (s.tap i).flight = some n).card := by
  have taps : s.pour.taps.toList = (List.range 128).map s.tap := by
    apply List.ext_getElem
    · simp
    · intro i h1 h2
      have hi : i < 128 := by simpa using h1
      simp [State.tap, hi]
  rw [poursOn, taps, List.countP_map, ← Nat.count_eq_card_filter_range, Nat.count]
  congr 1
  funext i
  cases h : (s.tap i).pour <;> simp [Tap.flight, h]

theorem inFlightLaw_of_same {s t : State} (h : SamePours s t) (hs : InFlightLaw s) : InFlightLaw t := fun n hn => by
  rw [h.inFlight, hs n hn, poursOn_eq_card, poursOn_eq_card]
  simp only [h.flight]

theorem inFlightLaw_setLine {s : State} {n : Nat} {l : Line} (hl : l.inFlight = (s.line n).inFlight) (hs : InFlightLaw s) :
    InFlightLaw (s.setLine n l) := fun m hm => by
  have := hs m hm
  rw [State.line_setLine]
  split
  · rename_i h
    rwa [hl, h.1]
  · exact this

/-- A pour granted at an IDLE tap counts on its line. -/
theorem inFlightLaw_grant {s : State} {t n z : Nat} (ht : t < 128) (hidle : (s.tap t).pour = none) (hs : InFlightLaw s) :
    InFlightLaw (grant t n z s) := fun m hm => by
  have line : ((grant t n z s).line m).inFlight = (s.line m).inFlight + if n = m then 1 else 0 := by
    have figures : (grant t n z s).line m = (s.modLine n fun l => { l with inFlight := l.inFlight + 1 }).line m := rfl
    rw [figures, State.modLine_eq, State.line_setLine]
    by_cases h : n = m
    · simp [h, hm]
    · simp [h]
  have flight : ∀ i, ((grant t n z s).tap i).flight = if i = t then some n else (s.tap i).flight := fun i => by
    have figures : (grant t n z s).tap i = (s.modTap t fun r => { r with
      nextToken := (r.nextToken + 1) % 256, pour := some { phase := .granted, record := grantRecord t n z s } }).tap i := rfl
    rw [figures, State.modTap_eq, State.tap_setTap]
    by_cases h : t = i
    · simp [← h, ht, Tap.flight, grantRecord]
    · simp [h, Ne.symm h]
  have before := hs m hm
  rw [poursOn_eq_card] at before
  rw [line, poursOn_eq_card]
  simp only [flight]
  by_cases h : n = m
  · subst h
    have grew : ((Finset.range 128).filter fun i => (if i = t then some n else (s.tap i).flight) = some n)
        = insert t ((Finset.range 128).filter fun i => (s.tap i).flight = some n) := by
      ext i
      by_cases hi : i = t <;> simp [hi, ht]
    rw [grew, Finset.card_insert_of_notMem (by simp [Tap.flight, hidle]), ← before, if_pos rfl]
  · rw [if_neg h, before, Nat.add_zero]
    refine congrArg Finset.card (Finset.filter_congr fun i _ => ?_)
    by_cases hi : i = t
    · subst hi
      simp [Tap.flight, hidle, h]
    · simp [hi]

/-- A pour that ends leaves the count of its line. -/
theorem inFlightLaw_idle {x y : State} {t n : Nat} (hf : (x.tap t).flight = some n) (hx : InFlightLaw x)
    (hy : SamePours (pourLeft n x) y) : InFlightLaw (y.modTap t fun r => { r with pour := none }) := fun m hm => by
  have ht : t < 128 := by
    by_contra hge
    rw [State.tap_of_ge (Nat.not_lt.mp hge)] at hf
    exact absurd hf (by simp [Tap.flight, coldTap])
  have line : (y.line m).inFlight = (x.line m).inFlight - if n = m then 1 else 0 := by
    rw [hy.inFlight, pourLeft, State.modLine_eq, State.line_setLine]
    split <;> simp_all
  have flight : ∀ i, ((y.modTap t fun r => { r with pour := none }).tap i).flight = if i = t then none else (x.tap i).flight :=
    fun i => by
      rw [State.modTap_eq, State.tap_setTap]
      by_cases hi : t = i
      · simp [← hi, ht, Tap.flight]
      · simpa [hi, Ne.symm hi] using (hy.flight i).trans (by rfl)
  have before := hx m hm
  rw [poursOn_eq_card] at before
  rw [poursOn_eq_card]
  simp only [flight]
  have kept : (y.modTap t fun r => { r with pour := none }).line m = y.line m := rfl
  rw [kept, line, before]
  by_cases h : n = m
  · subst h
    have shrank : ((Finset.range 128).filter fun i => (if i = t then none else (x.tap i).flight) = some n)
        = ((Finset.range 128).filter fun i => (x.tap i).flight = some n).erase t := by
      ext i
      by_cases hi : i = t <;> simp [hi]
    rw [shrank, Finset.card_erase_of_mem (by simp [ht, hf]), if_pos rfl]
  · rw [if_neg h, Nat.sub_zero]
    refine congrArg Finset.card (Finset.filter_congr fun i _ => ?_)
    by_cases hi : i = t
    · subst hi
      simp [hf, h]
    · simp [hi]

theorem inFlightLaw_coldStart (cause : StartCause) (straps : Straps) (s : State) : InFlightLaw (coldStart cause straps s) :=
  fun n _ => by
    rw [coldStart_line, poursOn_eq_card]
    simp [coldStart_tap, coldLine, coldTap, Tap.flight]

/-- The law of pours in flight is kept by everything a step can do. -/
theorem inFlightLaw_stepLaw : StepLaw InFlightLaw :=
  StepLaw.of_samePours (fun _ _ => inFlightLaw_of_same) (fun _ _ => inFlightLaw_setLine rfl)
    (fun _ _ _ _ _ _ => inFlightLaw_setLine rfl) (fun _ _ _ _ => inFlightLaw_setLine rfl)
    (fun _ _ _ _ => inFlightLaw_grant) (fun _ _ _ _ => inFlightLaw_idle)
    (fun s cause straps _ => inFlightLaw_coldStart cause straps s)

/-- Settles O55: `InFlightLaw` has every part of a step law. -/
theorem stepKeepsInFlight : Obligations.StepKeepsInFlight := fun _ _ hs ht => inFlightLaw_stepLaw.step ht hs

end Sys2Proof.Machine
end

section
/-! ### The laws of cleaning

`CleaningOk` restates the laws of cleaning without the bounds on numbers; the lemmas say what each operation of the queue, of a batch and
of a route does to them. -/

namespace Sys2Proof.Machine

open Sys2Proof Sys2Proof.Safety

/-- The laws of the mark, of the queue and of the batches, for any number. -/
structure QueueOk (s : State) : Prop where
  mark : ∀ n, LineMarkLaw (s.line n)
  nodup : (s.clean.queue.map (·.line)).Nodup
  entry : ∀ n, n ∈ s.clean.queue.map (·.line) ↔ (s.line n).state = .draining ∨ (s.line n).state = .queued
  ready : ∀ e ∈ s.clean.queue, e.ready = true ↔ (s.line e.line).state = .queued
  batch : ∀ n, (s.line n).state = .cleaning ↔ ∃ c, n ∈ (s.circuit c).batch
  apart : ∀ c d n, n ∈ (s.circuit c).batch → n ∈ (s.circuit d).batch → c = d
  once : ∀ c, (s.circuit c).batch.Nodup
  idle : ∀ c, (s.circuit c).state = .idle → (s.circuit c).batch = []

/-- Every tap routed to line `n` has lockout on. -/
def Locked (s : State) (n : Nat) : Prop := ∀ i, (s.tap i).route.line = some n → (s.tap i).lockout = true

/-- Line `n` keeps the law of locks. -/
def LockOk (s : State) (n : Nat) : Prop := (s.line n).state = .queued ∨ (s.line n).state = .cleaning → Locked s n

/-- No queue entry is ready. -/
def NoneReady (s : State) : Prop := ∀ e ∈ s.clean.queue, e.ready = false

/-- The laws of cleaning together. -/
structure CleaningOk (s : State) : Prop where
  laws : QueueOk s
  locks : ∀ n, LockOk s n
  taking : ∀ c, (s.circuit c).state = .idle → NoneReady s

/-! #### The restatement -/

theorem coldLine_markLaw : LineMarkLaw coldLine := by simp [LineMarkLaw, markFits, coldLine]

/-- A line that is not OFFLINE is a line of the part. -/
theorem lt_of_state {s : State} {n : Nat} (h : (s.line n).state ≠ .offline) : n < 48 := by
  by_contra hn
  rw [State.line_of_ge (Nat.not_lt.mp hn)] at h
  exact h rfl

theorem tapsLocked_iff (s : State) (n : Nat) : tapsLocked s n = true ↔ Locked s n := by
  simp only [tapsLocked, Vector.all_eq_true, Bool.or_eq_true, decide_eq_true_eq]
  constructor
  · intro h i hi
    by_cases ht : i < 128
    · have := h i ht
      simp only [State.tap, Vector.getElem?_eq_getElem ht, Option.getD_some] at hi ⊢
      exact this.resolve_left (fun hne => hne hi)
    · rw [State.tap_of_ge (Nat.not_lt.mp ht)] at hi
      exact absurd hi (by simp [coldTap, Route.dark])
  · intro h i ht
    have := h i
    simp only [State.tap, Vector.getElem?_eq_getElem ht, Option.getD_some] at this
    by_cases hr : (s.pour.taps[i]).route.line = some n
    · exact .inr (this hr)
    · exact .inl hr

theorem queueOk_iff (s : State) : QueueOk s ↔ CleaningLaws s := by
  have members : ∀ n, (∃ e ∈ s.clean.queue, e.line = n) ↔ n ∈ s.clean.queue.map (·.line) := fun n => List.mem_map.symm
  have circuits : ∀ n, (n ∈ (s.circuit .a).batch ∨ n ∈ (s.circuit .b).batch) ↔ ∃ c, n ∈ (s.circuit c).batch := fun n =>
    ⟨fun h => h.elim (⟨.a, ·⟩) (⟨.b, ·⟩), fun ⟨c, h⟩ => by cases c <;> simp [h]⟩
  constructor
  · intro h
    have inRange : ∀ c, ∀ n ∈ (s.circuit c).batch, n < 48 := fun c n hn => lt_of_state (s := s) (by simp [(h.batch n).mpr ⟨c, hn⟩])
    refine ⟨fun n _ => h.mark n, ⟨h.nodup, fun e he => ?_, fun n _ => (members n).trans (h.entry n), h.ready⟩,
      fun n _ => (h.batch n).trans (circuits n).symm, fun n hn => ⟨inRange _ n hn, fun hb => ?_⟩, inRange _, h.once _, h.once _,
      h.idle _, h.idle _⟩
    · rcases (h.entry e.line).mp (List.mem_map_of_mem he) with hst | hst <;> exact lt_of_state (s := s) (by simp [hst])
    · exact absurd (h.apart .a .b n hn hb) (by simp)
  · rintro ⟨mark, ⟨nodup, inRange, entry, ready⟩, batch, apartA, rangeB, onceA, onceB, idleA, idleB⟩
    have offline : ∀ n, ¬ n < 48 → s.line n = coldLine := fun n hn => State.line_of_ge (Nat.not_lt.mp hn)
    have rangeA : ∀ n ∈ (s.circuit .a).batch, n < 48 := fun n hn => (apartA n hn).1
    refine ⟨fun n => ?_, nodup, fun n => ?_, ready, fun n => ?_, fun c d n => ?_, fun c => ?_, fun c => ?_⟩
    · by_cases hn : n < 48
      · exact mark n hn
      · exact offline n hn ▸ coldLine_markLaw
    · by_cases hn : n < 48
      · exact (members n).symm.trans (entry n hn)
      · simp only [offline n hn, coldLine, reduceCtorEq, or_self, iff_false, ← members]
        rintro ⟨e, he, rfl⟩
        exact hn (inRange e he)
    · by_cases hn : n < 48
      · exact (batch n hn).trans (circuits n)
      · simp only [offline n hn, coldLine, reduceCtorEq, false_iff, ← circuits]
        exact fun h => hn (h.elim (rangeA n) (rangeB n))
    · cases c <;> cases d <;> intro hc hd
      · rfl
      · exact absurd hd (apartA n hc).2
      · exact absurd hc (apartA n hd).2
      · rfl
    · cases c
      · exact onceA
      · exact onceB
    · cases c
      · exact idleA
      · exact idleB

theorem cleaningOk_iff (s : State) : CleaningOk s ↔ CleaningLaws s ∧ LockLaw s ∧ TakingLaw s := by
  constructor
  · intro h
    refine ⟨(queueOk_iff s).mp h.laws, fun n _ hst => (tapsLocked_iff s n).mpr (h.locks n hst), ?_⟩
    rintro (ha | hb)
    · exact h.taking .a ha
    · exact h.taking .b hb
  · rintro ⟨laws, locks, taking⟩
    refine ⟨(queueOk_iff s).mpr laws, fun n hst => ?_, fun c hc => ?_⟩
    · have hn : n < 48 := lt_of_state (s := s) (by rcases hst with h | h <;> simp [h])
      exact (tapsLocked_iff s n).mp (locks n hn hst)
    · cases c
      · exact taking (.inl hc)
      · exact taking (.inr hc)

/-! #### Like states -/

theorem lineMarkLaw_congr {l m : Line} (hs : m.state = l.state) (hm : m.mark = l.mark) (hp : m.preDrain = l.preDrain)
    (h : LineMarkLaw l) : LineMarkLaw m := by
  unfold LineMarkLaw at h ⊢
  rwa [hs, hm, hp]

/-- `t` agrees with `s` on what the laws of cleaning read. -/
structure SameService (s t : State) : Prop where
  state : ∀ n, (t.line n).state = (s.line n).state
  mark : ∀ n, (t.line n).mark = (s.line n).mark
  preDrain : ∀ n, (t.line n).preDrain = (s.line n).preDrain
  route : ∀ i, (t.tap i).route.line = (s.tap i).route.line
  lockout : ∀ i, (t.tap i).lockout = (s.tap i).lockout
  queue : t.clean.queue = s.clean.queue
  circuitState : ∀ c, (t.circuit c).state = (s.circuit c).state
  batch : ∀ c, (t.circuit c).batch = (s.circuit c).batch

theorem Alike.sameService {s t : State} (h : Alike s t) : SameService s t :=
  ⟨h.state, h.mark, h.preDrain, h.route, h.lockout, h.queue, h.circuitState, h.batch⟩

theorem SameService.trans {s t u : State} (h : SameService s t) (k : SameService t u) : SameService s u :=
  ⟨fun n => (k.state n).trans (h.state n), fun n => (k.mark n).trans (h.mark n), fun n => (k.preDrain n).trans (h.preDrain n),
    fun i => (k.route i).trans (h.route i), fun i => (k.lockout i).trans (h.lockout i), k.queue.trans h.queue,
    fun c => (k.circuitState c).trans (h.circuitState c), fun c => (k.batch c).trans (h.batch c)⟩

theorem setLine_sameService {s : State} {n : Nat} {l : Line} (h : (l.state, l.mark, l.preDrain)
    = ((s.line n).state, (s.line n).mark, (s.line n).preDrain)) : SameService s (s.setLine n l) := by
  simp only [Prod.mk.injEq] at h
  obtain ⟨hs, hm, hp⟩ := h
  refine ⟨fun m => ?_, fun m => ?_, fun m => ?_, fun _ => rfl, fun _ => rfl, rfl, fun _ => rfl, fun _ => rfl⟩
  all_goals
    rw [State.line_setLine]
    split
    · rename_i hn
      simp only [← hn.1, hs, hm, hp]
    · rfl

theorem setTap_sameService {s : State} {i : Nat} {r : Tap} (h : (r.route.line, r.lockout)
    = ((s.tap i).route.line, (s.tap i).lockout)) : SameService s (s.setTap i r) := by
  simp only [Prod.mk.injEq] at h
  obtain ⟨hr, hl⟩ := h
  refine ⟨fun _ => rfl, fun _ => rfl, fun _ => rfl, fun j => ?_, fun j => ?_, rfl, fun _ => rfl, fun _ => rfl⟩
  all_goals
    rw [State.tap_setTap]
    split
    · rename_i hi
      simp only [← hi.1, hr, hl]
    · rfl

theorem queueOk_of_same {s t : State} (h : SameService s t) (hs : QueueOk s) : QueueOk t where
  mark n := lineMarkLaw_congr (h.state n) (h.mark n) (h.preDrain n) (hs.mark n)
  nodup := h.queue ▸ hs.nodup
  entry n := by rw [h.queue, h.state, hs.entry]
  ready := by simpa only [h.queue, h.state] using hs.ready
  batch n := by simp only [h.state, h.batch, hs.batch]
  apart := by simpa only [h.batch] using hs.apart
  once := by simpa only [h.batch] using hs.once
  idle := by simpa only [h.batch, h.circuitState] using hs.idle

theorem lockOk_of_same {s t : State} {n : Nat} (h : SameService s t) (hs : LockOk s n) : LockOk t n := by
  simpa only [LockOk, Locked, h.state, h.route, h.lockout] using hs

theorem cleaningOk_of_same {s t : State} (h : SameService s t) (hs : CleaningOk s) : CleaningOk t where
  laws := queueOk_of_same h hs.laws
  locks n := lockOk_of_same h (hs.locks n)
  taking c hc := by
    rw [NoneReady, h.queue]
    exact hs.taking c (by rwa [← h.circuitState])

theorem queueOk_of_alike {s t : State} (h : Alike s t) (hs : QueueOk s) : QueueOk t := queueOk_of_same h.sameService hs

theorem lockOk_of_alike {s t : State} {n : Nat} (h : Alike s t) (hs : LockOk s n) : LockOk t n := lockOk_of_same h.sameService hs

theorem cleaningOk_of_alike {s t : State} (h : Alike s t) (hs : CleaningOk s) : CleaningOk t := cleaningOk_of_same h.sameService hs

/-! #### Lines of the cellar -/

/-- The line waits for a clean or has one. -/
def ServiceState.waits (st : ServiceState) : Prop := st = .draining ∨ st = .queued ∨ st = .cleaning

/-- The lines with a queue entry and those in a batch. -/
def Waiting (s : State) (n : Nat) : Prop := n ∈ s.clean.queue.map (·.line) ∨ ∃ c, n ∈ (s.circuit c).batch

theorem QueueOk.waits_iff {s : State} (h : QueueOk s) (n : Nat) : (s.line n).state.waits ↔ Waiting s n := by
  rw [Waiting, h.entry, ← h.batch, ServiceState.waits, or_assoc]

/-- A line that does not wait may take any record that does not wait and keeps the law of the mark. -/
theorem cleaningOk_setLine {s : State} {n : Nat} {l : Line} (hs : CleaningOk s) (before : ¬ (s.line n).state.waits)
    (after : ¬ l.state.waits) (mark : LineMarkLaw l) : CleaningOk (s.setLine n l) := by
  have state : ∀ m, ((s.setLine n l).line m).state = (s.line m).state
      ∨ ¬ ((s.setLine n l).line m).state.waits ∧ ¬ (s.line m).state.waits := fun m => by
    rw [State.line_setLine]
    split
    · rename_i h
      exact .inr ⟨after, h.1 ▸ before⟩
    · exact .inl rfl
  have same : ∀ m st, st.waits → (((s.setLine n l).line m).state = st ↔ (s.line m).state = st) := fun m st hst => by
    rcases state m with h | ⟨h1, h2⟩
    · rw [h]
    · exact iff_of_false (fun h => h1 (h ▸ hst)) (fun h => h2 (h ▸ hst))
  have draining := fun m => same m .draining (.inl rfl)
  have queued := fun m => same m .queued (.inr (.inl rfl))
  have cleaning := fun m => same m .cleaning (.inr (.inr rfl))
  refine ⟨⟨fun m => ?_, hs.laws.nodup, fun m => ?_, fun e he => ?_, fun m => ?_, hs.laws.apart, hs.laws.once, hs.laws.idle⟩,
    fun m => ?_, hs.taking⟩
  · rw [State.line_setLine]
    split
    · exact mark
    · exact hs.laws.mark m
  · rw [draining, queued]
    exact hs.laws.entry m
  · rw [queued]
    exact hs.laws.ready e he
  · rw [cleaning]
    exact hs.laws.batch m
  · intro hst
    rw [queued, cleaning] at hst
    exact hs.locks m hst

theorem not_waits_of_clear {st : ServiceState} (h : st.clear) : ¬ st.waits := by
  rcases h with rfl | rfl | rfl | rfl <;> simp [ServiceState.waits]

theorem mark_of_clear {l : Line} (h : LineMarkLaw l) (hst : l.state.clear) : l.mark = false := by
  obtain ⟨⟨-, clear⟩, -⟩ := h
  exact clear hst

theorem lineMarkLaw_of_clear {l : Line} (hm : l.mark = false) (hst : l.state.clear) : LineMarkLaw l := by
  refine ⟨⟨fun h => ?_, fun _ => hm⟩, fun h => ?_⟩
  · rcases hst with e | e | e | e <;> simp [e] at h
  · rcases hst with e | e | e | e <;> simp [e] at h

/-- An OFFLINE or FOUL line has its mark set. -/
theorem lineMarkLaw_of_marked {l : Line} (hm : l.mark = true) (hst : l.state = .offline ∨ l.state = .foul) : LineMarkLaw l := by
  refine ⟨⟨fun _ => hm, fun h => ?_⟩, fun h => ?_⟩
  · rcases hst with e | e <;> simp [e] at h
  · rcases hst with e | e <;> simp [e] at h

theorem cleaningOk_moveLine {s : State} {n : Nat} {st : ServiceState} (hs : CleaningOk s) (before : ¬ (s.line n).state.waits)
    (after : ¬ st.waits) (mark : LineMarkLaw { s.line n with state := st }) : CleaningOk (moveLine n st s) :=
  ite_closed hs (cleaningOk_of_alike (post_alike _ _ _) (cleaningOk_setLine hs before after mark))

theorem cleaningOk_leaveOffline {s : State} {n : Nat} (hs : CleaningOk s) : CleaningOk (leaveOffline n s) := by
  unfold leaveOffline
  split
  · rename_i h
    have marked := cleaningOk_setLine (n := n) (l := { s.line n with mark := true }) hs (by simp [h, ServiceState.waits])
      (by simp [h, ServiceState.waits]) (lineMarkLaw_of_marked rfl (.inl h))
    have line : ((s.modLine n fun l => { l with mark := true }).line n).state = .offline
        ∧ ((s.modLine n fun l => { l with mark := true }).line n).mark = true := by
      rw [State.modLine_eq, State.line_setLine]
      split
      · exact ⟨h, rfl⟩
      · rename_i hn
        have hge : 48 ≤ n := by simpa using hn
        rw [State.line_of_ge hge]
        exact ⟨rfl, rfl⟩
    exact cleaningOk_moveLine marked (by rw [line.1]; simp [ServiceState.waits]) (by simp [ServiceState.waits])
      (lineMarkLaw_of_marked line.2 (.inr rfl))
  · exact hs

/-! #### A set of lines changes its state -/

/-- The lines of `L` have taken the state `g` gives for their mark; marks, queue, circuits and the other lines are as they were. -/
structure Restated (L : List Nat) (g : Bool → ServiceState) (s t : State) : Prop where
  state : ∀ n, (t.line n).state = if n ∈ L then g (s.line n).mark else (s.line n).state
  mark : ∀ n, (t.line n).mark = (s.line n).mark
  preDrain : ∀ n, (t.line n).preDrain = (s.line n).preDrain
  queue : t.clean.queue = s.clean.queue
  circuit : ∀ c, (t.circuit c).view = (s.circuit c).view

theorem Restated.nil (g : Bool → ServiceState) (s : State) : Restated [] g s s :=
  ⟨fun _ => by simp, fun _ => rfl, fun _ => rfl, rfl, fun _ => rfl⟩

theorem Restated.cons {n : Nat} {L : List Nat} {g : Bool → ServiceState} {s t u : State} (h : Restated [n] g s t)
    (k : Restated L g t u) : Restated (n :: L) g s u where
  state m := by
    rw [k.state, h.state, h.mark]
    by_cases hm : m ∈ L <;> simp [hm]
  mark m := (k.mark m).trans (h.mark m)
  preDrain m := (k.preDrain m).trans (h.preDrain m)
  queue := k.queue.trans h.queue
  circuit c := (k.circuit c).trans (h.circuit c)

theorem Restated.alike {L : List Nat} {g : Bool → ServiceState} {s t u : State} (h : Restated L g s t) (k : Alike t u) :
    Restated L g s u where
  state n := (k.state n).trans (h.state n)
  mark n := (k.mark n).trans (h.mark n)
  preDrain n := (k.preDrain n).trans (h.preDrain n)
  queue := k.queue.trans h.queue
  circuit c := (k.circuit c).trans (h.circuit c)

theorem Restated.alike_first {L : List Nat} {g : Bool → ServiceState} {s t u : State} (h : Alike s t) (k : Restated L g t u) :
    Restated L g s u where
  state n := by rw [k.state, h.state, h.mark]
  mark n := (k.mark n).trans (h.mark n)
  preDrain n := (k.preDrain n).trans (h.preDrain n)
  queue := k.queue.trans h.queue
  circuit c := (k.circuit c).trans (h.circuit c)

theorem foldl_restated {g : Bool → ServiceState} {f : State → Nat → State} {L : List Nat}
    (h : ∀ s, ∀ n ∈ L, Restated [n] g s (f s n)) (s : State) : Restated L g s (L.foldl f s) := by
  induction L generalizing s with
  | nil => exact .nil g s
  | cons n L ih =>
    exact (h s n (List.mem_cons_self ..)).cons (ih (fun s m hm => h s m (List.mem_cons_of_mem _ hm)) (f s n))

theorem moveLine_restated {n : Nat} {st : ServiceState} {g : Bool → ServiceState} {s : State} (hn : n < 48)
    (hg : g (s.line n).mark = st) : Restated [n] g s (moveLine n st s) := by
  unfold moveLine
  split
  · rename_i h
    refine ⟨fun m => ?_, fun _ => rfl, fun _ => rfl, rfl, fun _ => rfl⟩
    by_cases hm : m = n
    · simp [hm, hg, h]
    · simp [hm]
  · refine Restated.alike (t := s.modLine n fun l => { l with state := st }) ?_ (post_alike _ _ _)
    refine ⟨fun m => ?_, fun m => ?_, fun m => ?_, rfl, fun _ => rfl⟩ <;> rw [State.modLine_eq, State.line_setLine]
    · by_cases hm : n = m
      · simp [← hm, hn, hg]
      · simp [hm, Ne.symm hm]
    · split
      · rename_i h
        rw [← h.1]
      · rfl
    · split
      · rename_i h
        rw [← h.1]
      · rfl

/-- Every tap keeps its lockout, and either its route's line or takes one of `L`. -/
structure RoutedTo (L : List Nat) (s t : State) : Prop where
  lockout : ∀ i, (t.tap i).lockout = (s.tap i).lockout
  route : ∀ i, (t.tap i).route.line = (s.tap i).route.line ∨ ∃ n ∈ L, (t.tap i).route.line = some n

theorem RoutedTo.refl (L : List Nat) (s : State) : RoutedTo L s s := ⟨fun _ => rfl, fun _ => .inl rfl⟩

theorem RoutedTo.trans {L : List Nat} {s t u : State} (h : RoutedTo L s t) (k : RoutedTo L t u) : RoutedTo L s u where
  lockout i := (k.lockout i).trans (h.lockout i)
  route i := by
    rcases k.route i with hk | hk
    · rw [hk]
      exact h.route i
    · exact .inr hk

theorem Alike.routedTo {s t : State} (L : List Nat) (h : Alike s t) : RoutedTo L s t := ⟨h.lockout, fun i => .inl (h.route i)⟩

/-- A line outside `L` to which only taps of before are routed keeps its locks. -/
theorem RoutedTo.locked {L : List Nat} {s t : State} {n : Nat} (h : RoutedTo L s t) (hn : n ∉ L) (hs : Locked s n) : Locked t n := by
  intro i hi
  rw [h.lockout]
  rcases h.route i with hr | ⟨m, hm, hr⟩
  · exact hs i (hr ▸ hi)
  · rw [hr, Option.some.injEq] at hi
    exact absurd (hi ▸ hm) hn

theorem takeActiveRoute_routedTo {n t : Nat} {s : State} (h : (s.activeEntry t).line = some n) {L : List Nat} (hn : n ∈ L) :
    RoutedTo L s (takeActiveRoute t s) where
  lockout i := by
    rw [takeActiveRoute, State.modTap_eq, State.tap_setTap]
    split
    · rename_i hi
      rw [← hi.1]
    · rfl
  route i := by
    rw [takeActiveRoute, State.modTap_eq, State.tap_setTap]
    split
    · exact .inr ⟨n, hn, h⟩
    · exact .inl rfl

theorem moveLine_routedTo (n : Nat) (st : ServiceState) (s : State) (L : List Nat) : RoutedTo L s (moveLine n st s) :=
  ite_closed (.refl L s) ⟨fun _ => rfl, fun _ => .inl rfl⟩

theorem takeActiveRoute_restated (t : Nat) (g : Bool → ServiceState) (s : State) : Restated [] g s (takeActiveRoute t s) :=
  ⟨fun _ => by rw [if_neg (by simp)]; rfl, fun _ => rfl, fun _ => rfl, rfl, fun _ => rfl⟩

theorem resolveWithheld_spec (n : Nat) (g : Bool → ServiceState) (s : State) :
    Restated [] g s (resolveWithheld n s) ∧ RoutedTo [n] s (resolveWithheld n s) := by
  refine foldl_closed (P := fun t => Restated [] g s t ∧ RoutedTo [n] s t) (fun t i ht => ?_) _ s ⟨.nil g s, .refl _ s⟩
  split
  · rename_i h
    simp only [Bool.and_eq_true, decide_eq_true_eq] at h
    obtain ⟨restated, routed⟩ := ht
    have k := takeActiveRoute_restated i g t
    refine ⟨⟨fun m => ?_, fun m => (k.mark m).trans (restated.mark m), fun m => (k.preDrain m).trans (restated.preDrain m),
      k.queue.trans restated.queue, fun c => (k.circuit c).trans (restated.circuit c)⟩,
      routed.trans (takeActiveRoute_routedTo h.2 (List.mem_singleton_self n))⟩
    rw [k.state, if_neg (by simp)]
    exact restated.state m
  · exact ht

theorem recordClean_alike (n : Nat) (s : State) : Alike s (recordClean n s) :=
  have recorded : Alike s (s.modLine n fun l =>
    { l with lastClean := s.time, volumeSinceClean := 0, softAgeNoted := false, softVolumeNoted := false }) := setLine_alike rfl
  recorded.trans (changeHolds_alike n _ _)

/-- The state in which a line leaves CLEANING (R8). -/
def leftState (mark : Bool) : ServiceState := if mark then .foul else .rinsed

theorem endLine_spec {n : Nat} (hn : n < 48) (c : Circuit) (e : BatchEnd) (s : State) :
    Restated [n] leftState s (endLine c e n s) ∧ RoutedTo [n] s (endLine c e n s) := by
  have taken := takeRecord_alike s (.clean n c ((s.circuit c).program.getD 0) (s.circuit c).stepsDone
    (stepsIn s ((s.circuit c).program.getD 0)) e (s.line n).mark (s.circuit c).water (s.circuit c).solution)
  unfold endLine leaveCleaning
  simp only []
  generalize takeRecord _ s = u at taken
  have moved : Restated [n] leftState u (moveLine n (if (u.line n).mark then .foul else .rinsed) u) := moveLine_restated hn rfl
  have routed := moveLine_routedTo n (if (u.line n).mark then .foul else .rinsed) u [n]
  generalize moveLine n (if (u.line n).mark then .foul else .rinsed) u = v at moved routed
  have recorded := (recordClean_alike n v).ite (c := decide (e = .completed) = true) (Alike.refl v)
  generalize (if decide (e = .completed) = true then recordClean n v else v) = w at recorded
  obtain ⟨resolved, routes⟩ := resolveWithheld_spec n leftState w
  have first := (Restated.alike_first taken moved).alike recorded
  refine ⟨⟨fun m => ?_, fun m => (resolved.mark m).trans (first.mark m), fun m => (resolved.preDrain m).trans (first.preDrain m),
    resolved.queue.trans first.queue, fun d => (resolved.circuit d).trans (first.circuit d)⟩,
    (((taken.routedTo _).trans routed).trans (recorded.routedTo _)).trans routes⟩
  rw [resolved.state, if_neg (by simp)]
  exact first.state m

theorem RoutedTo.mono {L M : List Nat} {s t : State} (h : RoutedTo L s t) (hLM : L ⊆ M) : RoutedTo M s t where
  lockout := h.lockout
  route i := (h.route i).imp id fun ⟨n, hn, hr⟩ => ⟨n, hLM hn, hr⟩

theorem foldl_routedTo {f : State → Nat → State} {L : List Nat} (h : ∀ s, ∀ n ∈ L, RoutedTo L s (f s n)) (s : State) :
    ∀ M ⊆ L, RoutedTo L s (M.foldl f s) := by
  intro M
  induction M generalizing s with
  | nil => exact fun _ => .refl L s
  | cons n M ih =>
    intro hM
    exact (h s n (hM (List.mem_cons_self ..))).trans (ih (f s n) fun m hm => hM (List.mem_cons_of_mem _ hm))

end Sys2Proof.Machine
end

section
/-! ### Batches, the queue and routes under the laws of cleaning -/

namespace Sys2Proof.Machine

open Sys2Proof Sys2Proof.Safety

/-! #### The end of a batch -/

theorem circuit_setCircuit (s : State) (c d : Circuit) (r : CircuitRec) :
    (s.setCircuit c r).circuit d = if d = c then r else s.circuit d := by
  split
  · rename_i h
    rw [h, State.circuit_setCircuit_self]
  · rename_i h
    rw [State.circuit_setCircuit_ne s c d r (Ne.symm h)]

/-- Leaving CLEANING: RINSED or FOUL by the mark. -/
theorem leftState_fits {l : Line} {m : Bool} (hm : l.mark = m) (hst : l.state = leftState m) : LineMarkLaw l := by
  cases m
  · exact lineMarkLaw_of_clear hm (.inl hst)
  · exact lineMarkLaw_of_marked hm (.inr hst)

theorem leftState_not_waits (m : Bool) : ¬ (leftState m).waits := by
  cases m <;> simp [leftState, ServiceState.waits]

/-- A batch ends: its lines leave CLEANING and its circuit is IDLE. -/
theorem queueOk_of_left {s t : State} {c : Circuit} {r : CircuitRec} (hs : QueueOk s)
    (ht : Restated (s.circuit c).batch leftState s t) (hb : r.batch = []) :
    QueueOk (t.setCircuit c r) := by
  have line : ∀ n, (t.setCircuit c r).line n = t.line n := fun _ => rfl
  have queue : (t.setCircuit c r).clean.queue = s.clean.queue := by
    cases c <;> exact ht.queue
  have state : ∀ n st, st.waits → ((t.line n).state = st ↔ n ∉ (s.circuit c).batch ∧ (s.line n).state = st) := fun n st hst => by
    rw [ht.state]
    split
    · rename_i hn
      exact iff_of_false (fun h => leftState_not_waits _ (h ▸ hst)) (fun h => h.1 hn)
    · rename_i hn
      exact ⟨fun h => ⟨hn, h⟩, fun h => h.2⟩
  have cleaning : ∀ n, n ∈ (s.circuit c).batch → (s.line n).state = .cleaning := fun n hn => (hs.batch n).mpr ⟨c, hn⟩
  have others : ∀ n st, st ≠ .cleaning → st.waits → ((t.line n).state = st ↔ (s.line n).state = st) := fun n st hne hst => by
    rw [state n st hst]
    refine ⟨fun h => h.2, fun h => ⟨fun hn => hne ?_, h⟩⟩
    rw [← h, cleaning n hn]
  have batch : ∀ d, ((t.setCircuit c r).circuit d).batch = if d = c then [] else (s.circuit d).batch := fun d => by
    rw [circuit_setCircuit]
    split
    · exact hb
    · exact congrArg (·.2) (ht.circuit d)
  refine ⟨fun n => ?_, queue ▸ hs.nodup, fun n => ?_, fun e he => ?_, fun n => ?_, fun d d' n => ?_, fun d => ?_, fun d hd => ?_⟩
  · by_cases hn : n ∈ (s.circuit c).batch
    · refine leftState_fits (ht.mark n) ?_
      rw [line, ht.state, if_pos hn]
    · refine lineMarkLaw_congr ?_ (ht.mark n) (ht.preDrain n) (hs.mark n)
      rw [line, ht.state, if_neg hn]
  · rw [queue, line, others n _ (by simp) (.inl rfl), others n _ (by simp) (.inr (.inl rfl))]
    exact hs.entry n
  · rw [line, others _ _ (by simp) (.inr (.inl rfl))]
    exact hs.ready e (queue ▸ he)
  · rw [line, state n _ (.inr (.inr rfl)), hs.batch]
    constructor
    · rintro ⟨hn, d, hd⟩
      refine ⟨d, ?_⟩
      rwa [batch, if_neg (by rintro rfl; exact hn hd)]
    · rintro ⟨d, hd⟩
      rw [batch] at hd
      split at hd
      · exact absurd hd (by simp)
      · rename_i hne
        exact ⟨fun hn => hne (hs.apart d c n hd hn), d, hd⟩
  · rw [batch, batch]
    split
    · simp
    · split
      · simp
      · exact hs.apart d d' n
  · rw [batch]
    split
    · simp
    · exact hs.once d
  · rw [batch]
    rw [circuit_setCircuit] at hd
    split
    · rfl
    · rename_i hne
      rw [if_neg hne, show (t.circuit d).state = (s.circuit d).state from congrArg (·.1) (ht.circuit d)] at hd
      exact hs.idle d hd

/-- What the end of a batch leaves: the laws and every lock, the queue and the other circuit as they were, and the circuit IDLE. -/
structure BatchEnded (c : Circuit) (s t : State) : Prop where
  laws : QueueOk t
  locks : ∀ n, LockOk t n
  queue : t.clean.queue = s.clean.queue
  idle : (t.circuit c).state = .idle
  batch : (t.circuit c).batch = []
  others : ∀ d, d ≠ c → (t.circuit d).view = (s.circuit d).view

/-- A batch ends under the laws, where every line that is not in it keeps its locks. -/
theorem endBatch_ends {s : State} (c : Circuit) (e : BatchEnd) (hs : QueueOk s) (locks : ∀ n, n ∉ (s.circuit c).batch → LockOk s n) :
    BatchEnded c s (endBatch c e s) := by
  have inRange : ∀ n ∈ (s.circuit c).batch, n < 48 := fun n hn => lt_of_state (s := s) (by simp [(hs.batch n).mpr ⟨c, hn⟩])
  have left : Restated (s.circuit c).batch leftState s ((s.circuit c).batch.foldl (fun s n => endLine c e n s) s) :=
    foldl_restated (fun u n hn => (endLine_spec (inRange n hn) c e u).1) s
  have routed : RoutedTo (s.circuit c).batch s ((s.circuit c).batch.foldl (fun s n => endLine c e n s) s) :=
    foldl_routedTo (fun u n hn => (endLine_spec (inRange n hn) c e u).2.mono (by simpa using hn)) s _ (List.Subset.refl _)
  unfold endBatch
  simp only []
  generalize (s.circuit c).batch.foldl (fun s n => endLine c e n s) s = u at left routed
  have posted := post_alike (.circuit c) (endCauseOf e) (u.modCircuit c fun r =>
    { r with state := .idle, batch := [], program := none, pauseCause := none, lastEnd := some e })
  have laws := queueOk_of_left (r := { u.circuit c with
    state := .idle, batch := [], program := none, pauseCause := none, lastEnd := some e }) hs left rfl
  refine ⟨queueOk_of_alike posted laws, fun n => lockOk_of_alike posted fun hst => ?_, ?_, ?_, ?_, fun d hd => ?_⟩
  · have hn : n ∉ (s.circuit c).batch := fun hn => by
      have hst' : (u.line n).state = .queued ∨ (u.line n).state = .cleaning := hst
      rw [left.state, if_pos hn] at hst'
      exact leftState_not_waits _ (.inr hst')
    have hst' : (s.line n).state = .queued ∨ (s.line n).state = .cleaning := by
      have := left.state n
      rw [if_neg hn] at this
      exact this ▸ hst
    exact routed.locked hn (locks n hn hst')
  · exact posted.queue.trans (by cases c <;> exact left.queue)
  · rw [posted.circuitState, State.modCircuit_eq, State.circuit_setCircuit_self]
  · rw [posted.batch, State.modCircuit_eq, State.circuit_setCircuit_self]
  · rw [posted.circuit, State.modCircuit_eq, State.circuit_setCircuit_ne _ _ _ _ (Ne.symm hd)]
    exact left.circuit d

/-! #### The taking of a batch -/

theorem mem_takenEntries {q : List QueueEntry} {p : Nat} {e : QueueEntry} (h : e ∈ takenEntries q p) : e ∈ q ∧ e.ready = true := by
  have := List.mem_of_mem_take h
  simp only [List.mem_filter, Bool.and_eq_true] at this
  exact ⟨this.1, this.2.1⟩

theorem takenEntries_sublist (q : List QueueEntry) (p : Nat) : (takenEntries q p).Sublist q :=
  (List.take_sublist _ _).trans List.filter_sublist

/-- The oldest ready entry is among those that its program takes. -/
theorem oldestReady_mem {q : List QueueEntry} {e : QueueEntry} (h : oldestReady q = some e) : e ∈ takenEntries q e.program := by
  obtain ⟨hr, before, after, rfl, hb⟩ := List.find?_eq_some_iff_append.mp h
  have none_before : before.filter (fun x => x.ready && decide (x.program = e.program)) = [] := by
    rw [List.filter_eq_nil_iff]
    intro x hx
    have := hb x hx
    simp_all
  simp [takenEntries, none_before, hr, Config.batchPlaces]

/-- The ready entries `batch` leave the queue, their lines are CLEANING, and an IDLE circuit has them as its batch. -/
theorem queueOk_of_taken {s u : State} {c : Circuit} {r : CircuitRec} {batch : List Nat} (hs : QueueOk s)
    (hidle : (s.circuit c).state = .idle) (queued : ∀ n ∈ batch, (s.line n).state = .queued) (once : batch.Nodup)
    (moved : Restated batch (fun _ => .cleaning)
      { s with clean := { s.clean with queue := s.clean.queue.filter fun x => !batch.contains x.line } } u)
    (hr : r.state = .running) (hb : r.batch = batch) : QueueOk (u.setCircuit c r) := by
  have line : ∀ n, (u.setCircuit c r).line n = u.line n := fun _ => rfl
  have queue : (u.setCircuit c r).clean.queue = s.clean.queue.filter fun x => !batch.contains x.line := by
    cases c <;> exact moved.queue
  have state : ∀ n, (u.line n).state = if n ∈ batch then .cleaning else (s.line n).state := moved.state
  have circuit : ∀ d, d ≠ c → ((u.setCircuit c r).circuit d).view = (s.circuit d).view := fun d hd => by
    rw [circuit_setCircuit, if_neg hd]
    exact moved.circuit d
  have batches : ∀ d, ((u.setCircuit c r).circuit d).batch = if d = c then batch else (s.circuit d).batch := fun d => by
    split
    · rename_i h
      rw [h, State.circuit_setCircuit_self, hb]
    · rename_i h
      exact congrArg (·.2) (circuit d h)
  have old : ∀ n d, n ∈ batch → n ∉ (s.circuit d).batch := fun n d hn hd => by
    have := (hs.batch n).mpr ⟨d, hd⟩
    rw [queued n hn] at this
    exact absurd this (by simp)
  refine ⟨fun n => ?_, queue ▸ hs.nodup.sublist (List.filter_sublist.map _), fun n => ?_, fun e he => ?_, fun n => ?_,
    fun d d' n => ?_, fun d => ?_, fun d hd => ?_⟩
  · by_cases hn : n ∈ batch
    · have hst : (u.line n).state = .cleaning := by rw [state, if_pos hn]
      rw [line]
      simp [LineMarkLaw, markFits, hst]
    · refine lineMarkLaw_congr ?_ (moved.mark n) (moved.preDrain n) (hs.mark n)
      rw [line, state, if_neg hn]
      rfl
  · have kept : n ∈ (u.setCircuit c r).clean.queue.map (·.line) ↔ n ∉ batch ∧ n ∈ s.clean.queue.map (·.line) := by
      rw [queue]
      simp only [List.mem_map, List.mem_filter, List.contains_eq_mem, Bool.not_eq_true', decide_eq_false_iff_not]
      constructor
      · rintro ⟨e, ⟨he, hne⟩, rfl⟩
        exact ⟨hne, e, he, rfl⟩
      · rintro ⟨hne, e, he, rfl⟩
        exact ⟨e, ⟨he, hne⟩, rfl⟩
    rw [kept, hs.entry, line, state]
    by_cases hn : n ∈ batch <;> simp [hn]
  · rw [queue, List.mem_filter] at he
    have hne : e.line ∉ batch := by simpa using he.2
    rw [line, state, if_neg hne]
    exact hs.ready e he.1
  · rw [line, state]
    by_cases hn : n ∈ batch
    · simp only [hn, if_true, true_iff]
      exact ⟨c, by rwa [batches, if_pos rfl]⟩
    · rw [if_neg hn, hs.batch]
      constructor
      · rintro ⟨d, hd⟩
        refine ⟨d, ?_⟩
        rw [batches]
        split
        · rename_i h
          rw [h, hs.idle c hidle] at hd
          exact absurd hd (by simp)
        · exact hd
      · rintro ⟨d, hd⟩
        rw [batches] at hd
        split at hd
        · exact absurd hd hn
        · exact ⟨d, hd⟩
  · rw [batches, batches]
    intro h1 h2
    split at h1 <;> split at h2
    · simp [*]
    · exact absurd h2 (old n d' h1)
    · exact absurd h1 (old n d h2)
    · exact hs.apart d d' n h1 h2
  · rw [batches]
    split
    · exact once
    · exact hs.once d
  · by_cases h : d = c
    · rw [h, State.circuit_setCircuit_self, hr] at hd
      exact absurd hd (by simp)
    · rw [batches, if_neg h]
      refine hs.idle d ?_
      rw [← show ((u.setCircuit c r).circuit d).state = (s.circuit d).state from congrArg (·.1) (circuit d h)]
      exact hd

/-- The record of a circuit that has just taken a batch (R155). -/
def CircuitRec.begun (r : CircuitRec) (batch : List Nat) (p : Nat) : CircuitRec :=
  { r with
    state := .running, batch := batch, program := some p, stepIndex := some 1, water := 0, solution := 0, stepsDone := 0 }

/-- The entries of `batch` have left the queue. -/
def State.dequeue (batch : List Nat) (s : State) : State :=
  { s with clean := { s.clean with queue := s.clean.queue.filter fun x => !batch.contains x.line } }

/-- The lines of the batch that the queue entry `e` begins. -/
def batchOf (s : State) (e : QueueEntry) : List Nat := (takenEntries s.clean.queue e.program).map (·.line)

/-- A taking is that of an IDLE circuit and of the oldest ready entry. -/
theorem takeBatch_eq_some {s t : State} {c : Circuit} (h : takeBatch c s = some t) :
    (s.circuit c).state = .idle ∧ ∃ e, oldestReady s.clean.queue = some e ∧
      t = post (.circuit c) .circuitStarted (((batchOf s e).foldl (fun s n => moveLine n .cleaning s)
        (s.dequeue (batchOf s e))).modCircuit c fun r => r.begun (batchOf s e) e.program) := by
  unfold takeBatch at h
  split at h
  · exact absurd h (by simp)
  · rename_i hidle
    split at h
    · exact absurd h (by simp)
    · exact ⟨by simpa using hidle, _, ‹_›, (Option.some.inj h).symm⟩

theorem takeBatch_eq_none {s : State} {c : Circuit} (hidle : (s.circuit c).state = .idle) (h : takeBatch c s = none) :
    NoneReady s := by
  unfold takeBatch at h
  rw [if_neg (by simpa using hidle)] at h
  split at h
  · rename_i he
    intro e hmem
    simpa using List.find?_eq_none.mp he e hmem
  · exact absurd h (by simp)

/-- The lines of a batch to be taken are QUEUED, each once. -/
theorem batchOf_spec {s : State} {e : QueueEntry} (hs : QueueOk s) :
    (∀ n ∈ batchOf s e, (s.line n).state = .queued) ∧ (batchOf s e).Nodup ∧ batchOf s e ⊆ s.clean.queue.map (·.line) := by
  refine ⟨fun n hn => ?_, hs.nodup.sublist ((takenEntries_sublist _ _).map _), ((takenEntries_sublist _ _).map _).subset⟩
  obtain ⟨x, hx, rfl⟩ := List.mem_map.mp hn
  obtain ⟨hq, hr⟩ := mem_takenEntries hx
  exact (hs.ready x hq).mp hr

/-- What the taking of a batch leaves: the laws and every lock, a shorter queue without a line that was ready, the circuit
running. -/
structure BatchTaken (c : Circuit) (s t : State) : Prop where
  laws : QueueOk t
  locks : ∀ n, LockOk t n
  queue : t.clean.queue ⊆ s.clean.queue
  taken : ∃ e ∈ s.clean.queue, e.ready = true ∧ ∀ f ∈ t.clean.queue, f.line ≠ e.line
  shorter : t.clean.queue.length < s.clean.queue.length
  running : (t.circuit c).state = .running
  batch : (t.circuit c).batch ⊆ s.clean.queue.map (·.line)
  others : ∀ d, d ≠ c → (t.circuit d).view = (s.circuit d).view

theorem foldl_moveLine_pour (st : ServiceState) (L : List Nat) (s : State) :
    (L.foldl (fun s n => moveLine n st s) s).pour = s.pour :=
  foldl_closed (P := fun t => t.pour = s.pour) (f := fun s n => moveLine n st s)
    (fun t n ht => by unfold moveLine; exact ite_closed (P := fun u => u.pour = s.pour) ht ht) L s rfl

theorem takeBatch_taken {s t : State} {c : Circuit} (hs : QueueOk s) (locks : ∀ n, LockOk s n) (h : takeBatch c s = some t) :
    BatchTaken c s t := by
  obtain ⟨hidle, e, he, rfl⟩ := takeBatch_eq_some h
  obtain ⟨queued, once, within⟩ := batchOf_spec (e := e) hs
  obtain ⟨held, ready⟩ := mem_takenEntries (oldestReady_mem he)
  have gone : e.line ∈ batchOf s e := List.mem_map_of_mem (oldestReady_mem he)
  have inRange : ∀ n ∈ batchOf s e, n < 48 := fun n hn => lt_of_state (s := s) (by simp [queued n hn])
  have moved := foldl_restated (g := fun _ => .cleaning) (L := batchOf s e)
    (fun u n hn => moveLine_restated (st := .cleaning) (inRange n hn) rfl) (s.dequeue (batchOf s e))
  have pour := foldl_moveLine_pour .cleaning (batchOf s e) (s.dequeue (batchOf s e))
  generalize (batchOf s e).foldl (fun s n => moveLine n .cleaning s) (s.dequeue (batchOf s e)) = u at moved pour
  have posted := post_alike (.circuit c) .circuitStarted (u.modCircuit c fun r => r.begun (batchOf s e) e.program)
  have queue : (u.modCircuit c fun r => r.begun (batchOf s e) e.program).clean.queue
      = s.clean.queue.filter fun x => !(batchOf s e).contains x.line := by
    cases c <;> exact moved.queue
  have missing : ¬ (!(batchOf s e).contains e.line) = true := by simpa using gone
  refine ⟨queueOk_of_alike posted (queueOk_of_taken hs hidle queued once moved rfl rfl),
    fun n => lockOk_of_alike posted fun hst => ?_, ?_, ⟨e, held, ready, fun f hf => ?_⟩, ?_, ?_, ?_, fun d hd => ?_⟩
  · have hst' : (u.line n).state = .queued ∨ (u.line n).state = .cleaning := hst
    have before : (s.line n).state = .queued ∨ (s.line n).state = .cleaning := by
      by_cases hn : n ∈ batchOf s e
      · exact .inl (queued n hn)
      · rw [moved.state, if_neg hn] at hst'
        exact hst'
    intro i hi
    have tap : (u.modCircuit c fun r => r.begun (batchOf s e) e.program).tap i = s.tap i := State.tap_congr pour i
    rw [tap] at hi ⊢
    exact locks n before i hi
  · rw [posted.queue, queue]
    exact List.filter_subset_self _
  · rw [posted.queue, queue, List.mem_filter] at hf
    rintro hline
    exact missing (hline ▸ hf.2)
  · rw [posted.queue, queue]
    exact lt_of_le_of_ne (List.length_filter_le _ _) fun h => missing (List.length_filter_eq_length_iff.mp h e held)
  · rw [posted.circuitState, State.modCircuit_eq, State.circuit_setCircuit_self]
    rfl
  · rw [posted.batch, State.modCircuit_eq, State.circuit_setCircuit_self]
    exact within
  · rw [posted.circuit, State.modCircuit_eq, State.circuit_setCircuit_ne _ _ _ _ (Ne.symm hd)]
    exact moved.circuit d

/-! #### An IDLE circuit serves the queue -/

theorem cleaningOk_markBatch {s : State} (c : Circuit) (on : Bool) (hs : CleaningOk s) : CleaningOk (markBatch c on s) := by
  have cleaning : ∀ n ∈ (s.circuit c).batch, (s.line n).state = .cleaning := fun n hn => (hs.laws.batch n).mpr ⟨c, hn⟩
  have marked : ∀ (L : List Nat) (u : State), (∀ n ∈ L, (u.line n).state = .cleaning) → CleaningOk u →
      CleaningOk (L.foldl (fun s n => s.modLine n fun l => { l with mark := on }) u) := by
    intro L
    induction L with
    | nil => exact fun _ _ hu => hu
    | cons n L ih =>
      intro u hL hu
      have line : ∀ m, ((u.modLine n fun l => { l with mark := on }).line m).state = (u.line m).state := fun m => by
        rw [State.modLine_eq, State.line_setLine]
        split
        · rename_i h
          rw [← h.1]
        · rfl
      refine ih _ (fun m hm => by rw [line]; exact hL m (List.mem_cons_of_mem _ hm)) ?_
      refine ⟨⟨fun m => ?_, hu.laws.nodup, fun m => ?_, fun e he => ?_, fun m => ?_, hu.laws.apart, hu.laws.once, hu.laws.idle⟩,
        fun m hst => ?_, hu.taking⟩
      · show LineMarkLaw ((u.modLine n fun l => { l with mark := on }).line m)
        rw [State.modLine_eq, State.line_setLine]
        split
        · have hn := hL n (List.mem_cons_self ..)
          simp [LineMarkLaw, markFits, hn]
        · exact hu.laws.mark m
      · rw [line]
        exact hu.laws.entry m
      · rw [line]
        exact hu.laws.ready e he
      · rw [line]
        exact hu.laws.batch m
      · rw [line] at hst
        exact hu.locks m hst
  exact marked _ s cleaning hs

/-- A circuit that is not IDLE goes to a state that is not IDLE, with the batch it has. -/
theorem cleaningOk_setCircuit {s : State} {c : Circuit} {r : CircuitRec} (hs : CleaningOk s) (hi : r.state ≠ .idle)
    (hb : r.batch = (s.circuit c).batch) : CleaningOk (s.setCircuit c r) := by
  have queue : (s.setCircuit c r).clean.queue = s.clean.queue := by cases c <;> rfl
  have batch : ∀ d, ((s.setCircuit c r).circuit d).batch = (s.circuit d).batch := fun d => by
    rw [circuit_setCircuit]
    split
    · rename_i h
      rw [hb, h]
    · rfl
  have idle : ∀ d, ((s.setCircuit c r).circuit d).state = .idle → (s.circuit d).state = .idle := fun d hd => by
    rw [circuit_setCircuit] at hd
    split at hd
    · exact absurd hd hi
    · exact hd
  refine ⟨⟨hs.laws.mark, queue ▸ hs.laws.nodup, fun n => ?_, fun e he => hs.laws.ready e (queue ▸ he), fun n => ?_,
    fun d d' n => ?_, fun d => ?_, fun d hd => ?_⟩, hs.locks, fun d hd e he => hs.taking d (idle d hd) e (queue ▸ he)⟩
  · rw [queue]
    exact hs.laws.entry n
  · simp only [batch]
    exact hs.laws.batch n
  · simp only [batch]
    exact hs.laws.apart d d' n
  · rw [batch]
    exact hs.laws.once d
  · rw [batch]
    exact hs.laws.idle d (idle d hd)

/-- A step begins under the laws; where it faults, nothing that they read has changed. -/
theorem beginStep_cleaningOk {s : State} {c : Circuit} (hs : CleaningOk s) :
    CleaningOk (beginStep c s).1 ∧ ((beginStep c s).2 ≠ none → Alike s (beginStep c s).1) := by
  obtain alike | ⟨hf, u, alike, marked | paused⟩ := beginStep_cases c s
  · exact ⟨cleaningOk_of_alike alike hs, fun _ => alike⟩
  · rw [marked]
    exact ⟨cleaningOk_markBatch c true (cleaningOk_of_alike alike hs), fun h => absurd hf h⟩
  · rw [paused]
    exact ⟨cleaningOk_of_alike (post_alike _ _ _) (cleaningOk_setCircuit (cleaningOk_of_alike alike hs) (by simp) rfl),
      fun h => absurd hf h⟩

/-- At most one line has a ready entry. -/
def OneReady (s : State) : Prop := ∀ e ∈ s.clean.queue, ∀ f ∈ s.clean.queue, e.ready = true → f.ready = true → e.line = f.line

/-- Circuit `c` is IDLE and may serve the queue: the laws and every lock, and at most one ready entry where the other is IDLE too. -/
structure Serveable (c : Circuit) (s : State) : Prop where
  laws : QueueOk s
  locks : ∀ n, LockOk s n
  idle : (s.circuit c).state = .idle
  one : ∀ d, d ≠ c → (s.circuit d).state = .idle → OneReady s

/-- Nothing joins the lines that wait. -/
def NoneJoins (s t : State) : Prop := ∀ n, Waiting t n → Waiting s n

theorem Alike.noneJoins {s t : State} (h : Alike s t) : NoneJoins s t := fun n hn => by
  simpa only [Waiting, h.queue, h.batch] using hn

theorem NoneJoins.trans {s t u : State} (h : NoneJoins s t) (k : NoneJoins t u) : NoneJoins s u := fun n hn => h n (k n hn)

theorem beginStep_noneJoins (c : Circuit) (s : State) : NoneJoins s (beginStep c s).1 := by
  obtain alike | ⟨-, u, alike, marked | paused⟩ := beginStep_cases c s
  · exact alike.noneJoins
  · rw [marked, markBatch]
    exact foldl_closed (P := NoneJoins s) (f := fun s n => s.modLine n fun l => { l with mark := true })
      (fun v n hv => hv.trans fun _ h => h) _ _ alike.noneJoins
  · rw [paused]
    have batch : ∀ d, ((pauseCircuit c .pauseStep u).circuit d).batch = (u.circuit d).batch := fun d => by
      rw [pauseCircuit, (post_alike _ _ _).batch, State.modCircuit_eq, circuit_setCircuit]
      split
      · rename_i h
        rw [h]
      · rfl
    refine alike.noneJoins.trans fun n hn => ?_
    simp only [Waiting, batch] at hn
    exact hn

theorem BatchTaken.noneJoins {c : Circuit} {s t : State} (h : BatchTaken c s t) : NoneJoins s t := by
  rintro n (hq | ⟨d, hd⟩)
  · exact .inl (List.map_subset _ h.queue hq)
  · by_cases hc : d = c
    · exact .inl (h.batch (hc ▸ hd))
    · exact .inr ⟨d, by rwa [show (t.circuit d).batch = (s.circuit d).batch from congrArg (·.2) (h.others d hc)] at hd⟩

theorem BatchEnded.noneJoins {c : Circuit} {s t : State} (h : BatchEnded c s t) : NoneJoins s t := by
  rintro n (hq | ⟨d, hd⟩)
  · exact .inl (h.queue ▸ hq)
  · by_cases hc : d = c
    · rw [hc, h.batch] at hd
      exact absurd hd (by simp)
    · exact .inr ⟨d, by rwa [show (t.circuit d).batch = (s.circuit d).batch from congrArg (·.2) (h.others d hc)] at hd⟩

/-- After a taking every law holds: the other circuit is not IDLE, or the one ready entry has been taken. -/
theorem BatchTaken.cleaningOk {c : Circuit} {s t : State} (h : BatchTaken c s t)
    (one : ∀ d, d ≠ c → (s.circuit d).state = .idle → OneReady s) : CleaningOk t := by
  refine ⟨h.laws, h.locks, fun d hd f hf => ?_⟩
  have hne : d ≠ c := by
    rintro rfl
    rw [h.running] at hd
    exact absurd hd (by simp)
  have idle : (s.circuit d).state = .idle := by
    rwa [show (t.circuit d).state = (s.circuit d).state from congrArg (·.1) (h.others d hne)] at hd
  obtain ⟨e, held, ready, gone⟩ := h.taken
  by_contra hr
  exact gone f hf (one d hne idle f (h.queue hf) e held (by simpa using hr) ready)

/-- After the end of a batch its circuit may serve the queue. -/
theorem BatchEnded.serveable {c : Circuit} {s t : State} (h : BatchEnded c s t)
    (taking : ∀ d, d ≠ c → (s.circuit d).state = .idle → NoneReady s) : Serveable c t where
  laws := h.laws
  locks := h.locks
  idle := h.idle
  one d hd hidle e he f _ hr _ := by
    rw [show (t.circuit d).state = (s.circuit d).state from congrArg (·.1) (h.others d hd)] at hidle
    have := taking d hd hidle e (h.queue ▸ he)
    simp [this] at hr

theorem serveQueue_cleaningOk (fuel : Nat) {c : Circuit} {s : State} (hs : Serveable c s) (hf : s.clean.queue.length < fuel) :
    CleaningOk (serveQueue fuel c s) ∧ NoneJoins s (serveQueue fuel c s) := by
  induction fuel generalizing s with
  | zero => exact absurd hf (Nat.not_lt_zero _)
  | succ k ih =>
    unfold serveQueue
    split
    · rename_i hnone
      exact ⟨⟨hs.laws, hs.locks, fun _ _ => takeBatch_eq_none hs.idle hnone⟩, fun _ h => h⟩
    · rename_i s1 hsome
      have taken := takeBatch_taken hs.laws hs.locks hsome
      obtain ⟨begun, fault⟩ := beginStep_cleaningOk (c := c) (taken.cleaningOk hs.one)
      have joins := beginStep_noneJoins c s1
      split
      · rename_i s2 hb
        rw [hb] at begun joins
        exact ⟨begun, taken.noneJoins.trans joins⟩
      · rename_i s2 f hb
        rw [hb] at begun fault
        have alike : Alike s1 s2 := fault (by simp)
        have ended := endBatch_ends c (.fault f) begun.laws (fun n _ => begun.locks n)
        obtain ⟨ok, rest⟩ := ih (ended.serveable fun d hd hidle => begun.taking d hidle)
          (by rw [ended.queue, alike.queue]; have := taken.shorter; omega)
        exact ⟨ok, taken.noneJoins.trans (alike.noneJoins.trans (ended.noneJoins.trans rest))⟩

theorem serve_cleaningOk {c : Circuit} {s : State} (hs : Serveable c s) : CleaningOk (serve c s) ∧ NoneJoins s (serve c s) :=
  serveQueue_cleaningOk _ hs (Nat.lt_succ_self _)

/-- A batch ends and its circuit takes the next: where every line outside the batch keeps its locks, all laws hold after it. -/
theorem finishBatch_cleaningOk {s : State} (c : Circuit) (e : BatchEnd) (hs : QueueOk s)
    (locks : ∀ n, n ∉ (s.circuit c).batch → LockOk s n) (taking : ∀ d, (s.circuit d).state = .idle → NoneReady s) :
    CleaningOk (finishBatch c e s) :=
  (serve_cleaningOk ((endBatch_ends c e hs locks).serveable fun d _ hd => taking d hd)).1

end Sys2Proof.Machine
end

section
/-! ### The drain condition, routes and requests under the laws of cleaning -/

namespace Sys2Proof.Machine

open Sys2Proof Sys2Proof.Safety

/-! #### The drain condition (R6) -/

/-- A DRAINING or QUEUED line becomes QUEUED with a ready entry, or DRAINING with one that is not. -/
def requeue (n : Nat) (on : Bool) (s : State) : State := setReady n on (moveLine n (if on then .queued else .draining) s)

/-- The drain condition is evaluated: nothing happens, or a drained line is queued and the free circuit serves, or a queued line drains
again. -/
theorem evalDrain_cases (n : Nat) (s : State) :
    (evalDrain n s = s ∧ ((s.line n).state = .queued → Locked s n))
      ∨ ((s.line n).state = .draining ∧ Locked s n ∧ evalDrain n s = serveReady (requeue n true s))
      ∨ ((s.line n).state = .queued ∧ evalDrain n s = requeue n false s) := by
  have locked : drainHolds s n = true → Locked s n := fun h => by
    simp only [drainHolds, Bool.and_eq_true] at h
    exact (tapsLocked_iff s n).mp h.2
  unfold evalDrain
  split
  · rename_i hst
    split
    · rename_i hd
      exact .inr (.inl ⟨hst, locked hd, rfl⟩)
    · exact .inl ⟨rfl, by simp [hst]⟩
  · rename_i hst
    split
    · rename_i hd
      exact .inl ⟨rfl, fun _ => locked hd⟩
    · exact .inr (.inr ⟨hst, rfl⟩)
  · rename_i hq
    exact .inl ⟨rfl, fun h => absurd h hq⟩

/-- What `requeue` does to a DRAINING or QUEUED line. -/
structure Requeued (n : Nat) (on : Bool) (s t : State) : Prop where
  state : (t.line n).state = if on then .queued else .draining
  others : ∀ m, m ≠ n → t.line m = s.line m
  pour : t.pour = s.pour
  circuits : ∀ c, t.circuit c = s.circuit c
  laws : QueueOk t
  lines : t.clean.queue.map (·.line) = s.clean.queue.map (·.line)
  ready : ∀ e ∈ t.clean.queue, e.ready = true → e.line = n ∧ on = true ∨ e.line ≠ n ∧ e ∈ s.clean.queue

theorem moveLine_facts {n : Nat} (hn : n < 48) (st : ServiceState) (s : State) :
    (moveLine n st s).pour = s.pour ∧ (moveLine n st s).clean = s.clean ∧ ∀ m, (moveLine n st s).line m
      = if n = m then { s.line n with state := st } else s.line m := by
  unfold moveLine
  split
  · rename_i h
    refine ⟨rfl, rfl, fun m => ?_⟩
    split
    · rename_i hm
      rw [← hm, ← h]
    · rfl
  · refine ⟨rfl, rfl, fun m => ?_⟩
    rw [State.line_congr (post_cellar ..), State.modLine_eq, State.line_setLine]
    simp [hn]

theorem requeue_requeued {s : State} {n : Nat} (on : Bool) (hs : QueueOk s)
    (hst : (s.line n).state = .draining ∨ (s.line n).state = .queued) : Requeued n on s (requeue n on s) := by
  have hn : n < 48 := lt_of_state (s := s) (by rcases hst with h | h <;> simp [h])
  obtain ⟨pour, clean, line⟩ := moveLine_facts hn (if on then .queued else .draining) s
  have lineOf : ∀ m, (requeue n on s).line m = if n = m then { s.line n with state := if on then .queued else .draining } else s.line m :=
    line
  have queue : (requeue n on s).clean.queue = s.clean.queue.map fun e => if e.line = n then { e with ready := on } else e := by
    simp only [requeue, setReady, clean]
  have circuits : ∀ c, (requeue n on s).circuit c = s.circuit c := fun c => by
    have : (requeue n on s).clean.circuits = s.clean.circuits := by simp only [requeue, setReady, clean]
    simp only [State.circuit, this]
  have lines : (requeue n on s).clean.queue.map (·.line) = s.clean.queue.map (·.line) := by
    rw [queue, List.map_map]
    refine List.map_congr_left fun e _ => ?_
    simp only [Function.comp]
    split <;> rfl
  have stateOf : ∀ m, ((requeue n on s).line m).state = if n = m then (if on then .queued else .draining) else (s.line m).state :=
    fun m => by
      rw [lineOf]
      split <;> rfl
  refine ⟨?_, fun m hm => ?_, pour, circuits, ?_, lines, fun e he hr => ?_⟩
  · rw [stateOf, if_pos rfl]
  · rw [lineOf, if_neg (Ne.symm hm)]
  · refine ⟨fun m => ?_, lines ▸ hs.nodup, fun m => ?_, fun e he => ?_, fun m => ?_, fun c d m => ?_, fun c => ?_, fun c => ?_⟩
    · rw [lineOf]
      split
      · obtain ⟨-, pre⟩ := hs.mark n
        refine ⟨?_, fun _ => pre hst⟩
        cases on <;> simp [markFits]
      · exact hs.mark m
    · rw [lines, hs.entry, stateOf]
      split
      · rename_i h
        subst h
        cases on <;> simp [hst]
      · rfl
    · rw [queue, List.mem_map] at he
      obtain ⟨x, hx, rfl⟩ := he
      by_cases h : x.line = n
      · rw [if_pos h, stateOf]
        simp only [h, if_true]
        cases on <;> simp
      · rw [if_neg h, stateOf, if_neg (Ne.symm h)]
        exact hs.ready x hx
    · simp only [circuits, ← hs.batch]
      rw [stateOf]
      split
      · rename_i h
        subst h
        refine iff_of_false (by cases on <;> simp) fun h => ?_
        rcases hst with e | e <;> simp [e] at h
      · rfl
    · simpa only [circuits] using hs.apart c d m
    · simpa only [circuits] using hs.once c
    · simpa only [circuits] using hs.idle c
  · rw [queue, List.mem_map] at he
    obtain ⟨x, hx, rfl⟩ := he
    by_cases h : x.line = n
    · rw [if_pos h] at hr ⊢
      exact .inl ⟨h, hr⟩
    · rw [if_neg h] at hr ⊢
      exact .inr ⟨h, hx⟩

theorem Requeued.lockOk_other {n m : Nat} {on : Bool} {s t : State} (h : Requeued n on s t) (hm : m ≠ n) (hs : LockOk s m) :
    LockOk t m := by
  intro hst i hi
  rw [h.others m hm] at hst
  rw [State.tap_congr h.pour] at hi ⊢
  exact hs hst i hi

theorem Requeued.lockOk_self {n : Nat} {on : Bool} {s t : State} (h : Requeued n on s t) (hs : on = true → Locked s n) :
    LockOk t n := by
  intro hst i hi
  rw [h.state] at hst
  have hon : on = true := by
    by_contra hoff
    simp [hoff] at hst
  rw [State.tap_congr h.pour] at hi ⊢
  exact hs hon i hi

theorem Requeued.noneJoins {n : Nat} {on : Bool} {s t : State} (h : Requeued n on s t) : NoneJoins s t := fun m hm => by
  simpa only [Waiting, h.lines, h.circuits] using hm

/-- No circuit is IDLE: the evaluation of a drain condition moves its own line at most, between DRAINING and QUEUED. -/
theorem evalDrain_busy {s : State} {n : Nat} (busy : ∀ c, (s.circuit c).state ≠ .idle) (hs : QueueOk s) :
    evalDrain n s = s ∨ ∃ on, Requeued n on s (evalDrain n s) ∧ (on = true → Locked s n) := by
  obtain ⟨same, -⟩ | ⟨hst, locked, eq⟩ | ⟨hst, eq⟩ := evalDrain_cases n s
  · exact .inl same
  · have again := requeue_requeued true hs (.inl hst)
    have none_free : freeCircuit (requeue n true s) = none := by
      simp [freeCircuit, again.circuits, busy]
    rw [eq, serveReady, none_free]
    exact .inr ⟨true, again, fun _ => locked⟩
  · rw [eq]
    exact .inr ⟨false, requeue_requeued false hs (.inr hst), by simp⟩

/-- The drain condition of line `n` is evaluated where every other line keeps its locks, and `n` too if it is CLEANING. -/
theorem evalDrain_cleaningOk {s : State} {n : Nat} (laws : QueueOk s) (locks : ∀ m, m ≠ n → LockOk s m)
    (taking : ∀ c, (s.circuit c).state = .idle → NoneReady s) (own : (s.line n).state = .cleaning → Locked s n) :
    CleaningOk (evalDrain n s) ∧ NoneJoins s (evalDrain n s) := by
  obtain ⟨same, queued⟩ | ⟨hst, locked, eq⟩ | ⟨hst, eq⟩ := evalDrain_cases n s
  · rw [same]
    refine ⟨⟨laws, fun m => ?_, taking⟩, fun _ h => h⟩
    by_cases hm : m = n
    · subst hm
      exact fun h => h.elim queued own
    · exact locks m hm
  · have again := requeue_requeued true laws (.inl hst)
    have all : ∀ m, LockOk (requeue n true s) m := fun m => by
      by_cases hm : m = n
      · subst hm
        exact again.lockOk_self fun _ => locked
      · exact again.lockOk_other hm (locks m hm)
    rw [eq]
    unfold serveReady
    have idle : ∀ c, ((requeue n true s).circuit c).state = .idle → OneReady (requeue n true s) := fun c hc e he f hf hre hrf => by
      rw [again.circuits] at hc
      have own : ∀ x ∈ (requeue n true s).clean.queue, x.ready = true → x.line = n := fun x hx hr => by
        rcases again.ready x hx hr with h | h
        · exact h.1
        · have := taking c hc x h.2
          simp [this] at hr
      rw [own e he hre, own f hf hrf]
    split
    · rename_i c hc
      have hidle : ((requeue n true s).circuit c).state = .idle := by
        unfold freeCircuit at hc
        repeat' split at hc
        all_goals simp_all
      obtain ⟨ok, joins⟩ := serve_cleaningOk (c := c) ⟨again.laws, all, hidle, fun d _ hd => idle d hd⟩
      exact ⟨ok, again.noneJoins.trans joins⟩
    · rename_i hc
      refine ⟨⟨again.laws, all, fun c hidle => ?_⟩, again.noneJoins⟩
      unfold freeCircuit at hc
      repeat' split at hc
      all_goals cases c <;> simp_all
  · have again := requeue_requeued false laws (.inr hst)
    rw [eq]
    refine ⟨⟨again.laws, fun m => ?_, fun c hc e he => ?_⟩, again.noneJoins⟩
    · by_cases hm : m = n
      · subst hm
        exact again.lockOk_self (by simp)
      · exact again.lockOk_other hm (locks m hm)
    · rw [again.circuits] at hc
      by_contra hr
      rcases again.ready e he (by simpa using hr) with h | h
      · simp at h
      · exact hr (taking c hc e h.2)

theorem evalDrain_keeps {s : State} (n : Nat) (hs : CleaningOk s) : CleaningOk (evalDrain n s) ∧ NoneJoins s (evalDrain n s) :=
  evalDrain_cleaningOk hs.laws (fun m _ => hs.locks m) hs.taking fun h => hs.locks n (.inr h)

/-! #### Routes (R35, R39 to R41) -/

theorem reportLineChange_keeps {s : State} (old new : Option Nat) (hs : CleaningOk s) :
    CleaningOk (reportLineChange old new s) ∧ NoneJoins s (reportLineChange old new s) := by
  unfold reportLineChange
  split
  · exact ⟨hs, fun _ h => h⟩
  · cases old <;> cases new <;> simp only []
    · exact ⟨hs, fun _ h => h⟩
    · exact evalDrain_keeps _ hs
    · exact evalDrain_keeps _ hs
    · rename_i o n _
      obtain ⟨first, joins⟩ := evalDrain_keeps o hs
      obtain ⟨second, joins'⟩ := evalDrain_keeps n first
      exact ⟨second, joins.trans joins'⟩

theorem queueOk_setTap {s : State} (t : Nat) (x : Tap) (hs : QueueOk s) : QueueOk (s.setTap t x) :=
  ⟨hs.mark, hs.nodup, hs.entry, hs.ready, hs.batch, hs.apart, hs.once, hs.idle⟩

/-- Tap `t` takes a route: a line to which it does not go keeps its locks, and so does the new one where the tap is locked. -/
theorem setTap_locked {s : State} {t : Nat} {x : Tap} {m : Nat} (hl : x.lockout = (s.tap t).lockout)
    (hm : x.route.line = some m → (s.tap t).lockout = true) (hs : Locked s m) : Locked (s.setTap t x) m := by
  intro i hi
  rw [State.tap_setTap] at hi ⊢
  split
  · rename_i h
    rw [if_pos h] at hi
    rw [hl]
    exact hm hi
  · rename_i h
    rw [if_neg h] at hi
    exact hs i hi

/-- A tap takes a route whose line is not waiting, or with its lockout on. -/
theorem copyRoute_keeps {s : State} {t : Nat} {r : Route} (hs : CleaningOk s)
    (hr : ∀ n, r.line = some n → (s.tap t).lockout = true ∨ ¬ (s.line n).state.waits) :
    CleaningOk (copyRoute t r s) ∧ NoneJoins s (copyRoute t r s) := by
  refine reportLineChange_keeps _ _ ⟨queueOk_setTap t _ hs.laws, fun m hst => setTap_locked rfl (fun hm => ?_) (hs.locks m hst), hs.taking⟩
  rcases hr m hm with h | h
  · exact h
  · refine absurd ?_ h
    rcases hst with e | e
    · exact .inr (.inl e)
    · exact .inr (.inr e)

/-- A tap takes a route whose line is not CLEANING, or with its lockout on: a QUEUED line is DRAINING again after it. -/
theorem copyRoute_cleaningOk {s : State} {t : Nat} {r : Route} (hs : CleaningOk s)
    (hr : ∀ n, r.line = some n → (s.tap t).lockout = true ∨ (s.line n).state ≠ .cleaning) : CleaningOk (copyRoute t r s) := by
  by_cases safe : ∀ n, r.line = some n → (s.tap t).lockout = true ∨ ¬ (s.line n).state.waits
  · exact (copyRoute_keeps hs safe).1
  · push Not at safe
    obtain ⟨n, hn, off, hw⟩ := safe
    have notCleaning := (hr n hn).resolve_left off
    set u := s.modTap t fun x => { x with route := r } with hu
    have laws : QueueOk u := queueOk_setTap t _ hs.laws
    have taking : ∀ c, (u.circuit c).state = .idle → NoneReady u := hs.taking
    have locks : ∀ m, m ≠ n → LockOk u m := fun m hm hst =>
      setTap_locked rfl (fun h => absurd (Option.some.inj (h.symm.trans hn)) hm) (hs.locks m hst)
    by_cases hq : (s.line n).state = .queued
    · have own : (u.line n).state = .cleaning → Locked u n := fun h => absurd h notCleaning
      have moved : (s.tap t).route.line ≠ some n := fun h => off (hs.locks n (.inl hq) t h)
      cases hold : (s.tap t).route.line with
      | none =>
        have changes : copyRoute t r s = evalDrain n u := by
          rw [copyRoute, hn]
          unfold reportLineChange
          rw [if_neg moved, hold]
        rw [changes]
        exact (evalDrain_cleaningOk laws locks taking own).1
      | some o =>
        have hon : o ≠ n := fun h => moved (h ▸ hold)
        have busy : ∀ c, (u.circuit c).state ≠ .idle := fun c hc => by
          obtain ⟨e, he, hline⟩ := List.mem_map.mp ((hs.laws.entry n).mpr (.inr hq))
          have hr := (hs.laws.ready e he).mpr (hline ▸ hq)
          rw [hs.taking c hc e he] at hr
          exact absurd hr (by simp)
        have changes : copyRoute t r s = evalDrain n (evalDrain o u) := by
          rw [copyRoute, hn]
          unfold reportLineChange
          rw [if_neg moved, hold]
        rw [changes]
        obtain same | ⟨on, again, locked⟩ := evalDrain_busy (n := o) busy laws
        · rw [same]
          exact (evalDrain_cleaningOk laws locks taking own).1
        · refine (evalDrain_cleaningOk again.laws (fun m hm => ?_) (fun c hc => absurd (again.circuits c ▸ hc) (busy c))
            fun h => ?_).1
          · by_cases hmo : m = o
            · rw [hmo]
              exact again.lockOk_self locked
            · exact again.lockOk_other hmo (locks m hm)
          · rw [again.others n (Ne.symm hon)] at h
            exact absurd h notCleaning
    · have whole : CleaningOk u := ⟨laws, fun m => by
        by_cases hm : m = n
        · subst hm
          exact fun h => h.elim (fun h => absurd h hq) (fun h => absurd h notCleaning)
        · exact locks m hm, taking⟩
      exact (reportLineChange_keeps _ _ whole).1

/-- A deferred route is applied, or withheld because its line is CLEANING and the tap is not locked (R40, R41). -/
theorem applyDeferred_cleaningOk {s : State} (t : Nat) (hs : CleaningOk s) : CleaningOk (applyDeferred t s) := by
  have same : ∀ b w, CleaningOk (s.modTap t fun x => { x with deferred := b, withheld := w }) :=
    fun b w => cleaningOk_of_same (setTap_sameService rfl) hs
  have same' : CleaningOk (s.modTap t fun x => { x with deferred := false }) := cleaningOk_of_same (setTap_sameService rfl) hs
  unfold applyDeferred
  refine ite_closed hs ?_
  simp only []
  split
  · exact copyRoute_cleaningOk (same false true) (by simp [Route.dark])
  · rename_i hw
    refine copyRoute_cleaningOk same' fun n hn => ?_
    simp only [withholds, hn, Bool.and_eq_true, decide_eq_true_eq, Bool.not_eq_true', not_and_or, Bool.not_eq_false] at hw
    rcases hw with h | h
    · exact .inr h
    · refine .inl ?_
      have := setTap_sameService (s := s) (i := t) (r := { s.tap t with deferred := false }) rfl
      exact (this.lockout t).trans h

/-! #### Map entries and lockouts stand -/

/-- `t` has the maps and the lockouts of `s`. -/
structure SameEntries (s t : State) : Prop where
  entry : ∀ i, t.activeEntry i = s.activeEntry i
  lockout : ∀ i, (t.tap i).lockout = (s.tap i).lockout

theorem SameEntries.refl (s : State) : SameEntries s s := ⟨fun _ => rfl, fun _ => rfl⟩

theorem SameEntries.trans {s t u : State} (h : SameEntries s t) (k : SameEntries t u) : SameEntries s u :=
  ⟨fun i => (k.entry i).trans (h.entry i), fun i => (k.lockout i).trans (h.lockout i)⟩

theorem sameEntries_of_pour {s t : State} (h : t.pour = s.pour) : SameEntries s t :=
  ⟨fun i => by simp only [State.activeEntry, h], fun i => by rw [State.tap_congr h]⟩

theorem setTap_sameEntries {s : State} {i : Nat} {x : Tap} (h : x.lockout = (s.tap i).lockout) : SameEntries s (s.setTap i x) where
  entry _ := rfl
  lockout j := by
    rw [State.tap_setTap]
    split
    · rename_i hj
      rw [h, hj.1]
    · rfl

theorem SameEntries.cleaning (s : State) : CleaningClosed (SameEntries s) where
  line _ _ _ _ _ _ _ _ _ hs := hs.trans (sameEntries_of_pour rfl)
  route _ _ _ hs := hs.trans (setTap_sameEntries rfl)
  queue _ _ hs := hs.trans (sameEntries_of_pour rfl)
  circuit _ _ _ hs := hs.trans (sameEntries_of_pour rfl)
  post _ _ _ hs := hs.trans (sameEntries_of_pour rfl)
  record _ b hs := hs.trans (sameEntries_of_pour (takeRecord_pour _ b))

theorem reportLineChange_sameEntries (old new : Option Nat) (s : State) : SameEntries s (reportLineChange old new s) := by
  refine ite_closed (.refl s) ?_
  have eval : ∀ n u, SameEntries u (evalDrain n u) := fun n u => evalDrain_closed (SameEntries.cleaning u) n u (.refl u)
  cases old <;> cases new <;> simp only []
  · exact .refl s
  · exact eval _ s
  · exact eval _ s
  · exact (eval _ s).trans (eval _ _)

theorem copyRoute_sameEntries (t : Nat) (r : Route) (s : State) : SameEntries s (copyRoute t r s) :=
  SameEntries.trans (setTap_sameEntries (by rfl)) (reportLineChange_sameEntries _ _ _)

/-! #### The map swap (R38, R39) -/

/-- No entry of the incoming map puts an unlocked tap on a line that waits. -/
theorem safe_of_failingTap {s : State} (h : failingTap s = none) {t n : Nat} (ht : t < 128)
    (hn : (mapEntry (s.pour.map s.pour.active.other) t).line = some n) : (s.tap t).lockout = true ∨ ¬ (s.line n).state.waits := by
  have fails : entryFails s t = false := by
    unfold failingTap at h
    split at h
    · exact absurd h (by simp)
    · rename_i hf
      simpa using List.find?_eq_none.mp hf t (List.mem_range.mpr ht)
  simp only [entryFails, hn, unsafeLine] at fails
  by_cases hl : (s.tap t).lockout = true
  · exact .inl hl
  · refine .inr fun hw => ?_
    rcases hw with h | h | h <;> simp [h, hl] at fails

theorem swapMaps_cleaningOk {s : State} (safe : failingTap s = none) (hs : CleaningOk s) : CleaningOk (swapMaps s) := by
  set x : State := { s with pour := { s.pour with active := s.pour.active.other } } with hx
  have start : CleaningOk x := ⟨⟨hs.laws.mark, hs.laws.nodup, hs.laws.entry, hs.laws.ready, hs.laws.batch, hs.laws.apart, hs.laws.once,
    hs.laws.idle⟩, hs.locks, hs.taking⟩
  have swapped : CleaningOk (swapMaps s) ∧ NoneJoins x (swapMaps s) ∧ SameEntries x (swapMaps s) := by
    refine List.foldlRecOn (List.range 128) _ (motive := fun u => CleaningOk u ∧ NoneJoins x u ∧ SameEntries x u)
      ⟨start, fun _ h => h, .refl x⟩ fun u hu t ht => ?_
    obtain ⟨ok, joins, entries⟩ := hu
    have same : SameService u (u.modTap t fun r => { r with withheld := false }) := setTap_sameService rfl
    have kept : SameEntries u (u.modTap t fun r => { r with withheld := false }) := setTap_sameEntries rfl
    unfold swapTap
    split
    · obtain ⟨copied, joins'⟩ := copyRoute_keeps (t := t) (r := u.activeEntry t) (cleaningOk_of_same same ok) fun n hn => by
        rw [same.lockout, same.state, entries.lockout]
        rw [entries.entry] at hn
        refine (safe_of_failingTap safe (List.mem_range.mp ht) hn).imp id fun h hw => h ?_
        exact (hs.laws.waits_iff n).mpr (joins n ((ok.laws.waits_iff n).mp hw))
      exact ⟨copied, joins.trans joins', (entries.trans kept).trans (copyRoute_sameEntries t _ _)⟩
    · exact ⟨cleaningOk_of_same (setTap_sameService rfl) ok, joins, entries.trans (setTap_sameEntries rfl)⟩
  exact swapped.1

/-! #### Lockouts (R33, R168) -/

theorem queueOk_inBatch {s : State} {c : Circuit} {n : Nat} (hs : QueueOk s) : inBatch s c n = true ↔ n ∈ (s.circuit c).batch := by
  simp only [inBatch, Bool.and_eq_true, decide_eq_true_eq, List.contains_eq_mem]
  refine ⟨fun h => h.2, fun h => ⟨fun hi => ?_, h⟩⟩
  rw [hs.idle c hi] at h
  exact absurd h (by simp)

/-- A lockout released on a line ends the batch that holds it; every other line keeps its locks. -/
theorem lockoutFault_cleaningOk {s : State} {n : Nat} (laws : QueueOk s) (locks : ∀ m, m ≠ n → LockOk s m)
    (taking : ∀ c, (s.circuit c).state = .idle → NoneReady s) (hst : (s.line n).state = .cleaning) :
    CleaningOk (lockoutFault n s) := by
  have outside : ∀ c, n ∈ (s.circuit c).batch → ∀ m, m ∉ (s.circuit c).batch → LockOk s m :=
    fun c hn m hm => locks m fun h => hm (h ▸ hn)
  unfold lockoutFault
  split
  · rename_i ha
    exact finishBatch_cleaningOk .a _ laws (outside .a ((queueOk_inBatch laws).mp ha)) taking
  · rename_i ha
    have hb : n ∈ (s.circuit .b).batch := by
      obtain ⟨c, hc⟩ := (laws.batch n).mp hst
      cases c
      · exact absurd ((queueOk_inBatch laws).mpr hc) ha
      · exact hc
    rw [if_pos ((queueOk_inBatch laws).mpr hb)]
    exact finishBatch_cleaningOk .b _ laws (outside .b hb) taking

theorem finishBatch_keeps {s : State} (c : Circuit) (e : BatchEnd) (hs : CleaningOk s) : CleaningOk (finishBatch c e s) :=
  finishBatch_cleaningOk c e hs.laws (fun n _ => hs.locks n) hs.taking

theorem lockoutFault_keeps {s : State} (n : Nat) (hs : CleaningOk s) : CleaningOk (lockoutFault n s) :=
  ite_closed (finishBatch_keeps _ _ hs) (ite_closed (finishBatch_keeps _ _ hs) hs)

theorem reportLockout_cleaningOk {s : State} (t : Nat) (on : Bool) (hs : CleaningOk s) : CleaningOk (reportLockout t on s) := by
  unfold reportLockout
  refine ite_closed hs ?_
  simp only []
  set u := s.modTap t fun r => { r with lockout := on } with hu
  have laws : QueueOk u := queueOk_setTap t _ hs.laws
  have tap : ∀ i, u.tap i = if t = i ∧ t < 128 then { s.tap t with lockout := on } else s.tap i := fun i => by
    rw [hu, State.modTap_eq, State.tap_setTap]
  cases on with
  | true =>
    have locked : ∀ m, Locked s m → Locked u m := fun m hm i hi => by
      rw [tap] at hi ⊢
      split
      · rfl
      · rename_i h
        rw [if_neg h] at hi
        exact hm i hi
    have reported : CleaningOk u := ⟨laws, fun m hst => locked m (hs.locks m hst), hs.taking⟩
    simp only [if_true, Bool.true_and]
    have resolved : ∀ v, CleaningOk v → SameEntries u v → CleaningOk (if (v.tap t).withheld then resolveRoute t v else v) := by
      intro v ok entries
      split
      · rename_i hw
        have ht : t < 128 := by
          by_contra hge
          rw [State.tap_of_ge (Nat.not_lt.mp hge)] at hw
          exact absurd hw (by simp [coldTap])
        have same : SameService v (v.modTap t fun x => { x with withheld := false }) := setTap_sameService rfl
        refine (copyRoute_keeps (cleaningOk_of_same same ok) fun n _ => .inl ?_).1
        rw [same.lockout, entries.lockout, tap, if_pos ⟨rfl, ht⟩]
      · exact ok
    cases (s.tap t).route.line with
    | none => exact resolved u reported (.refl u)
    | some n => exact resolved _ (evalDrain_keeps n reported).1 (evalDrain_closed (SameEntries.cleaning u) n u (.refl u))
  | false =>
    simp only [Bool.false_and, Bool.false_eq_true, if_false]
    have off : ∀ m, (s.tap t).route.line ≠ some m → LockOk u m := fun m hm hst i hi => by
      rw [tap] at hi ⊢
      split
      · rename_i h
        rw [if_pos h] at hi
        exact absurd hi hm
      · rename_i h
        rw [if_neg h] at hi
        exact hs.locks m hst i hi
    cases hroute : (s.tap t).route.line with
    | none => exact ⟨laws, fun m => off m (by simp [hroute]), hs.taking⟩
    | some n =>
      have others : ∀ m, m ≠ n → LockOk u m := fun m hm => off m (by simp [hroute, Ne.symm hm])
      simp only []
      by_cases hst : (u.line n).state = .cleaning
      · have stands : evalDrain n u = u := by
          unfold evalDrain
          rw [hst]
        rw [stands]
        exact lockoutFault_cleaningOk laws others hs.taking hst
      · exact lockoutFault_keeps n (evalDrain_cleaningOk laws others hs.taking fun h => absurd h hst).1

end Sys2Proof.Machine
end

section
/-! ### Every step keeps the laws of cleaning -/

namespace Sys2Proof.Machine

open Sys2Proof Sys2Proof.Safety

/-! #### CLEAN REQUEST and CLEAN WITHDRAW (R152, R154) -/

/-- A line that CLEAN REQUEST accepts is in a pre-drain state, within the part, without an entry. -/
theorem preDrain_of_cleanRefusal {s : State} {n p : Nat} (hs : QueueOk s) (h : cleanRefusal s n p = none) :
    n < 48 ∧ n ∉ s.clean.queue.map (·.line) ∧ isPreDrain (s.line n).state := by
  unfold cleanRefusal at h
  split at h
  · exact absurd h (by simp)
  · rename_i hr
    split at h
    · exact absurd h (by simp)
    · rename_i ho
      split at h
      · exact absurd h (by simp)
      · rename_i hq
        simp only [Bool.or_eq_true, decide_eq_true_eq, not_or, not_lt] at hr hq
        have noEntry : n ∉ s.clean.queue.map (·.line) := fun hm => by
          obtain ⟨e, he, hline⟩ := List.mem_map.mp hm
          exact hq.1 (List.any_eq_true.mpr ⟨e, he, by simpa using hline⟩)
        have notWaiting := fun h => noEntry ((hs.entry n).mpr h)
        refine ⟨by omega, noEntry, ?_⟩
        cases hst : (s.line n).state <;> simp_all [isPreDrain]

/-- A line in a pre-drain state joins the queue, DRAINING, with that state recorded. -/
theorem cleaningOk_joins {s u : State} {n p : Nat} (hs : CleaningOk s) (noEntry : n ∉ s.clean.queue.map (·.line))
    (pre : isPreDrain (s.line n).state)
    (line : ∀ m, u.line m = if n = m then { s.line n with preDrain := some (s.line n).state, state := .draining } else s.line m)
    (queue : u.clean.queue = s.clean.queue ++ [{ line := n, program := p, ready := false }])
    (circuit : ∀ c, u.circuit c = s.circuit c) (tap : ∀ i, u.tap i = s.tap i) : CleaningOk u := by
  have state : ∀ m, (u.line m).state = if n = m then .draining else (s.line m).state := fun m => by
    rw [line]
    split <;> rfl
  refine ⟨⟨fun m => ?_, ?_, fun m => ?_, fun e he => ?_, fun m => ?_, fun c d m => ?_, fun c => ?_, fun c => ?_⟩,
    fun m hst i hi => ?_, fun c hc e he => ?_⟩
  · rw [line]
    split
    · refine ⟨by simp [markFits], fun _ => ⟨_, rfl, pre, (hs.laws.mark n).1⟩⟩
    · exact hs.laws.mark m
  · rw [queue, List.map_append]
    refine List.nodup_append'.mpr ⟨hs.laws.nodup, by simp, ?_⟩
    simpa using noEntry
  · rw [queue, List.map_append, List.mem_append, hs.laws.entry, state]
    by_cases h : n = m
    · simp [h]
    · simp [h, Ne.symm h]
  · rw [queue, List.mem_append] at he
    rcases he with he | he
    · have hne : n ≠ e.line := fun h => noEntry (h ▸ List.mem_map_of_mem he)
      rw [state, if_neg hne]
      exact hs.laws.ready e he
    · rw [List.mem_singleton.mp he, state, if_pos rfl]
      simp
  · simp only [circuit]
    rw [← hs.laws.batch, state]
    split
    · rename_i h
      refine iff_of_false (by simp) fun hc => ?_
      rw [h, hc] at pre
      simp [isPreDrain] at pre
    · rfl
  · simpa only [circuit] using hs.laws.apart c d m
  · simpa only [circuit] using hs.laws.once c
  · simpa only [circuit] using hs.laws.idle c
  · rw [tap] at hi ⊢
    rw [state] at hst
    split at hst
    · simp at hst
    · exact hs.locks m hst i hi
  · rw [circuit] at hc
    rw [queue, List.mem_append] at he
    rcases he with he | he
    · exact hs.taking c hc e he
    · rw [List.mem_singleton.mp he]

theorem queueLine_cleaningOk {s : State} {n p : Nat} (h : cleanRefusal s n p = none) (hs : CleaningOk s) :
    CleaningOk (queueLine n p s) := by
  obtain ⟨hn, noEntry, pre⟩ := preDrain_of_cleanRefusal hs.laws h
  set x := ({ s with clean := { s.clean with queue := s.clean.queue ++ [{ line := n, program := p, ready := false }] } } : State).modLine
    n fun l => { l with preDrain := some l.state } with hx
  obtain ⟨pour, clean, line⟩ := moveLine_facts hn .draining x
  have joined : CleaningOk (moveLine n .draining x) := by
    refine cleaningOk_joins hs noEntry pre (fun m => ?_) (congrArg (·.queue) clean) (fun c => ?_) fun i => State.tap_congr pour i
    · rw [line, hx, State.modLine_eq, State.line_setLine, State.line_setLine]
      by_cases h : n = m
      · subst h
        simp only [hn, and_self, if_true]
        rfl
      · simp only [h, false_and, if_false]
        rfl
    · rw [State.circuit_congr clean]
      rfl
  exact (evalDrain_keeps n joined).1

/-- A state that a returned line takes: with the mark of before it keeps the law of the mark. -/
theorem returned_fits {l : Line} (h : LineMarkLaw l) (hst : l.state = .draining ∨ l.state = .queued) :
    LineMarkLaw { l with state := returnedState l } ∧ ¬ (returnedState l).waits := by
  obtain ⟨st, hp, pre, marked, clear⟩ := h.2 hst
  have dry : returnedState l = .foul ∧ st = .foul ∨ (returnedState l).clear ∧ st.clear := by
    rcases pre with rfl | rfl | rfl | rfl | rfl <;> simp only [returnedState, hp, ServiceState.clear] <;> try simp
    all_goals
      by_cases hc : l.chain = [] <;> simp [hc]
  rcases dry with ⟨hr, hf⟩ | ⟨hr, hc⟩
  · exact ⟨lineMarkLaw_of_marked (marked (.inr hf)) (.inr hr), by simp [hr, ServiceState.waits]⟩
  · exact ⟨lineMarkLaw_of_clear (clear hc) hr, not_waits_of_clear hr⟩

theorem withdrawLine_cleaningOk {s : State} {n : Nat} (hn : n < 48) (hq : isQueued s n = true) (hs : CleaningOk s) :
    CleaningOk (withdrawLine n s) := by
  have entry : n ∈ s.clean.queue.map (·.line) := by
    obtain ⟨e, he, hline⟩ := List.any_eq_true.mp hq
    exact List.mem_map.mpr ⟨e, he, by simpa using hline⟩
  have hst := (hs.laws.entry n).mp entry
  obtain ⟨fits, free⟩ := returned_fits (hs.laws.mark n) hst
  obtain ⟨pour, clean, line⟩ := moveLine_facts hn (returnedState (s.line n))
    { s with clean := { s.clean with queue := s.clean.queue.filter fun e => e.line ≠ n } }
  rw [withdrawLine]
  generalize moveLine n (returnedState (s.line n))
    { s with clean := { s.clean with queue := s.clean.queue.filter fun e => e.line ≠ n } } = u at pour clean line
  have queue : u.clean.queue = s.clean.queue.filter fun e => e.line ≠ n := congrArg (·.queue) clean
  have circuit : ∀ c, u.circuit c = s.circuit c := fun c => by
    have := congrArg (·.circuits) clean
    simp only [State.circuit, this]
  have tap : ∀ i, u.tap i = s.tap i := fun i => State.tap_congr pour i
  have lineOf : ∀ m, u.line m = if n = m then { s.line n with state := returnedState (s.line n) } else s.line m := line
  have state : ∀ m, (u.line m).state = if n = m then returnedState (s.line n) else (s.line m).state := fun m => by
    rw [lineOf]
    split <;> rfl
  have waits : ∀ st, st.waits → returnedState (s.line n) ≠ st := fun st h e => free (e ▸ h)
  have draining := waits .draining (.inl rfl)
  have queued := waits .queued (.inr (.inl rfl))
  have cleaning := waits .cleaning (.inr (.inr rfl))
  refine ⟨⟨fun m => ?_, queue ▸ hs.laws.nodup.sublist (List.filter_sublist.map _), fun m => ?_, fun e he => ?_, fun m => ?_,
    fun c d m => ?_, fun c => ?_, fun c => ?_⟩, fun m hm i hi => ?_, fun c hc e he => ?_⟩
  · rw [lineOf]
    split
    · exact fits
    · exact hs.laws.mark m
  · have kept : m ∈ u.clean.queue.map (·.line) ↔ m ≠ n ∧ m ∈ s.clean.queue.map (·.line) := by
      rw [queue]
      simp only [List.mem_map, List.mem_filter, decide_eq_true_eq]
      constructor
      · rintro ⟨e, ⟨he, hne⟩, rfl⟩
        exact ⟨hne, e, he, rfl⟩
      · rintro ⟨hne, e, he, rfl⟩
        exact ⟨e, ⟨he, hne⟩, rfl⟩
    rw [kept, hs.laws.entry, state]
    by_cases h : n = m
    · subst h
      simp [draining, queued]
    · simp [h, Ne.symm h]
  · rw [queue, List.mem_filter] at he
    have hne : n ≠ e.line := Ne.symm (by simpa using he.2)
    rw [state, if_neg hne]
    exact hs.laws.ready e he.1
  · simp only [circuit]
    rw [← hs.laws.batch, state]
    split
    · rename_i h
      subst h
      exact iff_of_false cleaning fun h => by rcases hst with e | e <;> simp [e] at h
    · rfl
  · simpa only [circuit] using hs.laws.apart c d m
  · simpa only [circuit] using hs.laws.once c
  · simpa only [circuit] using hs.laws.idle c
  · rw [tap] at hi ⊢
    rw [state] at hm
    split at hm
    · exact absurd hm (by simp [queued, cleaning])
    · exact hs.locks m hm i hi
  · rw [circuit] at hc
    rw [queue, List.mem_filter] at he
    exact hs.taking c hc e he.1

/-! #### Starts -/

/-- A part without a line that waits, without a queue and with both circuits IDLE keeps the laws. -/
theorem cleaningOk_of_started {s : State} (free : ∀ n, ¬ (s.line n).state.waits) (mark : ∀ n, LineMarkLaw (s.line n))
    (queue : s.clean.queue = []) (batch : ∀ c, (s.circuit c).batch = []) : CleaningOk s := by
  have not : ∀ n st, st.waits → (s.line n).state ≠ st := fun n st h e => free n (e ▸ h)
  refine ⟨⟨mark, by simp [queue], fun n => ?_, by simp [queue], fun n => ?_, by simp [batch], by simp [batch], by simp [batch]⟩,
    fun n hst => ?_, fun _ _ => by simp [NoneReady, queue]⟩
  · simp [queue, not n .draining (.inl rfl), not n .queued (.inr (.inl rfl))]
  · simp [batch, not n .cleaning (.inr (.inr rfl))]
  · exact absurd hst (by simp [not n .cleaning (.inr (.inr rfl)), not n .queued (.inr (.inl rfl))])

theorem restartLine_fits {l : Line} (h : LineMarkLaw l) : LineMarkLaw (restartLine l) ∧ ¬ (restartLine l).state.waits := by
  have returns : ∀ (hst : l.state = .draining ∨ l.state = .queued), restartState l = returnedState l →
      LineMarkLaw (restartLine l) ∧ ¬ (restartLine l).state.waits := fun hst hr => by
    obtain ⟨fits, free⟩ := returned_fits h hst
    refine ⟨lineMarkLaw_congr (l := { l with state := returnedState l }) hr rfl rfl fits, ?_⟩
    rw [restartLine, hr]
    exact free
  have stands : restartState l = l.state → ¬ l.state.waits → LineMarkLaw (restartLine l) ∧ ¬ (restartLine l).state.waits :=
    fun hr hw => ⟨lineMarkLaw_congr hr rfl rfl h, by rwa [restartLine, hr]⟩
  cases hst : l.state with
  | draining => exact returns (.inl hst) (by simp [restartState, hst])
  | queued => exact returns (.inr hst) (by simp [restartState, hst])
  | cleaning =>
    have left : (restartLine l).state = leftState l.mark := by simp [restartLine, restartState, hst, leftState]
    exact ⟨leftState_fits rfl left, left ▸ leftState_not_waits _⟩
  | _ => exact stands (by simp [restartState, hst]) (by simp [hst, ServiceState.waits])

theorem cleaningOk_restart {s : State} (straps : Straps) (hs : CleaningOk s) : CleaningOk (restart straps s) :=
  cleaningOk_of_started (fun n => restart_line s straps n ▸ (restartLine_fits (hs.laws.mark n)).2)
    (fun n => restart_line s straps n ▸ (restartLine_fits (hs.laws.mark n)).1) rfl (fun c => by cases c <;> rfl)

theorem cleaningOk_coldStart (cause : StartCause) (straps : Straps) (s : State) : CleaningOk (coldStart cause straps s) :=
  cleaningOk_of_started (fun n => by simp [coldStart_line, coldLine, ServiceState.waits])
    (fun n => coldStart_line cause straps s n ▸ coldLine_markLaw) rfl (fun c => by cases c <;> rfl)

/-! #### O60 -/

/-- The laws of cleaning are kept by everything a step can do. -/
theorem cleaningOk_stepLaw : StepLaw CleaningOk where
  alike _ _ := cleaningOk_of_alike
  move s n st hb ha hs := cleaningOk_moveLine hs (not_waits_of_clear hb) (not_waits_of_clear ha)
    (lineMarkLaw_of_clear (mark_of_clear (l := s.line n) (hs.laws.mark n) hb) ha)
  leaveOffline _ _ := cleaningOk_leaveOffline
  clear s n hc hs := cleaningOk_setLine hs
    (by rintro (h | h | h) <;> simp [h, ServiceState.clearable] at hc) (by simp [Line.cleared, ServiceState.waits])
    (lineMarkLaw_of_marked rfl (.inl rfl))
  append _ _ _ _ _ _ := cleaningOk_of_same (setLine_sameService rfl)
  shrink _ _ _ _ := cleaningOk_of_same (setLine_sameService rfl)
  grant s t n z _ _ := cleaningOk_of_same <| (setTap_sameService (by rfl)).trans
    ((setLine_sameService (by rfl)).trans (queueItem_alike _ t _).sameService)
  pourEnds t r x y u _ hx hy hu := by
    have left : SameService x (pourLeft r.line x) := setLine_sameService rfl
    have drained := (evalDrain_keeps r.line (cleaningOk_of_same (left.trans hy.sameService) hx)).1
    have idle := hu.sameService.trans ((dropStop_alike u t r.token).sameService.trans
      (setTap_sameService (by rfl) : SameService _ ((dropStop t r.token u).modTap t fun r => { r with pour := none })))
    exact applyDeferred_cleaningOk t (cleaningOk_of_same idle drained)
  lockout _ t on := reportLockout_cleaningOk t on
  swap _ := swapMaps_cleaningOk
  queueLine _ _ _ := queueLine_cleaningOk
  withdrawLine _ _ := withdrawLine_cleaningOk
  finish _ c e _ := finishBatch_keeps c e
  markBatch _ c on := cleaningOk_markBatch c on
  circuit _ _ _ _ hr hb hs := cleaningOk_setCircuit hs hr hb
  restart _ straps := cleaningOk_restart straps
  coldStart s cause straps _ := cleaningOk_coldStart cause straps s

/-- Settles O60: the laws of cleaning have every part of a step law. -/
theorem stepKeepsCleaning : Obligations.StepKeepsCleaning := fun s t laws locks taking ht =>
  (cleaningOk_iff t).mp (cleaningOk_stepLaw.step ht ((cleaningOk_iff s).mpr ⟨laws, locks, taking⟩))

end Sys2Proof.Machine
end

section
/-! ### Reads, refusals and the product table (O15, O51) -/

namespace Sys2Proof.Machine

open Sys2Proof Sys2Proof.Safety

/-! #### A command that spells a request -/

/-- A command whose request its owner refuses. -/
theorem exec_refused {s : State} (h : Ready s) {i : Instr} {k : RequestKind} {tag : Byte} {f : State → Decision} {st : Status}
    (hx : exec i s = .next (request k tag f s)) (hf : f (hunting s) = refuse st (hunting s)) (hb : st ≠ .busy := by decide) :
    exec i s = .next (refused k tag st (hunting s)) := by
  rw [hx, request_refused h k tag f st hb hf]

/-- A command whose request its owner accepts with an effect that leaves the window. -/
theorem exec_accepted {s : State} (h : Ready s) {i : Instr} {k : RequestKind} {tag : Byte} {f : State → Decision} {body : ReplyBody}
    {e : State} (hx : exec i s = .next (request k tag f s)) (hf : f (hunting s) = acceptWith body e)
    (hw : e.acct.window = s.acct.window) : exec i s = .next (replied k tag .ok body e) := by
  rw [hx, request_accepted h k tag f body e hf hw]

/-! #### Numbers that name nothing (O51) -/

/-- Settles O51: each owner looks at the number first. -/
theorem outOfRange : Obligations.OutOfRange := by
  intro tag n s h
  refine ⟨fun hn => ?_, fun hn => ?_, fun hn => ?_⟩
  · exact ⟨exec_refused h rfl (if_pos hn), exec_refused h rfl (if_pos hn), exec_refused h rfl (if_pos hn),
      fun _ => exec_refused h rfl (if_pos hn), fun _ => exec_refused h rfl (if_pos hn), fun _ => exec_refused h rfl (if_pos hn),
      exec_refused h rfl (if_pos hn), exec_refused h rfl (if_pos hn)⟩
  · exact exec_refused h rfl (if_pos hn)
  · exact exec_refused h rfl (if_pos hn)

/-! #### The product table (R1) -/

theorem productEntry_eq_none_iff (s : State) (code : Nat) :
    productEntry s code = none ↔ ∀ p ∈ s.cellar.products, p.code ≠ code := by
  simp [productEntry, List.find?_eq_none]

theorem registered_iff (s : State) (code : Nat) : registered s code = true ↔ ∃ p ∈ s.cellar.products, p.code = code := by
  simp [registered, productEntry, List.find?_isSome]

theorem line_getElem {s : State} {n : Nat} (h : n < 48) : s.cellar.lines[n] = s.line n := by simp [State.line, h]

theorem productNamed_iff (s : State) (code : Nat) : productNamed s code = true ↔
    ∃ n, n < 48 ∧ ((s.line n).config.product = code ∨ ∃ k ∈ (s.line n).chain, k.product = code) := by
  simp only [productNamed, Vector.any_eq_true, Bool.or_eq_true, decide_eq_true_eq, List.any_eq_true]
  constructor
  · rintro ⟨n, hn, h⟩
    exact ⟨n, hn, by rwa [line_getElem hn] at h⟩
  · rintro ⟨n, hn, h⟩
    exact ⟨n, hn, by rwa [line_getElem hn]⟩

theorem isClear_iff (p : Product) :
    p.isClear = true ↔ p.sales = { count := 0, volume := 0 } ∧ p.histogram = Vector.replicate 8 0 := by
  have zeros : p.histogram.all (· = 0) = true ↔ p.histogram = Vector.replicate 8 0 := by
    simp only [Vector.all_eq_true, decide_eq_true_eq]
    constructor
    · intro h
      apply Vector.ext
      intro i hi
      simpa using h i hi
    · intro h i hi
      simp [h]
  simp only [Product.isClear, Bool.and_eq_true, decide_eq_true_eq, zeros]
  rfl

section requests

variable {tag : Byte} {s : State}

/-- A drawn volume is the frozen part and the counted pulses, rounded half up (R20). -/
theorem drawnVolume_eq (gain : Nat) (k : Keg) : drawnVolume gain k = k.frozen + (k.pulses * gain + 500) / 1000 := by
  simp only [drawnVolume, divHalfUp]
  omega

theorem productReads (h : Ready s) :
    (∀ n, n ≤ 47 → exec (.lineGet tag n) s = .next (replied .lineGet tag .ok (.line (s.line n)) (hunting s)))
      ∧ (∀ n, n ≤ 47 → exec (.kegList tag n) s
          = .next (replied .kegList tag .ok
              (.kegs ((s.line n).chain.map fun k => (k, k.frozen + (k.pulses * (s.line n).gain + 500) / 1000))) (hunting s)))
      ∧ (∀ c p, s.cellar.products.find? (fun p => p.code = c) = some p →
          exec (.productRead tag c) s = .next (replied .productSet tag .ok (.product c p.label) (hunting s)))
      ∧ (∀ c, (∀ p ∈ s.cellar.products, p.code ≠ c) →
          exec (.productRead tag c) s = .next (refused .productSet tag .notFound (hunting s))) := by
  refine ⟨fun n hn => ?_, fun n hn => ?_, fun c p hp => ?_, fun c hc => ?_⟩
  · exact exec_accepted h rfl (if_neg (Nat.not_lt.mpr hn)) rfl
  · exact exec_accepted h rfl (by
      rw [decideKegList, if_neg (Nat.not_lt.mpr hn)]
      simp only [kegsOf, drawnVolume_eq]
      rfl) rfl
  · have entry : productEntry (hunting s) c = some p := hp
    have code : p.code = c := by simpa using List.find?_some hp
    exact exec_accepted h rfl (by simp only [decideProductRead, entry, code]) rfl
  · have entry : productEntry (hunting s) c = none := (productEntry_eq_none_iff (hunting s) c).mpr hc
    exact exec_refused h rfl (by simp only [decideProductRead, entry])

theorem productRegister_spec (h : Ready s) (code : Nat) (label : Label) :
    (code = 0 → exec (.productRegister tag code label) s = .next (refused .productSet tag .range (hunting s)))
      ∧ (code ≠ 0 → (∃ p ∈ s.cellar.products, p.code = code) → exec (.productRegister tag code label) s
          = .next (replied .productSet tag .ok .none
              ((hunting s).setProducts (s.cellar.products.map fun p => if p.code = code then { p with label := label } else p))))
      ∧ (code ≠ 0 → ¬ (∃ p ∈ s.cellar.products, p.code = code) → s.cellar.products.length < 32 →
          exec (.productRegister tag code label) s
          = .next (replied .productSet tag .ok .none ((hunting s).setProducts (s.cellar.products
              ++ [{ code := code, label := label, sales := { count := 0, volume := 0 }, histogram := Vector.replicate 8 0 }]))))
      ∧ (code ≠ 0 → ¬ (∃ p ∈ s.cellar.products, p.code = code) → 32 ≤ s.cellar.products.length →
          exec (.productRegister tag code label) s = .next (refused .productSet tag .full (hunting s))) := by
  have held := registered_iff (hunting s) code
  refine ⟨fun hz => ?_, fun hz hh => ?_, fun hz hh hl => ?_, fun hz hh hl => ?_⟩
  · exact exec_refused h rfl (if_pos hz)
  · refine exec_accepted h rfl ?_ rfl
    rw [decideProductRegister, if_neg hz, if_pos (held.mpr hh)]
    rfl
  · refine exec_accepted h rfl ?_ rfl
    rw [decideProductRegister, if_neg hz, if_neg (fun hr => hh (held.mp hr))]
    exact if_neg (Nat.not_le.mpr hl)
  · refine exec_refused h rfl ?_
    rw [decideProductRegister, if_neg hz, if_neg (fun hr => hh (held.mp hr))]
    exact if_pos hl

theorem productRemove_spec (h : Ready s) (code : Nat) :
    (¬ (∃ p ∈ s.cellar.products, p.code = code) →
        exec (.productRemove tag code) s = .next (refused .productSet tag .notFound (hunting s)))
      ∧ ∀ p, s.cellar.products.find? (fun p => p.code = code) = some p →
        (productNamed (hunting s) code = true ∨ ¬ p.isClear = true →
            exec (.productRemove tag code) s = .next (refused .productSet tag .state (hunting s)))
        ∧ (¬ productNamed (hunting s) code = true → p.isClear = true → exec (.productRemove tag code) s
            = .next (replied .productSet tag .ok .none
                ((hunting s).setProducts (s.cellar.products.filter fun q => q.code ≠ code)))) := by
  refine ⟨fun hh => ?_, fun p hp => ?_⟩
  · have entry : productEntry (hunting s) code = none :=
      (productEntry_eq_none_iff (hunting s) code).mpr fun p hp hc => hh ⟨p, hp, hc⟩
    exact exec_refused h rfl (by simp only [decideProductRemove, entry])
  · have entry : productEntry (hunting s) code = some p := hp
    refine ⟨fun hn => exec_refused h rfl ?_, fun hn hz => exec_accepted (body := .none) h rfl ?_ rfl⟩
    · simp only [decideProductRemove, entry]
      exact if_pos (by simpa using hn)
    · simp only [decideProductRemove, entry]
      exact if_neg (by simp [hn, hz])

end requests

/-- Settles O15: each owner's decision, case by case. -/
theorem lineReadsAndProducts : Obligations.LineReadsAndProducts := by
  refine ⟨fun tag s h => productReads h, fun tag code label s h => ?_⟩
  obtain ⟨zero, relabels, joins, full⟩ := productRegister_spec (tag := tag) h code label
  obtain ⟨missing, removal⟩ := productRemove_spec (tag := tag) h code
  refine ⟨zero, relabels, joins, full, missing, fun p hp => ?_⟩
  obtain ⟨refusal, removes⟩ := removal p hp
  have named := productNamed_iff (hunting s) code
  refine ⟨fun hn => refusal ?_, fun hn hz => removes (fun hc => hn (named.mp hc)) ((isClear_iff p).mpr hz)⟩
  exact hn.imp named.mpr fun hz hc => hz ((isClear_iff p).mp hc)

end Sys2Proof.Machine
end

section
/-! ### Starts and the clock (O10, O12, O13, O14) -/

namespace Sys2Proof.Machine

open Sys2Proof Sys2Proof.Safety

/-! #### The state after reset (O14) -/

/-- The reset state is what a cold start leaves of a stopped, quiet part. -/
theorem reset_eq_coldStart {s : State} (pins : s.pins = quietPins) (phase : s.bus.phase = .stopped)
    (abandoned : s.bus.abandoned = none) (pending : s.pending = []) :
    State.reset = coldStart .retentionLost { tied1 := false, tied2 := false } s := by
  have free : s.bus.abandon = none := by simp [BusBlock.abandon, BusBlock.polled, phase, abandoned]
  simp only [State.reset, coldStart, readStraps, pins, pending, free]
  rfl

/-- The stopped part before the reset's cold start. -/
def stoppedReset : State := { State.reset with bus := { State.reset.bus with phase := .stopped } }

theorem reset_eq_coldStart_stopped : State.reset = coldStart .retentionLost { tied1 := false, tied2 := false } stoppedReset :=
  reset_eq_coldStart rfl rfl rfl rfl

theorem reset_tap (t : Nat) : State.reset.tap t = coldTap := by rw [reset_eq_coldStart_stopped, coldStart_tap]

theorem reset_line (n : Nat) : State.reset.line n = coldLine := by rw [reset_eq_coldStart_stopped, coldStart_line]

theorem reset_meteringLaw : MeteringLaw State.reset := by
  intro t ht
  have cold : t = coldTap := by simpa [State.reset, coldPour] using ht
  simp [cold, TapOk, coldTap]

theorem reset_conservationLaw : ConservationLaw State.reset := by
  intro t _
  have held : heldVolume State.reset t = 0 := by simp [heldVolume, State.reset, coldAccounts]
  simp [reset_tap, held, coldTap, Tally.zero]

theorem reset_allocationLaw : AllocationLaw State.reset := by
  refine ⟨?_, fun t ht => ?_⟩
  · simp [totalAllocation, State.reset, coldCooling, coldTrunk, startTrunk]
  · have cold : t = coldTrunk := by simpa [State.reset, coldCooling] using ht
    simp [cold, coldTrunk, startTrunk]

theorem reset_stagingLaw : StagingLaw State.reset := by
  intro i hi hr
  have idle : State.reset.stage i = startStage := by simp [State.reset, coldCooling, State.stage, hi]
  rw [idle] at hr
  exact absurd hr (by simp [startStage])

/-- Settles O14: the reset state is a cold start, and a cold start meets every law. -/
theorem resetMeetsLaws : Obligations.ResetMeetsLaws := by
  have cleaning : CleaningOk State.reset := reset_eq_coldStart_stopped ▸ cleaningOk_coldStart _ _ _
  refine ⟨fun s => reset_eq_coldStart, by rw [reset_line]; rfl, rfl, rfl, ?_, ?_, ?_, ?_, reset_meteringLaw, reset_conservationLaw,
    reset_allocationLaw, reset_stagingLaw, (cleaningOk_iff _).mp cleaning⟩
  · simp [JournalLaw, State.reset, coldAccounts]
  · simp [NoticeLaw, State.reset, startLink]
  · exact reset_eq_coldStart_stopped ▸ chainLaw_coldStart _ _ _
  · exact reset_eq_coldStart_stopped ▸ inFlightLaw_coldStart _ _ _

/-! #### The values of a cold start (O13) -/

theorem linkRate_eq (x : Straps) : linkRate x = if x.tied1 = true then 115200 else if x.tied2 = true then 230400 else 57600 := by
  obtain ⟨a, b⟩ := x
  cases a <;> cases b <;> rfl

theorem abandon_eq (b : BusBlock) : b.abandon = (match b.phase with | .exchange p => some p.address | _ => b.abandoned) := by
  unfold BusBlock.abandon BusBlock.polled
  cases b.phase <;> rfl

section cold

variable (cause : StartCause) (straps : Straps) (s : State)

theorem coldStart_node {a : Nat} (h : a ≤ 32) (h1 : 1 ≤ a) : (coldStart cause straps s).node a = freshNode 3333 := by
  simp [coldStart, coldBus, State.node, show a - 1 < 32 by omega]

theorem coldStart_trunk {n : Nat} (h : n < 12) : (coldStart cause straps s).trunk n = coldTrunk := by
  simp [coldStart, coldCooling, State.trunk, h]

theorem coldStart_stage {i : Nat} (h : i < 4) : (coldStart cause straps s).stage i = startStage := by
  simp [coldStart, coldCooling, State.stage, h]

theorem coldStart_kegValves (n : Nat) : kegValves (coldStart cause straps s) n = Vector.replicate 6 false := by
  apply Vector.ext
  intro i hi
  simp [kegValves, coldStart_line, coldLine]

theorem nodeConfigured_coldStart (a : Nat) : nodeConfigured (coldStart cause straps s) a = false := by
  simp [nodeConfigured, coldStart_tap, coldTap]

theorem startFaultsOf_getElem (count : Nat) (pins : Pins) (i : Fin 4) :
    (startFaultsOf count pins)[i] = (decide (i.val < count) && pins.stageFault[i]) := by
  simp [startFaultsOf]

/-- Settles O13: a cold start is written out block by block. -/
theorem coldStartValues : Obligations.ColdStartValues := by
  intro cause straps s
  refine ⟨fun n _ => ⟨coldStart_line cause straps s n, coldStart_kegValves cause straps s n⟩, rfl, rfl, fun i hi => ?_, rfl, rfl, rfl,
    rfl, rfl, rfl, fun a h1 h32 => ⟨nodeConfigured_coldStart cause straps s a, coldStart_node cause straps s h32 h1⟩, rfl, rfl,
    abandon_eq s.bus, rfl, fun n hn => coldStart_trunk cause straps s hn, fun i hi => coldStart_stage cause straps s hi, rfl, rfl, rfl,
    rfl, rfl, rfl, rfl, rfl, rfl, rfl, startFaultsOf_getElem 2 s.pins, rfl, rfl, fun c => by cases c <;> rfl, rfl, ?_, rfl, rfl, rfl⟩
  · refine ⟨coldStart_tap cause straps s i, ?_, ?_, ?_⟩
    · simp [presence, coldStart_tap, coldTap]
    · simp [coldStart, coldPour, mapEntry, hi, Route.dark]
    · simp [coldStart, coldPour, mapEntry, hi, Route.dark]
  · simp only [coldStart, startLink, linkRate_eq]

end cold

/-! #### What a restart keeps (O12) -/

/-- The tap bus before the first poll of the first round after a restart (R89). -/
def freshBus (s : State) : BusBlock :=
  { nodes := Vector.ofFn fun i => freshNode ((thresholdOf s (i.val + 1)).getD 3333)
    round := 0, phase := .emptyRound, abandoned := s.bus.abandon }

/-- A round begins on the bus alone. -/
theorem startRound_eq (s : State) : startRound s = { s with bus := (startRound s).bus } := by
  unfold startRound
  split <;> rfl

theorem startRound_round (s : State) : (startRound s).bus.round = s.bus.round := by
  unfold startRound
  split <;> rfl

theorem startRound_abandoned (s : State) : (startRound s).bus.abandoned = s.bus.abandoned := by
  unfold startRound
  split <;> rfl

section restart

variable (straps : Straps) (s : State)

/-- The part with its bus rebuilt, before the first poll. -/
def beforeRound : State := { readStraps straps s with bus := freshBus s }

theorem beforeRound_pour : (beforeRound straps s).pour = s.pour := by simp only [beforeRound, readStraps]

theorem restart_eq : restart straps s = { s with
    pins := { s.pins with straps := straps }
    bus := (startRound (beforeRound straps s)).bus
    cellar := restartCellar s.cellar s.pins
    pour := restartPour s.pour
    acct := { s.acct with window := closedWindow }
    cool := restartCooling s.cool s.pins
    clean := restartCleaning s.clean
    link := startLink s.link.pace straps .restart s.store.clock s.store.unset
    store := restartStore s.store } := by
  have bus : restartBus (readStraps straps s) = startRound (beforeRound straps s) := rfl
  obtain ⟨b, hb⟩ : ∃ b, startRound (beforeRound straps s) = { beforeRound straps s with bus := b } := ⟨_, startRound_eq _⟩
  simp only [restart]
  rw [bus, hb]
  simp only [beforeRound, readStraps]
  rfl

theorem markCarried_nil (k : Nat) : markCarried k [] = [] := by cases k <;> rfl

/-- A node after a restart is fresh, with the threshold of its configured taps. -/
theorem restart_node {a : Nat} (h1 : 1 ≤ a) (h32 : a ≤ 32) :
    (restart straps s).node a = freshNode ((thresholdOf s a).getD 3333) := by
  have fresh : (beforeRound straps s).node a = freshNode ((thresholdOf s a).getD 3333) := by
    simp [beforeRound, freshBus, State.node, show a - 1 < 32 by omega, show a - 1 + 1 = a by omega]
  have bus : (restart straps s).node a = (startRound (beforeRound straps s)).node a := by
    rw [restart_eq]
    rfl
  rw [bus, ← fresh]
  unfold startRound
  split
  · rename_i b hb
    have polled : ∀ n : Node, n.items = [] → { n with items := markCarried (listPlaces n) n.items } = n := fun n hn => by
      obtain ⟨_, _, _, _, _, _, _, items⟩ := n
      simp only [] at hn
      subst hn
      simp only [markCarried_nil]
    have first := List.mem_of_find?_eq_some hb
    simp only [List.mem_range'_1] at first
    have items : ((beforeRound straps s).node b).items = [] := by
      simp [beforeRound, freshBus, State.node, show b - 1 < 32 by omega, freshNode]
    show ((beforeRound straps s).setNode b _).node a = _
    rw [polled _ items, State.node_setNode]
    split
    · rename_i h
      rw [show b = a by omega]
    · rfl
  · rfl

theorem restart_configured (i : Nat) : ((restart straps s).tap i).configured = (s.tap i).configured
    ∧ ((restart straps s).tap i).gain = (s.tap i).gain := by
  by_cases hi : i < 128
  · rw [restart_tap s straps hi]
    unfold restartTap Tap.orphan
    cases (s.tap i).pour <;> exact ⟨rfl, rfl⟩
  · rw [State.tap_of_ge (Nat.not_lt.mp hi), State.tap_of_ge (Nat.not_lt.mp hi)]
    exact ⟨rfl, rfl⟩

end restart

/-- The lowest gain of a node's configured taps gives its threshold (R80). -/
theorem thresholdOf_of_min {s : State} {a i : Nat} (hi : i < 4) (hc : (s.tap (4 * (a - 1) + i)).configured = true)
    (hm : ∀ j, j < 4 → (s.tap (4 * (a - 1) + j)).configured = true → (s.tap (4 * (a - 1) + i)).gain ≤ (s.tap (4 * (a - 1) + j)).gain) :
    thresholdOf s a = some ((s.tap (4 * (a - 1) + i)).gain * 5 / 3) := by
  have min : (configuredGains s a).min? = some (s.tap (4 * (a - 1) + i)).gain := by
    rw [List.min?_eq_some_iff]
    refine ⟨?_, fun g hg => ?_⟩
    · simp only [configuredGains, List.mem_map, List.mem_filter, List.mem_range, tapOf]
      exact ⟨i, ⟨hi, hc⟩, rfl⟩
    · simp only [configuredGains, List.mem_map, List.mem_filter, List.mem_range, tapOf] at hg
      obtain ⟨j, ⟨hj, hcj⟩, rfl⟩ := hg
      exact hm j hj hcj
  simp [thresholdOf, min]

theorem thresholdOf_eq_none {s : State} {a : Nat} (h : ∀ i, i < 4 → (s.tap (4 * (a - 1) + i)).configured = false) :
    thresholdOf s a = none := by
  have none : configuredGains s a = [] := by
    simp only [configuredGains, List.map_eq_nil_iff, List.filter_eq_nil_iff, List.mem_range, tapOf]
    intro i hi
    simp [h i hi]
  simp [thresholdOf, none]

theorem nextDue_eq_some {s : State} {first b : Nat} (h : FirstDue s.bus.round first s b) : nextDue s first = some b := by
  obtain ⟨hfirst, h32, due, before⟩ := h
  have iff : ∀ a, pollDue s a = true ↔ DueIn s.bus.round s a := fun a => by simp [pollDue, DueIn]
  unfold nextDue
  rw [List.find?_range'_eq_some]
  refine ⟨(iff b).mpr due, ?_, fun c hc hcb => ?_⟩
  · simp only [List.mem_range'_1]
    omega
  · have := before c hc hcb
    simpa using fun h => this ((iff c).mp h)

theorem nextDue_eq_none {s : State} {first : Nat} (h : ∀ b, first ≤ b → b ≤ 32 → ¬ DueIn s.bus.round s b) : nextDue s first = none := by
  simp only [nextDue, List.find?_eq_none, List.mem_range'_1]
  intro b hb hd
  refine h b hb.1 (by omega) ?_
  simpa [pollDue, DueIn] using hd

section restart

variable (straps : Straps) (s : State)

theorem nodeConfigured_restart (a : Nat) : nodeConfigured (restart straps s) a = nodeConfigured s a := by
  simp only [nodeConfigured, restart_configured]

/-- In the first round after a restart every configured node is due. -/
theorem dueIn_restart (a : Nat) : DueIn 0 (restart straps s) a ↔ DueIn 0 (beforeRound straps s) a := by
  have taps : ∀ i, (beforeRound straps s).tap i = s.tap i := State.tap_congr (beforeRound_pour straps s)
  have before : nodeConfigured (beforeRound straps s) a = nodeConfigured s a := by simp only [nodeConfigured, taps]
  simp [DueIn, nodeConfigured_restart, before]

theorem restart_phase_of_due {b : Nat} (h : FirstDue 0 1 (restart straps s) b) : (restart straps s).bus.phase = .exchange
    { address := b, fresh := true, takenThrough := none, setup := some ((restart straps s).node b).threshold, items := [] } := by
  obtain ⟨h1, h32, due, before⟩ := h
  have next : nextDue (beforeRound straps s) 1 = some b := nextDue_eq_some (s := beforeRound straps s)
    ⟨h1, h32, (dueIn_restart straps s b).mp due, fun c hc hcb hd => before c hc hcb ((dueIn_restart straps s c).mpr hd)⟩
  have fresh : (beforeRound straps s).node b = (restart straps s).node b := by
    rw [restart_node straps s h1 h32]
    simp [beforeRound, freshBus, State.node, show b - 1 < 32 by omega, show b - 1 + 1 = b by omega]
  have bus : (restart straps s).bus = (startPoll b (beforeRound straps s)).bus := by
    rw [restart_eq]
    simp only [startRound, next]
  rw [bus]
  show BusPhase.exchange (formPoll b ((beforeRound straps s).node b)) = _
  rw [fresh, restart_node straps s h1 h32]
  rfl

theorem restart_phase_of_none (h : ∀ b, 1 ≤ b → b ≤ 32 → ¬ DueIn 0 (restart straps s) b) :
    (restart straps s).bus.phase = .emptyRound := by
  have next : nextDue (beforeRound straps s) 1 = none := nextDue_eq_none (s := beforeRound straps s)
    fun b h1 h32 hd => h b h1 h32 ((dueIn_restart straps s b).mpr hd)
  rw [restart_eq]
  simp only [startRound, next]

theorem restart_rethresholded {a : Nat} (h1 : 1 ≤ a) (h32 : a ≤ 32) : Rethresholded a (freshNode 3333) (restart straps s) := by
  have node := restart_node straps s h1 h32
  have tap : ∀ i, ((restart straps s).tap (4 * (a - 1) + i)).configured = (s.tap (4 * (a - 1) + i)).configured
      ∧ ((restart straps s).tap (4 * (a - 1) + i)).gain = (s.tap (4 * (a - 1) + i)).gain :=
    fun i => restart_configured straps s _
  refine ⟨fun hnone => ?_, fun i hi hc hm => ?_⟩
  · rw [node, thresholdOf_eq_none fun i hi => by rw [← (tap i).1]; exact hnone i hi]
    rfl
  · simp only [(tap _).1, (tap _).2] at hc hm ⊢
    rw [node, thresholdOf_of_min hi hc hm]
    simp [freshNode]

theorem restart_presence (i : Nat) : presence (restart straps s) i = .absent := by
  unfold presence
  simp only []
  split
  · rename_i h
    exfalso
    by_cases ha : nodeOfTap i ≤ 32
    · rw [restart_node straps s (by simp [nodeOfTap]) ha] at h
      simp [covered, freshNode] at h
    · have out : (restart straps s).node (nodeOfTap i) = freshNode 3333 := by simp [State.node, show ¬ nodeOfTap i - 1 < 32 by omega]
      rw [out] at h
      simp [covered, freshNode] at h
  · rfl

end restart

theorem restartState_eq (l : Line) : restartState l = (match l.state with
    | .draining => returnedState l
    | .queued => returnedState l
    | .cleaning => if l.mark then .foul else .rinsed
    | st => st) := by
  unfold restartState
  cases l.state <;> rfl

theorem restartTap_eq (r : Route) (t : Tap) : restartTap r t = { t with
    pour := t.pour.map fun p => { p with phase := .orphaned }
    route := if t.withheld then r else t.route
    withheld := false } := by
  unfold restartTap Tap.orphan
  cases h : t.pour <;> simp

/-- Settles O12: a restart is written out block by block, the node table by its rebuilding and its first poll. -/
theorem restartKeeps : Obligations.RestartKeeps := by
  intro straps s
  refine ⟨fun n _ => ?_, ?_, ?_, fun i hi => ?_, ?_, fun i _ => restart_presence straps s i,
    fun a h1 h32 => restart_rethresholded straps s h1 h32, ?_, ?_, fun b => restart_phase_of_due straps s, restart_phase_of_none straps s,
    ?_, fun n hn => ?_, fun i hi => ?_, ?_⟩
  · have line := restart_line s straps n
    rw [restartLine, restartState_eq] at line
    exact line
  · rw [restart_eq]; rfl
  · rw [restart_eq]; rfl
  · rw [restart_tap s straps hi, restartTap_eq]
  · rw [restart_eq]; rfl
  · rw [restart_eq, startRound_round]; rfl
  · rw [restart_eq, startRound_abandoned]; exact abandon_eq s.bus
  · rw [restart_eq]; rfl
  · simp [restart_eq, restartCooling, State.trunk, hn, startTrunk]
  · simp [restart_eq, restartCooling, coldCooling, State.stage, hi, startStage]
  · rw [restart_eq]
    refine ⟨rfl, rfl, rfl, rfl, rfl, rfl, rfl, rfl, rfl, startFaultsOf_getElem s.cool.count s.pins, ?_, rfl, rfl,
      fun c => by cases c <;> rfl, ?_, rfl, rfl, rfl, ?_, rfl⟩
    · simp [restartCooling]
    · simp only [startLink, linkRate_eq]
    · rfl

/-! #### Operations along the lines -/

/-- From `s` to `t` at most lines and pending notices change. -/
def LinesOnly (s t : State) : Prop :=
  t = { s with cellar := { s.cellar with lines := t.cellar.lines }, link := { s.link with notices := t.link.notices } }

theorem LinesOnly.refl (s : State) : LinesOnly s s := rfl

theorem LinesOnly.trans {s t u : State} (h : LinesOnly s t) (k : LinesOnly t u) : LinesOnly s u := by
  unfold LinesOnly at h k ⊢
  rw [k, h]

theorem linesOnly_of_onlyLine {n : Nat} {s t : State} (h : OnlyLine n s t) : LinesOnly s t := by
  obtain ⟨⟨-, products, armed, cool, clean, store, pins, pending, link⟩, pour, bus, acct⟩ := h
  obtain ⟨⟨_, _, _⟩, _, _, _, _, _, _, _, _, _⟩ := s
  obtain ⟨⟨_, _, _⟩, _, _, _, _, _, _, _, _, _⟩ := t
  simp only [] at products armed cool clean store pins pending link pour bus acct
  subst products armed cool clean store pins pending pour bus acct
  unfold LinesOnly
  rw [link]

/-- Line `n` at the end of an operation along distinct lines: its own turn found it and its notices as at the beginning,
no more than other lines and notices changed, and left it so. -/
structure OwnTurn (f : State → Nat → State) (n : Nat) (s u t : State) : Prop where
  found : u.line n = s.line n
  frame : LinesOnly s u
  pending : ∀ x : Notice, x.key = .line n → (x ∈ u.link.notices ↔ x ∈ s.link.notices)
  left : t.line n = (f u n).line n
  notices : ∀ x : Notice, x.key = .line n → (x ∈ t.link.notices ↔ x ∈ (f u n).link.notices)

/-- An operation along distinct lines, each turn changing its own line and the notices of it. -/
theorem foldl_perLine {f : State → Nat → State} (only : ∀ s n, OnlyLine n s (f s n)) (quiet : ∀ s n, NoticesOnly [.line n] s (f s n))
    {L : List Nat} (nodup : L.Nodup) (s : State) : LinesOnly s (L.foldl f s) ∧ (∀ n, n ∉ L → (L.foldl f s).line n = s.line n)
      ∧ NoticesOnly (L.map .line) s (L.foldl f s) ∧ ∀ n ∈ L, ∃ u, OwnTurn f n s u (L.foldl f s) := by
  induction L generalizing s with
  | nil => exact ⟨LinesOnly.refl s, fun _ _ => rfl, fun _ _ => Iff.rfl, by simp⟩
  | cons m L ih =>
    obtain ⟨hm, hL⟩ := List.nodup_cons.mp nodup
    obtain ⟨frame, others, notices, turns⟩ := ih hL (f s m)
    have first := linesOnly_of_onlyLine (only s m)
    have kept : ∀ n, n ≠ m → (f s m).line n = s.line n := (only s m).1.1
    have silent : ∀ n, n ≠ m → ∀ x : Notice, x.key = .line n → (x ∈ (f s m).link.notices ↔ x ∈ s.link.notices) :=
      fun n hn x hx => quiet s m x (by rw [hx]; simpa using hn)
    simp only [List.foldl_cons]
    refine ⟨first.trans frame, fun n hn => ?_, fun x hx => ?_, fun n hn => ?_⟩
    · simp only [List.mem_cons, not_or] at hn
      rw [others n hn.2, kept n hn.1]
    · simp only [List.map_cons, List.mem_cons, not_or] at hx
      exact (notices x hx.2).trans (quiet s m x (by simpa using hx.1))
    · by_cases h : n = m
      · subst h
        exact ⟨s, rfl, LinesOnly.refl s, fun _ _ => Iff.rfl, others n hm, fun x hx => notices x (by rw [hx]; simpa using hm)⟩
      · obtain ⟨u, found, before, pending, left, told⟩ := turns n ((List.mem_cons.mp hn).resolve_left h)
        exact ⟨u, found.trans (kept n h), first.trans before, fun x hx => (pending x hx).trans (silent n h x hx), left, told⟩

/-! #### The clock (R189) -/

theorem timeSet_spec {tag : Byte} {s : State} (h : Ready s) (r : Nat) : exec (.timeSet tag r) s
    = .next (replied .timeSet tag .ok (.clock r false)
        { hunting s with store := { s.store with clock := r, unset := false, minuteReached := false } }) :=
  exec_accepted h rfl rfl rfl

theorem timeGet_spec {tag : Byte} {s : State} (h : Ready s) :
    exec (.timeGet tag) s = .next (replied .timeGet tag .ok (.clock s.store.clock s.store.unset) (hunting s)) :=
  exec_accepted h rfl rfl rfl

theorem countSecond_eq (s : State) : countSecond s = { s with
    store := { s.store with
      clock := (s.store.clock + 1) % 4294967296
      minuteReached := decide (s.takesEvents = true ∧ s.store.unset = false ∧ (s.store.clock + 1) % 4294967296 % 60 = 0) }
    acct := { s.acct with window := { s.acct.window with
      openTime := if s.takesEvents = true ∧ s.acct.window.isOpen = true then min 30 (s.acct.window.openTime + 1)
        else s.acct.window.openTime } } } := by
  have minute : (s.takesEvents && !s.store.unset && decide ((s.store.clock + 1) % Config.clockModulus % 60 = 0))
      = decide (s.takesEvents = true ∧ s.store.unset = false ∧ (s.store.clock + 1) % 4294967296 % 60 = 0) := by
    rw [Bool.eq_iff_iff]
    simp only [Bool.and_eq_true, decide_eq_true_eq, Bool.not_eq_true', and_assoc]
    rfl
  have window : (if s.takesEvents then { s.acct with window := windowSecond s.acct.window } else s.acct)
      = { s.acct with window := { s.acct.window with
          openTime := if s.takesEvents = true ∧ s.acct.window.isOpen = true then min 30 (s.acct.window.openTime + 1)
            else s.acct.window.openTime } } := by
    unfold windowSecond
    cases s.takesEvents <;> cases hw : s.acct.window.isOpen <;> simp [Config.windowSeconds]
    rw [← hw]
  simp only [countSecond, minute, window]
  rfl

/-! #### The age check (R26) -/

/-- The age of a line's last clean has reached `hours` (R26, R189). -/
def ageReached (s : State) (l : Line) (hours : Nat) : Bool :=
  match l.lastClean with
  | some c => l.state ≠ .offline && decide (hours * 3600 ≤ s.store.clock - c)
  | none => false

theorem checkDueAge_onlyLine (n : Nat) (s : State) : OnlyLine n s (checkDueAge n s) := by
  unfold checkDueAge
  simp only []
  split
  · exact onlyLine_refl n s
  · refine ite_closed (P := OnlyLine n s) (onlyLine_refl n s) ?_
    have noted := ite_closed (P := OnlyLine n s) (c := (decide ((s.line n).config.softAge * 3600 ≤ s.store.clock - ‹_›)
      && !(s.line n).softAgeNoted) = true) (onlyLine_set_post { s.line n with softAgeNoted := true } (.line n) .lineDue)
      (onlyLine_refl n s)
    exact ite_closed (onlyLine_trans noted (changeHolds_onlyLine n _ _)) noted

/-- The first half of a line's age check: the soft-age noted flag and its DUE notice. -/
def noteSoftAge (n : Nat) (s : State) : State :=
  if ageReached s (s.line n) (s.line n).config.softAge && !(s.line n).softAgeNoted then
    post (.line n) .lineDue (s.setLine n { s.line n with softAgeNoted := true })
  else s

theorem noteSoftAge_line {n : Nat} (h : n < 48) (s : State) : (noteSoftAge n s).line n = { s.line n with
    softAgeNoted := (s.line n).softAgeNoted || ageReached s (s.line n) (s.line n).config.softAge } := by
  unfold noteSoftAge
  cases hr : ageReached s (s.line n) (s.line n).config.softAge <;> cases hs : (s.line n).softAgeNoted <;>
    simp [h, State.line_congr (post_cellar ..)] <;> rw [← hs]

theorem noteSoftAge_notices (n : Nat) (s : State) : (noteSoftAge n s).link.notices
    = if (s.line n).softAgeNoted = false ∧ ageReached s (s.line n) (s.line n).config.softAge = true then
        mergeNotice (.line n) .lineDue s.link.notices else s.link.notices := by
  unfold noteSoftAge
  cases ageReached s (s.line n) (s.line n).config.softAge <;> cases (s.line n).softAgeNoted <;> simp

/-- The age check of a line: the soft age noted, then OVERDUE from the hard age on. -/
theorem checkDueAge_eq (n : Nat) (s : State) : checkDueAge n s =
    if ageReached s (s.line n) (s.line n).config.hardAge = true then
      changeHolds n { ((noteSoftAge n s).line n).holds with overdue := true } (noteSoftAge n s)
    else noteSoftAge n s := by
  unfold checkDueAge noteSoftAge ageReached
  cases hc : (s.line n).lastClean with
  | none => simp [hc]
  | some c =>
    by_cases ho : (s.line n).state = .offline
    · simp [hc, ho]
    · simp [hc, ho]

theorem checkDueAge_line {n : Nat} (h : n < 48) (s : State) : (checkDueAge n s).line n = { s.line n with
    softAgeNoted := (s.line n).softAgeNoted || ageReached s (s.line n) (s.line n).config.softAge
    holds := { (s.line n).holds with
      overdue := (s.line n).holds.overdue || ageReached s (s.line n) (s.line n).config.hardAge } } := by
  rw [checkDueAge_eq]
  split
  · rename_i hr
    rw [changeHolds_line _ _ _ h, noteSoftAge_line h]
    simp [hr]
  · rename_i hr
    rw [noteSoftAge_line h]
    simp only [Bool.not_eq_true] at hr
    simp [hr]

theorem setOverdue_eq_iff (h : HoldSet) : { h with overdue := true } = h ↔ h.overdue = true := by
  cases h
  simp [eq_comm]

theorem checkDueAge_notices {n : Nat} (h : n < 48) (s : State) : (checkDueAge n s).link.notices =
    if (s.line n).holds.overdue = false ∧ ageReached s (s.line n) (s.line n).config.hardAge = true then
      mergeNotice (.line n) .lineHold (noteSoftAge n s).link.notices
    else (noteSoftAge n s).link.notices := by
  rw [checkDueAge_eq]
  cases hr : ageReached s (s.line n) (s.line n).config.hardAge with
  | false => simp
  | true =>
    rw [if_pos rfl, changeHolds_notices, noteSoftAge_line h]
    cases ho : (s.line n).holds.overdue with
    | false => simp [setOverdue_eq_iff, ho]
    | true => simp [setOverdue_eq_iff, ho]

theorem checkDueAge_quiet (n : Nat) (s : State) : NoticesOnly [.line n] s (checkDueAge n s) := by
  intro x hx
  have hne : x.key ≠ .line n := by simpa using hx
  by_cases h : n < 48
  · rw [checkDueAge_notices h, noteSoftAge_notices]
    split <;> split <;> simp [mem_mergeNotice_of_ne hne]
  · have off : s.line n = coldLine := State.line_of_ge (Nat.not_lt.mp h)
    simp [checkDueAge, off, coldLine]

theorem ageReached_congr {s u : State} {l : Line} (h : u.store = s.store) (hours : Nat) : ageReached u l hours = ageReached s l hours := by
  simp only [ageReached, h]

/-- What the age check does to one line and to its notices. -/
theorem ownTurn_checkDueAge {n : Nat} {s u t : State} (hn : n < 48) (turn : OwnTurn (fun s n => checkDueAge n s) n s u t) :
    t.line n = { s.line n with
        softAgeNoted := (s.line n).softAgeNoted || ageReached s (s.line n) (s.line n).config.softAge
        holds := { (s.line n).holds with
          overdue := (s.line n).holds.overdue || ageReached s (s.line n) (s.line n).config.hardAge } }
      ∧ ((s.line n).holds.overdue = false ∧ ageReached s (s.line n) (s.line n).config.hardAge = true →
          { key := .line n, cause := .lineHold } ∈ t.link.notices)
      ∧ ((s.line n).softAgeNoted = false ∧ ageReached s (s.line n) (s.line n).config.softAge = true →
          ¬ ((s.line n).holds.overdue = false ∧ ageReached s (s.line n) (s.line n).config.hardAge = true) →
          { key := .line n, cause := .lineDue } ∈ t.link.notices)
      ∧ (¬ ((s.line n).softAgeNoted = false ∧ ageReached s (s.line n) (s.line n).config.softAge = true) →
          ¬ ((s.line n).holds.overdue = false ∧ ageReached s (s.line n) (s.line n).config.hardAge = true) →
          ∀ x : Notice, x.key = .line n → (x ∈ t.link.notices ↔ x ∈ s.link.notices)) := by
  obtain ⟨found, before, pending, left, told⟩ := turn
  have store : u.store = s.store := by rw [before]
  have reached : ∀ x, ageReached u (u.line n) x = ageReached s (s.line n) x := fun x => by rw [found, ageReached_congr store]
  have notices := checkDueAge_notices hn u
  have noted := noteSoftAge_notices n u
  rw [reached, found] at notices noted
  refine ⟨?_, fun hard => ?_, fun due soft => ?_, fun idle soft x hx => ?_⟩
  · rw [left, checkDueAge_line hn, reached, reached, found]
  · rw [told _ rfl, notices, if_pos hard]
    exact mem_mergeNotice_self _ _ _
  · rw [told _ rfl, notices, if_neg soft, noted, if_pos due]
    exact mem_mergeNotice_self _ _ _
  · rw [told x hx, notices, if_neg soft, noted, if_neg idle]
    exact pending x hx

theorem ageCheck_idle {s : State} (h : s.store.minuteReached = false ∨ s.store.unset = true) : ageCheck s = s := by
  unfold ageCheck
  rcases h with h | h <;> simp [h]

theorem ageCheck_due {s : State} (hm : s.store.minuteReached = true) (hu : s.store.unset = false) : ageCheck s =
    { (List.range 48).foldl (fun s n => checkDueAge n s) s with
      store := { ((List.range 48).foldl (fun s n => checkDueAge n s) s).store with minuteReached := false } } := by
  unfold ageCheck
  rw [if_pos (by simp [hm, hu])]

/-- Settles O10: the clock by its requests and its seconds, the age check line by line along the part. -/
theorem clockAndAges : Obligations.ClockAndAges := by
  refine ⟨⟨fun tag r s h => timeSet_spec h r, fun tag s h => timeGet_spec h, fun s => congrArg _ (countSecond_eq s)⟩,
    fun s ht h => ?_, fun s ht hm hu => ?_⟩
  · show Host.Outcome.next (event ageCheck s) = _
    rw [event_of_takes ht, ageCheck_idle h]
  · obtain ⟨frame, -, only, turns⟩ := foldl_perLine (f := fun s n => checkDueAge n s) (fun s n => checkDueAge_onlyLine n s)
      (fun s n => checkDueAge_quiet n s) List.nodup_range (L := List.range 48) s
    refine ⟨ageCheck s, ?_, ?_⟩
    · show Host.Outcome.next (event ageCheck s) = _
      rw [event_of_takes ht]
    rw [ageCheck_due hm hu]
    generalize (List.range 48).foldl (fun s n => checkDueAge n s) s = t at frame only turns
    refine ⟨fun n hn => ?_, only, ?_, ?_, ?_, ?_, ?_, ?_, ?_, ?_, ?_, ?_⟩
    · obtain ⟨u, turn⟩ := turns n (List.mem_range.mpr hn)
      have own := ownTurn_checkDueAge hn turn
      exact own
    all_goals rw [frame]

end Sys2Proof.Machine
end

section
/-! ### The cellar: pulses, configuration, holds and kegs (O16 to O21) -/

namespace Sys2Proof.Machine

open Sys2Proof Sys2Proof.Safety

/-! #### The keg valves and a pulse (O21) -/

/-- The states in which the head valve of a line stands open (R4). -/
theorem headOpen_iff (l : Line) : headOpen l = true ↔ l.state = .serving ∨ l.state = .priming
    ∨ (l.state = .draining ∧ (l.preDrain = some .serving ∨ l.preDrain = some .priming)) := by
  unfold headOpen
  cases l.state <;> simp

theorem kegValves_iff {s : State} (ht : s.takesEvents = true) (n : Nat) (i : Fin 6) : (kegValves s n)[i] = true ↔
    headOpen (s.line n) = true ∧ ∃ k rest, (s.line n).chain = k :: rest ∧ k.coupler = i.val := by
  cases hc : (s.line n).chain <;> simp [kegValves, ht, hc]

/-- The keg and the line after a counted pulse, before the prime and the stock are looked at (R20). -/
def pulsedKeg (k : Keg) : Keg := { k with pulses := min 4294967295 (k.pulses + 1) }

/-- What a pulse adds to the drawn volume of a keg. -/
def pulseGain (gain : Nat) (k : Keg) : Nat :=
  ((pulsedKeg k).pulses * gain + 500) / 1000 - (k.pulses * gain + 500) / 1000

/-- The line after a counted pulse, before the prime and the stock are looked at (R20). -/
def pulsedLine (l : Line) (k : Keg) (rest : List Keg) : Line :=
  { l with
    chain := pulsedKeg k :: rest
    cellarDrawn := min 281474976710655 (l.cellarDrawn + pulseGain l.gain k)
    primeProgress := if l.state = .priming then min 4294967295 (l.primeProgress + pulseGain l.gain k) else l.primeProgress }

theorem cellarPulse_ignored {n : Nat} {s : State} (h : ¬ headOpen (s.line n) = true ∨ (s.line n).chain = []) : cellarPulse n s = s := by
  unfold cellarPulse
  simp only []
  split
  · rfl
  · rename_i k rest hc
    have closed : headOpen (s.line n) = false := by simpa [hc] using h
    rw [closed]
    rfl

theorem cellarPulse_counted {n : Nat} {s : State} {k : Keg} {rest : List Keg} (ho : headOpen (s.line n) = true)
    (hc : (s.line n).chain = k :: rest) :
    cellarPulse n s = recomputeStock n (checkPrime n (s.setLine n (pulsedLine (s.line n) k rest))) := by
  have gained : drawnVolume (s.line n).gain (pulsedKeg k) - drawnVolume (s.line n).gain k = pulseGain (s.line n).gain k := by
    simp only [drawnVolume_eq, pulseGain, pulsedKeg, Nat.add_sub_add_left]
  unfold cellarPulse
  simp only [hc, ho, Bool.not_true, Bool.false_eq_true, if_false]
  show recomputeStock n (checkPrime n (s.setLine n { s.line n with
    chain := pulsedKeg k :: rest
    cellarDrawn := satAdd Config.max48 (s.line n).cellarDrawn
      (drawnVolume (s.line n).gain (pulsedKeg k) - drawnVolume (s.line n).gain k)
    primeProgress := if (s.line n).state = .priming then
      satAdd Config.max32 (s.line n).primeProgress (drawnVolume (s.line n).gain (pulsedKeg k) - drawnVolume (s.line n).gain k)
      else (s.line n).primeProgress })) = _
  rw [gained]
  rfl

/-- A configured line stays so as its prime is looked at. -/
theorem checkPrime_configured {n : Nat} (hn : n < 48) {s : State} (hs : (s.line n).state ≠ .offline) :
    ((checkPrime n s).line n).state ≠ .offline := by
  rw [checkPrime_line _ _ hn]
  dsimp only
  split
  · simp
  · exact hs

/-- The prime and the stock level of a line that is configured are looked at (R9, R24). -/
theorem primeAndStock_line {n : Nat} (hn : n < 48) {s : State} (hs : (s.line n).state ≠ .offline) :
    (recomputeStock n (checkPrime n s)).line n = { s.line n with
      state := if (s.line n).state = .priming ∧ (s.line n).config.fillVolume + (s.line n).config.primeMargin ≤ (s.line n).primeProgress
        then .serving else (s.line n).state
      stock := stockLevelOf (s.line n) } := by
  rw [recomputeStock_line _ _ hn, if_neg (checkPrime_configured hn hs), checkPrime_line _ _ hn]
  rfl

theorem primeAndStock_notices {n : Nat} (hn : n < 48) {s : State} (hs : (s.line n).state ≠ .offline) :
    (recomputeStock n (checkPrime n s)).link.notices =
      if stockLevelOf (s.line n) = (s.line n).stock then (checkPrime n s).link.notices
      else mergeNotice (.stock n) (stockCause (stockLevelOf (s.line n))) (checkPrime n s).link.notices := by
  have level : stockLevelOf ((checkPrime n s).line n) = stockLevelOf (s.line n) := by
    rw [checkPrime_line _ _ hn]
    rfl
  have stock : ((checkPrime n s).line n).stock = (s.line n).stock := by rw [checkPrime_line _ _ hn]
  rw [recomputeStock_notices, level, stock]
  simp only [checkPrime_configured hn hs, false_or]

/-- Settles O21: the pulse is the head keg's, then the prime and the stock level follow. -/
theorem cellarPulse_holds : Obligations.CellarPulse := by
  intro n s ht
  have hn : n.val < 48 := n.isLt
  have ran : exec (.cellarMeterPulse n) s = .next (transmit (cellarPulse n.val s)) := congrArg _ (event_of_takes ht)
  refine ⟨fun i => ?_, fun h => ?_, fun k rest ho hc => ⟨cellarPulse n.val s, ran, ?_⟩⟩
  · rw [kegValves_iff ht, headOpen_iff]
  · rw [ran, cellarPulse_ignored (by rwa [headOpen_iff])]
  · have set : (s.setLine n.val (pulsedLine (s.line n.val) k rest)).line n.val = pulsedLine (s.line n.val) k rest :=
      State.line_setLine_self _ _ _ hn
    have configured : ((s.setLine n.val (pulsedLine (s.line n.val) k rest)).line n.val).state ≠ .offline := by
      rw [set]
      rcases ho with h | h | h <;> simp [pulsedLine, h]
    rw [cellarPulse_counted ((headOpen_iff _).mpr ho) hc]
    refine ⟨onlyLine_trans (setLine_onlyLine _ _ _) (onlyLine_trans (checkPrime_onlyLine _ _) (recomputeStock_onlyLine _ _)), ?_, ?_⟩
    · rw [primeAndStock_line hn configured, set]
      rfl
    · rw [primeAndStock_notices hn configured, checkPrime_notices, set]
      rfl

end Sys2Proof.Machine
end

section
/-! ### Stop orders and LINE HOLD (O18) -/

namespace Sys2Proof.Machine

open Sys2Proof Sys2Proof.Safety

/-! #### Items (R78) -/

theorem mem_dropOldestRefuse {q : QueuedItem} (hq : q.item.isRefuse = false) {l : List QueuedItem} (h : q ∈ l) :
    q ∈ dropOldestRefuse l := by
  induction l with
  | nil => exact h
  | cons x rest ih =>
    unfold dropOldestRefuse
    rcases List.mem_cons.mp h with rfl | h
    · simp [hq]
    · split
      · exact h
      · exact List.mem_cons_of_mem _ (ih h)

/-- An item that is no REFUSE stays in its list as another arrives. -/
theorem mem_enqueueItem {q : QueuedItem} (hq : q.item.isRefuse = false) (it : Item) {l : List QueuedItem} (h : q ∈ l) :
    q ∈ enqueueItem it l := by
  unfold enqueueItem
  split
  · exact List.mem_append_left _ h
  · split
    · exact h
    · exact List.mem_append_left _ (mem_dropOldestRefuse hq h)

/-- A STOP always joins its list. -/
theorem stop_mem_enqueueItem (i token : Nat) (l : List QueuedItem) :
    { item := .stop i token, carried := false } ∈ enqueueItem (.stop i token) l := by
  unfold enqueueItem
  split
  · simp
  · rw [if_neg (by simp [Item.isRefuse])]
    simp

/-! #### Stops for one line (R67) -/

/-- A stop is ordered for the pour `p` on line `n`. -/
def Pour.toStop (n : Nat) (p : Pour) : Bool := decide (p.phase ≠ .orphaned ∧ p.record.line = n ∧ p.record.stopSent = false)

/-- The list of a node after the pours of tap `i` have been looked at. -/
def stopItem (n : Nat) (u : State) (items : List QueuedItem) (i : Nat) : List QueuedItem :=
  match (u.tap i).pour with
  | none => items
  | some p => if p.toStop n then enqueueItem (.stop (i % 4) p.record.token) items else items

/-- A tap after it has been looked at. -/
def stoppedTap (n : Nat) (t : Tap) : Tap :=
  { t with pour := t.pour.map fun p =>
      if p.phase ≠ .orphaned ∧ p.record.line = n then { p with record := { p.record with stopSent := true } } else p }

/-- The pour of a tap to which a stop goes. -/
theorem stopTap_ordered {n t : Nat} {s : State} {p : Pour} (hp : (s.tap t).pour = some p) (h : p.toStop n = true) :
    stopTap n t s = queueItem t (.stop (localOfTap t) p.record.token) (s.setTap t (stoppedTap n (s.tap t))) := by
  simp only [Pour.toStop, decide_eq_true_eq] at h
  obtain ⟨phase, line, sent⟩ := h
  unfold stopTap
  simp only [hp, phase, line, sent, decide_false, ne_eq, not_true_eq_false, Bool.or_self, Bool.false_eq_true, if_false]
  simp only [State.modTap_eq, stoppedTap, hp, Option.map_some, phase, line, ne_eq, not_false_eq_true, and_self, if_true]

/-- A tap to which no stop goes stays as it is. -/
theorem stopTap_idle {n t : Nat} {s : State} (h : ∀ p, (s.tap t).pour = some p → p.toStop n = false) :
    stopTap n t s = s ∧ stoppedTap n (s.tap t) = s.tap t ∧ ∀ items, stopItem n s items t = items := by
  cases hp : (s.tap t).pour with
  | none =>
    refine ⟨by simp only [stopTap, hp], ?_, fun items => by simp only [stopItem, hp]⟩
    simp only [stoppedTap, hp, Option.map_none]
    rw [← hp]
  | some p =>
    have no := h p hp
    have kept : ∀ x : Pour, x.toStop n = false →
        (if x.phase ≠ .orphaned ∧ x.record.line = n then { x with record := { x.record with stopSent := true } } else x) = x := by
      intro x hx
      split
      · rename_i hc
        have sent : x.record.stopSent = true := by simpa [Pour.toStop, hc] using hx
        rw [← sent]
      · rfl
    refine ⟨?_, ?_, fun items => by simp only [stopItem, hp, no, Bool.false_eq_true, if_false]⟩
    · simp only [stopTap, hp]
      refine if_pos ?_
      simp only [Pour.toStop, decide_eq_false_iff_not, not_and_or, not_not, Bool.not_eq_false] at no
      simpa [or_assoc] using no
    · simp only [stoppedTap, hp, Option.map_some, kept p no]
      rw [← hp]

/-- Looking at one tap: its own record and the list of its node. -/
theorem stopTap_spec {n t : Nat} (ht : t < 128) (s : State) :
    (∀ i, (stopTap n t s).tap i = if i = t then stoppedTap n (s.tap t) else s.tap i)
      ∧ (∀ a, 1 ≤ a → a ≤ 32 → (stopTap n t s).node a
          = if a = t / 4 + 1 then { s.node a with items := stopItem n s (s.node a).items t } else s.node a)
      ∧ stopTap n t s = { s with
          pour := { s.pour with taps := (stopTap n t s).pour.taps }, bus := { s.bus with nodes := (stopTap n t s).bus.nodes } } := by
  by_cases h : ∃ p, (s.tap t).pour = some p ∧ p.toStop n = true
  · obtain ⟨p, hp, hs⟩ := h
    rw [stopTap_ordered hp hs, queueItem_eq]
    refine ⟨fun i => ?_, fun a h1 h32 => ?_, rfl⟩
    · rw [State.tap_setNode, State.tap_setTap]
      by_cases hi : i = t
      · simp [hi, ht]
      · simp [hi, Ne.symm hi]
    · have node : ∀ b, (s.setTap t (stoppedTap n (s.tap t))).node b = s.node b := fun _ => rfl
      rw [State.node_setNode, node, node]
      have address : nodeOfTap t - 1 = a - 1 ∧ nodeOfTap t - 1 < 32 ↔ a = t / 4 + 1 := by simp only [nodeOfTap]; omega
      simp only [address]
      split
      · rename_i ha
        simp only [stopItem, hp, hs, if_true, localOfTap, nodeOfTap, ← ha]
      · rfl
  · have idle : ∀ p, (s.tap t).pour = some p → p.toStop n = false := fun p hp => by
      by_contra hs
      exact h ⟨p, hp, by simpa using hs⟩
    obtain ⟨same, tap, items⟩ := stopTap_idle idle
    rw [same, tap]
    refine ⟨fun i => ?_, fun a _ _ => ?_, rfl⟩
    · split
      · rename_i hi
        rw [hi]
      · rfl
    · rw [items]
      split <;> rfl

/-- Looking at the first `k` taps, in ascending number. -/
structure StoppedTo (n k : Nat) (u v : State) : Prop where
  tap : ∀ i, v.tap i = if i < k then stoppedTap n (u.tap i) else u.tap i
  node : ∀ a, 1 ≤ a → a ≤ 32 → v.node a
    = { u.node a with items := ((List.range k).filter fun t => a = t / 4 + 1).foldl (stopItem n u) (u.node a).items }
  frame : v = { u with pour := { u.pour with taps := v.pour.taps }, bus := { u.bus with nodes := v.bus.nodes } }

theorem StoppedTo.cellar {n k : Nat} {u v : State} (h : StoppedTo n k u v) : v.cellar = u.cellar := (congrArg State.cellar h.frame).trans rfl

theorem StoppedTo.acct {n k : Nat} {u v : State} (h : StoppedTo n k u v) : v.acct = u.acct := (congrArg State.acct h.frame).trans rfl

theorem stoppedTo_range (n : Nat) (u : State) (k : Nat) (hk : k ≤ 128) :
    StoppedTo n k u ((List.range k).foldl (fun s t => stopTap n t s) u) := by
  induction k with
  | zero => exact ⟨fun i => by simp, fun a _ _ => by simp, rfl⟩
  | succ k ih =>
    obtain ⟨tap, node, frame⟩ := ih (by omega)
    rw [List.range_succ, List.foldl_append, List.foldl_cons, List.foldl_nil]
    generalize (List.range k).foldl (fun s t => stopTap n t s) u = v at tap node frame
    obtain ⟨tap', node', frame'⟩ := stopTap_spec (n := n) (t := k) (by omega) v
    have own : v.tap k = u.tap k := by rw [tap, if_neg (Nat.lt_irrefl k)]
    have item : ∀ items, stopItem n v items k = stopItem n u items k := fun items => by simp only [stopItem, own]
    refine ⟨fun i => ?_, fun a h1 h32 => ?_, ?_⟩
    · rw [tap', own, tap]
      rcases Nat.lt_trichotomy i k with h | h | h
      · simp [h, Nat.ne_of_lt h, Nat.lt_succ_of_lt h]
      · simp [h]
      · simp [Nat.ne_of_gt h, Nat.not_lt.mpr (Nat.le_of_lt h), show ¬ i < k + 1 by omega]
    · rw [node' a h1 h32, item, List.range_succ, List.filter_append, List.foldl_append, node a h1 h32]
      by_cases ha : a = k / 4 + 1
      · simp [ha]
      · simp [ha]
    · rw [frame', frame]

theorem stopLine_stopped (n : Nat) (u : State) : StoppedTo n 128 u (stopLine n u) := stoppedTo_range n u 128 (Nat.le_refl _)

/-- The taps of one node among the first `4 * m`. -/
theorem filter_node_taps (b m : Nat) : (List.range (4 * m)).filter (fun t => b = t / 4)
    = if b < m then (List.range 4).map (4 * b + ·) else [] := by
  induction m with
  | zero => simp
  | succ m ih =>
    have last : List.range (4 * (m + 1)) = List.range (4 * m) ++ (List.range 4).map (4 * m + ·) := by
      rw [show 4 * (m + 1) = 4 * m + 4 by omega, List.range_add]
    have quarter : ∀ i ∈ List.range 4, (4 * m + i) / 4 = m := fun i hi => by
      have := List.mem_range.mp hi
      omega
    rw [last, List.filter_append, ih, List.filter_map]
    by_cases hb : b = m
    · subst hb
      have all : (List.range 4).filter ((fun t => decide (b = t / 4)) ∘ (4 * b + ·)) = List.range 4 :=
        List.filter_eq_self.mpr fun i hi => by simp [quarter i hi]
      rw [all]
      simp
    · have none : (List.range 4).filter ((fun t => decide (b = t / 4)) ∘ (4 * m + ·)) = [] :=
        List.filter_eq_nil_iff.mpr fun i hi => by simp [quarter i hi, hb]
      rw [none]
      by_cases h : b < m
      · simp [h, Nat.lt_succ_of_lt h]
      · simp [h, show ¬ b < m + 1 by omega]

/-- A node's list after its four taps have been looked at, in ascending number. -/
theorem stopLine_node (n : Nat) (u : State) {a : Nat} (h1 : 1 ≤ a) (h32 : a ≤ 32) : (stopLine n u).node a = { u.node a with
    items := (List.range 4).foldl (fun items k => match (u.tap (4 * (a - 1) + k)).pour with
      | none => items
      | some p => if p.phase ≠ .orphaned ∧ p.record.line = n ∧ p.record.stopSent = false
          then enqueueItem (.stop k p.record.token) items else items) (u.node a).items } := by
  have taps : (List.range 128).filter (fun t => a = t / 4 + 1) = (List.range 4).map (4 * (a - 1) + ·) := by
    have := filter_node_taps (a - 1) 32
    rw [if_pos (by omega)] at this
    rw [← this]
    refine List.filter_congr fun t _ => ?_
    rw [decide_eq_decide]
    omega
  rw [(stopLine_stopped n u).node a h1 h32, taps, List.foldl_map]
  refine congrArg (fun items => { u.node a with items := items }) (List.foldl_ext _ _ _ fun items k hk => ?_)
  have local_index : (4 * (a - 1) + k) % 4 = k := by
    have := List.mem_range.mp hk
    omega
  simp only [stopItem, local_index]
  cases (u.tap (4 * (a - 1) + k)).pour with
  | none => rfl
  | some p => simp only [Pour.toStop, decide_eq_true_eq]

theorem mem_foldl_stopItem {n i : Nat} {u : State} {p : Pour} (hp : (u.tap i).pour = some p) (hs : p.toStop n = true) :
    ∀ {L : List Nat} {items : List QueuedItem}, i ∈ L →
      { item := .stop (i % 4) p.record.token, carried := false } ∈ L.foldl (stopItem n u) items := by
  have stays : ∀ (L : List Nat) (items : List QueuedItem), ⟨.stop (i % 4) p.record.token, false⟩ ∈ items →
      (⟨.stop (i % 4) p.record.token, false⟩ : QueuedItem) ∈ L.foldl (stopItem n u) items := by
    intro L
    induction L with
    | nil => exact fun _ h => h
    | cons t L ih =>
      intro items h
      refine ih _ ?_
      unfold stopItem
      split
      · exact h
      · split
        · exact mem_enqueueItem rfl _ h
        · exact h
  intro L
  induction L with
  | nil => exact fun h => absurd h (by simp)
  | cons t L ih =>
    intro items h
    by_cases ht : i = t
    · subst ht
      refine stays L _ ?_
      simp only [stopItem, hp, hs, if_true]
      exact stop_mem_enqueueItem _ _ _
    · exact ih ((List.mem_cons.mp h).resolve_left ht)

/-- A pour to which a stop goes has its STOP in the list of its node. -/
theorem stopLine_item {n i : Nat} {u : State} {p : Pour} (hi : i < 128) (hp : (u.tap i).pour = some p) (hs : p.toStop n = true) :
    ∃ q ∈ ((stopLine n u).node (i / 4 + 1)).items, q.item = .stop (i % 4) p.record.token ∧ q.carried = false := by
  refine ⟨{ item := .stop (i % 4) p.record.token, carried := false }, ?_, rfl, rfl⟩
  rw [(stopLine_stopped n u).node (i / 4 + 1) (by omega) (by omega)]
  exact mem_foldl_stopItem hp hs (by simp [hi])

theorem stopLine_line (n m : Nat) (u : State) : (stopLine n u).line m = u.line m :=
  State.line_congr (stopLine_stopped n u).cellar m

/-! #### LINE HOLD (R12) -/

section hold

variable {tag : Byte} {n : Nat} {s : State}

theorem changeHolds_acct (h : HoldSet) (u : State) : (changeHolds n h u).acct = u.acct := (changeHolds_onlyLine n u h).2.2.2

theorem stopLine_acct (u : State) : (stopLine n u).acct = u.acct :=
  (stopLine_stopped n u).acct

theorem lineHoldApply_offline (h : Ready s) (hn : n ≤ 47) (ho : (s.line n).state = .offline) (stop : Bool) :
    exec (.lineHoldApply tag n stop) s = .next (refused .lineHold tag .state (hunting s)) := by
  refine exec_refused h rfl ?_
  rw [decideLineHoldApply, if_neg (Nat.not_lt.mpr hn)]
  exact if_pos ho

theorem lineHoldApply_accepted (h : Ready s) (hn : n ≤ 47) (ho : (s.line n).state ≠ .offline) (stop : Bool) :
    exec (.lineHoldApply tag n stop) s = .next (replied .lineHold tag .ok (.holds { (s.line n).holds with host := true })
      (if stop then stopLine n (changeHolds n { (s.line n).holds with host := true } (hunting s))
        else changeHolds n { (s.line n).holds with host := true } (hunting s))) := by
  have held := changeHolds_line n (hunting s) { (s.line n).holds with host := true } (by omega)
  refine exec_accepted h rfl ?_ ?_
  · rw [decideLineHoldApply, if_neg (Nat.not_lt.mpr hn), if_neg (show ¬ ((hunting s).line n).state = .offline from ho)]
    simp only []
    have holds : ∀ u : State, (u.line n).holds = { (s.line n).holds with host := true } →
        acceptWith (.holds (u.line n).holds) u = acceptWith (.holds { (s.line n).holds with host := true }) u := fun u hu => by rw [hu]
    refine holds _ ?_
    split
    · rw [stopLine_line]
      exact congrArg Line.holds held
    · exact congrArg Line.holds held
  · split
    · rw [stopLine_acct, changeHolds_acct]
      rfl
    · rw [changeHolds_acct]
      rfl

theorem lineHoldRelease_refused (h : Ready s) (hn : n ≤ 47) {causes : HoldSet}
    (hc : (s.line n).state = .offline ∨ causes.watch = true ∨ causes.overdue = true) :
    exec (.lineHoldRelease tag n causes) s = .next (refused .lineHold tag .state (hunting s)) := by
  refine exec_refused h rfl ?_
  rw [decideLineHoldRelease, if_neg (Nat.not_lt.mpr hn), if_pos]
  simp only [Bool.or_eq_true, decide_eq_true_eq, or_assoc]
  exact hc

theorem lineHoldRelease_accepted (h : Ready s) (hn : n ≤ 47) {causes : HoldSet} (ho : (s.line n).state ≠ .offline)
    (hw : causes.watch = false) (hd : causes.overdue = false) : exec (.lineHoldRelease tag n causes) s
      = .next (replied .lineHold tag .ok (.holds (HoldSet.release (s.line n).holds causes))
        (changeHolds n (HoldSet.release (s.line n).holds causes) (hunting s))) := by
  have held := changeHolds_line n (hunting s) (HoldSet.release (s.line n).holds causes) (by omega)
  refine exec_accepted h rfl ?_ (by rw [changeHolds_acct]; rfl)
  rw [decideLineHoldRelease, if_neg (Nat.not_lt.mpr hn), if_neg]
  · show acceptWith (.holds ((changeHolds n (HoldSet.release (s.line n).holds causes) (hunting s)).line n).holds) _ = _
    rw [held]
    rfl
  · simp only [Bool.or_eq_true, decide_eq_true_eq, hw, hd, Bool.false_eq_true, or_false]
    exact ho

end hold

/-- Settles O18: the hold set by the owner's decision, the stops tap by tap. -/
theorem lineHold : Obligations.LineHold := by
  intro tag n s h hn
  refine ⟨fun ho => ⟨lineHoldApply_offline h hn ho, fun causes => lineHoldRelease_refused h hn (.inl ho)⟩,
    fun ho => ⟨lineHoldApply_accepted h hn ho false, lineHoldApply_accepted h hn ho true⟩,
    fun causes ho hc => lineHoldRelease_refused h hn (.inr hc), fun causes ho hw hd => lineHoldRelease_accepted h hn ho hw hd,
    fun u i hi => ?_, fun u => ⟨fun i p hi hp => ?_, fun a h1 h32 => stopLine_node n u h1 h32, (stopLine_stopped n u).frame⟩⟩
  · rw [(stopLine_stopped n u).tap, if_pos hi]
    rfl
  · obtain ⟨held, phase, line, sent⟩ := hp
    exact stopLine_item hi held (by simp [Pour.toStop, phase, line, sent])

end Sys2Proof.Machine
end

section
/-! ### LINE SET, LINE CLEAR and RETURN TO SERVICE (O16, O17) -/

namespace Sys2Proof.Machine

open Sys2Proof Sys2Proof.Safety

/-! #### What each operation of a line posts -/

theorem noticesOnly_refl (keys : List NoticeKey) (s : State) : NoticesOnly keys s s := fun _ _ => Iff.rfl

theorem noticesOnly_trans {keys : List NoticeKey} {s t u : State} (h : NoticesOnly keys s t) (k : NoticesOnly keys t u) :
    NoticesOnly keys s u := fun x hx => (k x hx).trans (h x hx)

theorem noticesOnly_mono {keys keys' : List NoticeKey} {s t : State} (h : NoticesOnly keys s t) (sub : keys ⊆ keys') :
    NoticesOnly keys' s t := fun x hx => h x fun hk => hx (sub hk)

theorem post_quiet (k : NoticeKey) (c : NoticeCause) (s : State) : NoticesOnly [k] s (post k c s) := fun x hx => by
  rw [post_link_notices]
  exact mem_mergeNotice_of_ne (by simpa using hx)

theorem noticesOnly_of_link {keys : List NoticeKey} {s t : State} (h : t.link = s.link) : NoticesOnly keys s t := fun x _ => by
  rw [h]

theorem setLine_quiet (keys : List NoticeKey) (n : Nat) (l : Line) (s : State) : NoticesOnly keys s (s.setLine n l) :=
  noticesOnly_of_link rfl

theorem mem_post (k : NoticeKey) (c : NoticeCause) (s : State) : { key := k, cause := c } ∈ (post k c s).link.notices :=
  mem_mergeNotice_self _ _ _

theorem ite_quiet {keys : List NoticeKey} {c : Prop} [Decidable c] {s t u : State} (ht : NoticesOnly keys s t)
    (hu : NoticesOnly keys s u) : NoticesOnly keys s (if c then t else u) := ite_closed ht hu

section quiet

variable (n : Nat) (s : State)

theorem set_post_quiet (l : Line) (k : NoticeKey) (c : NoticeCause) : NoticesOnly [k] s (post k c (s.setLine n l)) :=
  post_quiet k c _

theorem moveLine_quiet (st : ServiceState) : NoticesOnly [.line n] s (moveLine n st s) :=
  ite_quiet (noticesOnly_refl _ s) (set_post_quiet n s _ _ _)

theorem changeHolds_quiet (h : HoldSet) : NoticesOnly [.line n] s (changeHolds n h s) := (changeHolds_notified n h s).2

theorem recomputeStock_quiet : NoticesOnly [.stock n] s (recomputeStock n s) :=
  ite_quiet (noticesOnly_refl _ s) (set_post_quiet n s _ _ _)

theorem clearFoam_quiet : NoticesOnly [.line n] s (clearFoam n s) :=
  ite_quiet (set_post_quiet n s _ _ _) (setLine_quiet _ n _ s)

theorem checkPrime_quiet : NoticesOnly [.line n] s (checkPrime n s) := ite_quiet (moveLine_quiet n s _) (noticesOnly_refl _ s)

theorem decideKegHold_quiet : NoticesOnly [.line n] s (decideKegHold n s) := by
  unfold decideKegHold
  simp only []
  split
  · exact noticesOnly_refl _ s
  · exact ite_quiet (changeHolds_quiet n s _) (noticesOnly_refl _ s)

theorem leaveOffline_quiet : NoticesOnly [.line n] s (leaveOffline n s) :=
  ite_quiet (moveLine_quiet n (s.modLine n fun l => { l with mark := true }) _) (noticesOnly_refl _ s)

theorem productChanged_quiet (old : Nat) : NoticesOnly [.line n] s (productChanged n old s) := by
  unfold productChanged
  simp only []
  refine ite_quiet (noticesOnly_refl _ s) ?_
  split
  · exact noticesOnly_refl _ s
  · exact changeHolds_quiet n s _

/-- A recomputed stock level posts STOCK where it changes. -/
theorem recomputeStock_notified (h : n < 48) : StockNotified n s (recomputeStock n s) := by
  refine ⟨fun hne => ?_, fun heq x _ => ?_⟩
  · rw [recomputeStock_line _ _ h] at hne ⊢
    rw [recomputeStock_notices]
    by_cases ho : (s.line n).state = .offline
    · simp [ho] at hne
    · simp only [ho, if_false] at hne ⊢
      simp only [hne, or_self, if_false]
      exact mem_mergeNotice_self _ _ _
  · rw [recomputeStock_line _ _ h] at heq
    rw [recomputeStock_notices]
    by_cases ho : (s.line n).state = .offline
    · simp [ho]
    · simp only [ho, if_false] at heq
      simp [heq]

end quiet

/-- What comes before and after a change of the stock level leaves its notice, where it leaves the level and the STOCK notices. -/
theorem stockNotified_between {n : Nat} {s a b t : State} (before : (a.line n).stock = (s.line n).stock)
    (quiet : NoticesOnly [.line n, .keg n, .journal] s a) (h : StockNotified n a b) (after : (t.line n).stock = (b.line n).stock)
    (quiet' : NoticesOnly [.line n, .keg n, .journal] b t) : StockNotified n s t := by
  have pre : ∀ x : Notice, x.key = .stock n → (x ∈ a.link.notices ↔ x ∈ s.link.notices) := fun x hx => quiet x (by simp [hx])
  have post : ∀ x : Notice, x.key = .stock n → (x ∈ t.link.notices ↔ x ∈ b.link.notices) := fun x hx => quiet' x (by simp [hx])
  obtain ⟨changed, same⟩ := h
  refine ⟨fun hne => ?_, fun heq x hx => ?_⟩
  · rw [after, ← before] at hne
    rw [after]
    exact (post _ rfl).mpr (changed hne)
  · rw [after, ← before] at heq
    exact (post x hx).trans ((same heq x hx).trans (pre x hx))

/-! #### LINE SET (R2) -/

theorem leaveOffline_onlyLine (n : Nat) (s : State) : OnlyLine n s (leaveOffline n s) :=
  ite_closed (P := OnlyLine n s) (onlyLine_trans (setLine_onlyLine n _ s) (moveLine_onlyLine n _ _)) (onlyLine_refl n s)

theorem leaveOffline_line {n : Nat} (h : n < 48) (s : State) : (leaveOffline n s).line n = { s.line n with
    state := if (s.line n).state = .offline then .foul else (s.line n).state
    mark := (s.line n).mark || decide ((s.line n).state = .offline) } := by
  unfold leaveOffline
  split
  · rename_i ho
    rw [moveLine_line _ _ _ h, modLine_line _ _ _ h]
    simp [ho]
  · rename_i ho
    simp [ho]

theorem productChanged_onlyLine (n old : Nat) (s : State) : OnlyLine n s (productChanged n old s) := by
  unfold productChanged
  simp only []
  refine ite_closed (P := OnlyLine n s) (onlyLine_refl n s) ?_
  split
  · exact onlyLine_refl n s
  · exact changeHolds_onlyLine n s _

/-- The hold set after a change of the product code from `old` (R13). -/
def holdsForProduct (l : Line) (old : Nat) : HoldSet :=
  match l.chain with
  | [] => l.holds
  | k :: _ => if l.config.product = old then l.holds else { l.holds with keg := decide (k.product ≠ l.config.product) }

theorem productChanged_line {n : Nat} (h : n < 48) (old : Nat) (s : State) : (productChanged n old s).line n
    = { s.line n with holds := holdsForProduct (s.line n) old } := by
  unfold productChanged
  simp only []
  split
  · rename_i hp
    have holds : holdsForProduct (s.line n) old = (s.line n).holds := by
      unfold holdsForProduct
      split
      · rfl
      · exact if_pos hp
    rw [holds]
  · rename_i hp
    split
    · rename_i hc
      have holds : holdsForProduct (s.line n) old = (s.line n).holds := by
        unfold holdsForProduct
        rw [hc]
      rw [holds]
    · rename_i k rest hc
      have holds : holdsForProduct (s.line n) old = { (s.line n).holds with keg := decide (k.product ≠ (s.line n).config.product) } := by
        unfold holdsForProduct
        rw [hc]
        exact if_neg hp
      rw [changeHolds_line _ _ _ h, holds]

theorem configOk_iff (s : State) (c : LineConfig) : configOk s c = true ↔ ConfigInRange s c := by
  simp only [configOk, ConfigInRange, dueVolumeOk, Bool.and_eq_true, Bool.or_eq_true, decide_eq_true_eq, registered_iff, and_assoc]
  by_cases h1 : c.softVolume = 0 <;> by_cases h2 : c.hardVolume = 0 <;> simp [h1, h2]

/-- The state that an accepted LINE SET leaves (R2). -/
def lineSetState (n : Nat) (c : LineConfig) (s : State) : State :=
  post (.line n) .lineConfig (productChanged n (s.line n).config.product
    (recomputeStock n (checkPrime n (leaveOffline n (s.modLine n fun l => l.configure c)))))

section lineSet

variable {n : Nat} {c : LineConfig} {s : State}

theorem lineSetState_onlyLine (n : Nat) (c : LineConfig) (s : State) : OnlyLine n s (lineSetState n c s) :=
  onlyLine_trans (onlyLine_trans (onlyLine_trans (onlyLine_trans (onlyLine_trans (modLine_onlyLine n s _) (leaveOffline_onlyLine n _))
    (checkPrime_onlyLine n _)) (recomputeStock_onlyLine n _)) (productChanged_onlyLine n _ _)) (post_onlyLine n _ _ _)

/-- The configured line before its prime, its stock level and its head keg are looked at. -/
theorem configured_line (hn : n < 48) (c : LineConfig) (s : State) :
    (leaveOffline n (s.modLine n fun l => l.configure c)).line n = { (s.line n).configure c with
      state := if (s.line n).state = .offline then .foul else (s.line n).state
      mark := (s.line n).mark || decide ((s.line n).state = .offline) } := by
  rw [leaveOffline_line hn, modLine_line _ _ _ hn]
  rfl

theorem lineSetState_line (hn : n < 48) (c : LineConfig) (s : State) : (lineSetState n c s).line n = { s.line n with
    config := c
    softAgeNoted := (s.line n).softAgeNoted && decide (c.softAge = (s.line n).config.softAge)
    softVolumeNoted := (s.line n).softVolumeNoted && decide (c.softVolume = (s.line n).config.softVolume)
    state := if (s.line n).state = .offline then .foul
      else if (s.line n).state = .priming ∧ c.fillVolume + c.primeMargin ≤ (s.line n).primeProgress then .serving
      else (s.line n).state
    mark := (s.line n).mark || decide ((s.line n).state = .offline)
    stock := levelOf (remainingStock (s.line n)) c.lowThreshold c.criticalThreshold
    holds := holdsForProduct { s.line n with config := c } (s.line n).config.product } := by
  have line := configured_line hn c s
  have configured : ((leaveOffline n (s.modLine n fun l => l.configure c)).line n).state ≠ .offline := by
    rw [line]
    dsimp only
    split
    · simp
    · assumption
  have noted : ∀ (b : Bool) (p : Prop) [Decidable p], (if p then b else false) = (b && decide p) := fun b p _ => by
    by_cases hp : p <;> simp [hp]
  rw [lineSetState, State.line_congr (post_cellar ..), productChanged_line hn, primeAndStock_line hn configured, line]
  simp only [Line.configure, noted]
  by_cases ho : (s.line n).state = .offline
  · simp only [ho, if_true, reduceCtorEq, false_and, if_false]
    rfl
  · simp only [ho, if_false]
    rfl

theorem lineSetState_stock (hn : n < 48) (c : LineConfig) (s : State) : StockNotified n s (lineSetState n c s) := by
  have configured : ((checkPrime n (leaveOffline n (s.modLine n fun l => l.configure c))).line n).stock = (s.line n).stock := by
    rw [checkPrime_line _ _ hn, configured_line hn]
    rfl
  refine stockNotified_between configured ?_ (recomputeStock_notified n _ hn) ?_ ?_
  · refine noticesOnly_mono (noticesOnly_trans (noticesOnly_trans ?_ (leaveOffline_quiet n _)) (checkPrime_quiet n _)) (by simp)
    exact setLine_quiet _ n _ s
  · rw [lineSetState, State.line_congr (post_cellar ..), productChanged_line hn]
  · exact noticesOnly_mono (noticesOnly_trans (productChanged_quiet n _ _) (post_quiet _ _ _)) (by simp)

theorem lineSetState_quiet (n : Nat) (c : LineConfig) (s : State) : NoticesOnly [.line n, .stock n] s (lineSetState n c s) := by
  have line : ∀ {u v : State}, NoticesOnly [.line n] u v → NoticesOnly [.line n, .stock n] u v := fun h => noticesOnly_mono h (by simp)
  have set := setLine_quiet [.line n, .stock n] n ((s.line n).configure c) s
  have begun := noticesOnly_trans set (line (leaveOffline_quiet n _))
  have primed := noticesOnly_trans begun (line (checkPrime_quiet n _))
  have stocked := noticesOnly_trans primed (noticesOnly_mono (recomputeStock_quiet n _) (by simp))
  exact noticesOnly_trans (noticesOnly_trans stocked (line (productChanged_quiet n _ _))) (line (post_quiet _ _ _))

/-- Settles O16: the configuration is stored, then state, prime, stock and hold follow. -/
theorem lineSet : Obligations.LineSet := by
  intro tag n c s h
  refine ⟨fun hbad => ?_, fun hn hc => ⟨lineSetState n c (hunting s), ?_, lineSetState_onlyLine n c _, ?_, mem_post _ _ _,
    lineSetState_stock (by omega) c _, lineSetState_quiet n c (hunting s)⟩⟩
  · refine exec_refused h rfl (if_pos ?_)
    have ok := configOk_iff (hunting s) c
    by_contra hgood
    simp only [Bool.or_eq_true, decide_eq_true_eq, Bool.not_eq_true', not_or, Bool.not_eq_false] at hgood
    exact hbad ⟨by omega, ok.mp hgood.2⟩
  · have ok : configOk (hunting s) c = true := (configOk_iff (hunting s) c).mpr hc
    refine exec_accepted (body := .none) (e := lineSetState n c (hunting s)) h rfl (if_neg ?_) ?_
    · simp only [ok, Bool.not_true, Bool.or_false, decide_eq_true_eq]
      omega
    · exact congrArg (·.window) (lineSetState_onlyLine n c (hunting s)).2.2.2
  · have line := lineSetState_line (n := n) (by omega) c (hunting s)
    exact line

end lineSet

/-! #### LINE CLEAR (R10) -/

section clear

variable (n : Nat) (s : State)

/-- The KEG records of LINE CLEAR are those of the line as it was. -/
theorem removeKegs_eq : removeKegs n s
    = (s.line n).chain.foldl (fun u k => takeRecord (kegRecord n (s.line n) k .removed) u) s := by
  have fixed : ∀ (ks : List Keg) (u : State), u.line n = s.line n →
      ks.foldl (fun u k => takeRecord (kegRecord n (u.line n) k .removed) u) u
        = ks.foldl (fun u k => takeRecord (kegRecord n (s.line n) k .removed) u) u := by
    intro ks
    induction ks with
    | nil => exact fun _ _ => rfl
    | cons k ks ih =>
      intro u hu
      simp only [List.foldl_cons, hu]
      exact ih _ ((State.line_congr (takeRecord_cellar u _) n).trans hu)
  exact fixed _ s rfl

theorem removeKegs_cellar : (removeKegs n s).cellar = s.cellar :=
  foldl_closed (P := fun u => u.cellar = s.cellar) (fun u _ hu => (takeRecord_cellar u _).trans hu) _ s rfl

theorem removeKegs_lineEvent : LineEvent n s (removeKegs n s) :=
  foldl_closed (P := LineEvent n s) (fun u _ hu => lineEvent_trans hu (takeRecord_lineEvent n u _)) _ s (lineEvent_refl n s)

theorem removeKegs_pour : (removeKegs n s).pour = s.pour :=
  foldl_closed (P := fun u => u.pour = s.pour) (fun u _ hu => (takeRecord_pour u _).trans hu) _ s rfl

theorem removeKegs_bus : (removeKegs n s).bus = s.bus :=
  foldl_closed (P := fun u => u.bus = s.bus) (fun u _ hu => (takeRecord_bus u _).trans hu) _ s rfl

theorem takeRecord_quiet (b : RecordBody) : NoticesOnly [.journal] s (takeRecord b s) := fun _ hx =>
  mem_takeRecord_notices s (by simpa using hx)

theorem takeRecord_window (b : RecordBody) : (takeRecord b s).acct.window = s.acct.window := by
  have counted : (s.acct.countUnstored b).window = s.acct.window := by cases b <;> rfl
  unfold takeRecord storeRecord noteHigh noteFull
  repeat' split
  · rfl
  · rfl
  · rfl
  · rfl
  · exact counted
  · exact counted

theorem removeKegs_window : (removeKegs n s).acct.window = s.acct.window :=
  foldl_closed (P := fun u => u.acct.window = s.acct.window) (fun u _ hu => (takeRecord_window u _).trans hu) _ s rfl

theorem removeKegs_quiet : NoticesOnly [.journal] s (removeKegs n s) :=
  foldl_closed (P := NoticesOnly [.journal] s) (fun u _ hu => noticesOnly_trans hu (takeRecord_quiet u _)) _ s (noticesOnly_refl _ s)

theorem postIf_onlyLine (b : Bool) (k : NoticeKey) (c : NoticeCause) : OnlyLine n s (postIf b k c s) :=
  ite_closed (P := OnlyLine n s) (post_onlyLine n k c s) (onlyLine_refl n s)

theorem postIf_quiet (b : Bool) (k : NoticeKey) (c : NoticeCause) : NoticesOnly [k] s (postIf b k c s) :=
  ite_quiet (post_quiet k c s) (noticesOnly_refl _ s)

theorem postIf_line (b : Bool) (k : NoticeKey) (c : NoticeCause) (m : Nat) : (postIf b k c s).line m = s.line m := by
  unfold postIf
  split <;> rfl

/-- The cleared line before its notices: the records have been taken. -/
def clearedLine : State := (removeKegs n s).modLine n Line.cleared

/-- The notices of a cleared line that depend on what it had. -/
def clearNotices (u : State) : State :=
  postIf ((s.line n).stock ≠ .normal) (.stock n) .stockNormal
    (postIf (s.line n).foamAlert (.line n) .lineFoam (postIf ((s.line n).holds ≠ (u.line n).holds) (.line n) .lineHold u))

theorem clearLine_eq : clearLine n s
    = post (.keg n) .kegRemoved (post (.line n) .lineState (clearNotices n s (clearedLine n s))) := rfl

theorem clearNotices_onlyLine (u : State) : OnlyLine n u (clearNotices n s u) :=
  onlyLine_trans (onlyLine_trans (postIf_onlyLine n _ _ _ _) (postIf_onlyLine n _ _ _ _)) (postIf_onlyLine n _ _ _ _)

theorem clearLine_onlyLine : OnlyLine n (removeKegs n s) (clearLine n s) := by
  rw [clearLine_eq]
  exact onlyLine_trans (onlyLine_trans (onlyLine_trans (setLine_onlyLine n _ _) (clearNotices_onlyLine n s _))
    (post_onlyLine n _ _ _)) (post_onlyLine n _ _ _)

theorem clearLine_line (hn : n < 48) : (clearLine n s).line n = (s.line n).cleared := by
  have cleared : (clearedLine n s).line n = (s.line n).cleared := by
    rw [clearedLine, modLine_line _ _ _ hn, State.line_congr (removeKegs_cellar n s)]
  rw [clearLine_eq, State.line_congr (post_cellar ..), State.line_congr (post_cellar ..), clearNotices, postIf_line, postIf_line,
    postIf_line, cleared]

/-- The records and the cleared line post at most JOURNAL, and the notices before STOCK at most LINE. -/
theorem clearLine_quiet : NoticesOnly [.line n, .keg n, .stock n, .journal] s (clearLine n s) := by
  rw [clearLine_eq, clearNotices]
  refine noticesOnly_trans ?_ (noticesOnly_mono (post_quiet _ _ _) (by simp))
  refine noticesOnly_trans ?_ (noticesOnly_mono (post_quiet _ _ _) (by simp))
  refine noticesOnly_trans ?_ (noticesOnly_mono (postIf_quiet _ _ _ _) (by simp))
  refine noticesOnly_trans ?_ (noticesOnly_mono (postIf_quiet _ _ _ _) (by simp))
  refine noticesOnly_trans ?_ (noticesOnly_mono (postIf_quiet _ _ _ _) (by simp))
  exact noticesOnly_mono (noticesOnly_trans (removeKegs_quiet n s) (setLine_quiet _ n _ _)) (by simp)

theorem clearLine_stock (hn : n < 48) : StockNotified n s (clearLine n s) := by
  have told : NoticesOnly [.line n, .keg n, .journal] s (postIf (s.line n).foamAlert (.line n) .lineFoam
      (postIf ((s.line n).holds ≠ ((clearedLine n s).line n).holds) (.line n) .lineHold (clearedLine n s))) := by
    refine noticesOnly_trans ?_ (noticesOnly_mono (postIf_quiet _ _ _ _) (by simp))
    refine noticesOnly_trans ?_ (noticesOnly_mono (postIf_quiet _ _ _ _) (by simp))
    exact noticesOnly_mono (noticesOnly_trans (removeKegs_quiet n s) (setLine_quiet _ n _ _)) (by simp)
  have line := clearLine_line n s hn
  have after : ∀ u : State, NoticesOnly [.line n, .keg n, .journal] u (post (.keg n) .kegRemoved (post (.line n) .lineState u)) :=
    fun u => noticesOnly_trans (noticesOnly_mono (post_quiet _ _ u) (by simp)) (noticesOnly_mono (post_quiet _ _ _) (by simp))
  unfold StockNotified
  simp only [line]
  rw [clearLine_eq, clearNotices]
  refine ⟨fun hne => ?_, fun heq x hx => ?_⟩
  · refine (after _ _ (by simp)).mpr ?_
    have hne' : (s.line n).stock ≠ .normal := Ne.symm hne
    rw [postIf, if_pos (decide_eq_true hne')]
    exact mem_post _ _ _
  · refine (after _ x (by simp [hx])).trans ?_
    have heq' : (s.line n).stock = .normal := heq.symm
    rw [postIf, if_neg (by simp [heq'])]
    exact told x (by simp [hx])

end clear

theorem isRouted_iff (s : State) (n : Nat) : isRouted s n = true ↔ ∃ i, i < 128 ∧ (s.tap i).route.line = some n := by
  simp only [isRouted, Vector.any_eq_true, decide_eq_true_eq]
  constructor
  · rintro ⟨i, hi, h⟩
    exact ⟨i, hi, by simpa [State.tap, hi] using h⟩
  · rintro ⟨i, hi, h⟩
    exact ⟨i, hi, by simpa [State.tap, hi] using h⟩

theorem clearable_iff (st : ServiceState) :
    st.clearable = true ↔ st = .serving ∨ st = .dry ∨ st = .rinsed ∨ st = .foul := by
  cases st <;> simp [ServiceState.clearable]

theorem setLine_setLine (s : State) (n : Nat) (l m : Line) : (s.setLine n l).setLine n m = s.setLine n m := by
  simp [State.setLine]

/-- RETURN TO SERVICE is one change of its line. -/
theorem return_moveLine {n : Nat} {s : State} (hn : n < 48) (hst : (s.line n).state = .rinsed) :
    moveLine n .priming (s.modLine n fun l => { l with primeProgress := 0 })
      = post (.line n) .lineState (s.setLine n { s.line n with state := .priming, primeProgress := 0 }) := by
  rw [moveLine, modLine_line _ _ _ hn, if_neg (by simp [hst]), State.modLine_eq, modLine_line _ _ _ hn, State.modLine_eq,
    setLine_setLine]

/-- Settles O17: LINE CLEAR by its records, its line and its notices; RETURN TO SERVICE by one move. -/
theorem lineClearAndReturn : Obligations.LineClearAndReturn := by
  intro tag n s h hn
  have hn48 : n < 48 := by omega
  have range : ¬ 47 < n := by omega
  have ok := clearable_iff (s.line n).state
  have routed := isRouted_iff (hunting s) n
  refine ⟨fun hc => ?_, fun hc hb => ?_, fun hc hb => ⟨clearLine n (hunting s), ?_, ?_, ?_, ?_, clearLine_line n (hunting s) hn48, ?_, ?_,
    mem_post _ _ _, clearLine_stock n (hunting s) hn48, clearLine_quiet n (hunting s)⟩, fun hr => ?_, fun hr => ?_⟩
  · refine exec_refused h rfl ?_
    rw [decideLineClear, if_neg range, if_pos]
    simpa using fun hx => hc (ok.mp hx)
  · refine exec_refused h rfl ?_
    rw [decideLineClear, if_neg range, if_neg (by simpa using ok.mpr hc), if_pos]
    simp only [Bool.or_eq_true, decide_eq_true_eq]
    exact hb.imp routed.mpr id
  · refine exec_accepted (body := .none) (e := clearLine n (hunting s)) h rfl ?_ ?_
    · rw [decideLineClear, if_neg range, if_neg (by simpa using ok.mpr hc), if_neg]
      · rfl
      · simp only [Bool.or_eq_true, decide_eq_true_eq]
        exact fun hx => hb (hx.imp routed.mp id)
    · exact (congrArg (·.window) (clearLine_onlyLine n (hunting s)).2.2.2).trans (removeKegs_window n _)
  · exact lineEvent_trans (removeKegs_lineEvent n _) (clearLine_onlyLine n _).1
  · exact (clearLine_onlyLine n (hunting s)).2.1.trans (removeKegs_pour n _)
  · exact (clearLine_onlyLine n (hunting s)).2.2.1.trans (removeKegs_bus n _)
  · exact (clearLine_onlyLine n (hunting s)).2.2.2.trans (congrArg State.acct (removeKegs_eq n (hunting s)))
  · exact (post_quiet (.keg n) .kegRemoved _ _ (by simp)).mpr (mem_post _ _ _)
  · obtain ⟨hst, hk⟩ := hr
    refine exec_accepted h rfl ?_ rfl
    have moved := return_moveLine (s := hunting s) hn48 hst
    have state : ((post (.line n) .lineState ((hunting s).setLine n
        { (hunting s).line n with state := .priming, primeProgress := 0 })).line n).state = .priming := by
      rw [State.line_congr (post_cellar ..), State.line_setLine_self _ _ _ hn48]
    rw [decideReturnToService, if_neg range, if_neg]
    · simp only [moved, state]
      rfl
    · have hk' : ((hunting s).line n).chain ≠ [] := hk
      have hst' : ((hunting s).line n).state = .rinsed := hst
      rw [Bool.or_eq_true, decide_eq_true_eq, List.isEmpty_iff]
      exact fun hx => hx.elim (fun hx => hx hst') hk'
  · refine exec_refused h rfl ?_
    rw [decideReturnToService, if_neg range]
    refine if_pos ?_
    simp only [Bool.or_eq_true, decide_eq_true_eq, List.isEmpty_iff]
    by_contra hx
    simp only [not_or, not_not] at hx
    exact hr hx

end Sys2Proof.Machine
end

section
/-! ### Kegs: KEG ADD, KEG REMOVE and the retirement of a head keg (O19, O20) -/

namespace Sys2Proof.Machine

open Sys2Proof Sys2Proof.Safety

/-! #### KEG ADD (R18) -/

/-- A chain with room has a free coupler, and `freeCoupler` finds the lowest. -/
theorem freeCoupler_spec {chain : List Keg} (h : chain.length < 6) : freeCoupler chain < 6
    ∧ (∀ k ∈ chain, k.coupler ≠ freeCoupler chain) ∧ ∀ d, d < freeCoupler chain → ∃ k ∈ chain, k.coupler = d := by
  have room : ∃ c ∈ List.range 6, (chain.all fun k => k.coupler ≠ c) = true := by
    by_contra hx
    have sub : List.range 6 ⊆ chain.map (·.coupler) := fun c hc => by
      by_contra hm
      exact hx ⟨c, hc, by simpa using hm⟩
    have := (List.nodup_range.subperm sub).length_le
    simp at this
    omega
  obtain ⟨c, hc⟩ := Option.isSome_iff_exists.mp (List.find?_isSome.mpr room)
  have found : freeCoupler chain = c := congrArg (·.getD 0) hc
  have free := List.find?_some hc
  rw [found]
  refine ⟨List.mem_range.mp (List.mem_of_find?_eq_some hc), by simpa using free, fun d hd => ?_⟩
  have taken := (List.find?_range_eq_some.mp hc).2.2 d hd
  simpa using taken

theorem kegHeld_iff_line (s : State) (id : Nat) : kegHeld s id = true ↔ ∃ m, m < 48 ∧ ∃ k ∈ (s.line m).chain, k.id = id := by
  simp only [kegHeld, Vector.any_eq_true, List.any_eq_true, decide_eq_true_eq]
  constructor
  · rintro ⟨m, hm, h⟩
    exact ⟨m, hm, by rwa [line_getElem hm] at h⟩
  · rintro ⟨m, hm, h⟩
    exact ⟨m, hm, by rwa [line_getElem hm]⟩

section add

variable {n : Nat} {k : Keg} {s : State}

/-- The line with the keg in its chain, its KEG cause decided where the keg is the head. -/
def kegJoined (n : Nat) (k : Keg) (s : State) : State :=
  if (s.line n).chain.isEmpty then decideKegHold n (s.modLine n fun l => { l with chain := l.chain ++ [k] })
  else s.modLine n fun l => { l with chain := l.chain ++ [k] }

/-- A DRY line serves again from the keg. -/
def kegServing (n : Nat) (k : Keg) (s : State) : State :=
  if (s.line n).chain.isEmpty && ((kegJoined n k s).line n).state = .dry then moveLine n .serving (kegJoined n k s) else kegJoined n k s

theorem addKeg_eq : addKeg n k s = post (.keg n) .kegAdded (recomputeStock n (kegServing n k s)) := rfl

theorem kegJoined_onlyLine : OnlyLine n s (kegJoined n k s) :=
  ite_closed (P := OnlyLine n s) (onlyLine_trans (modLine_onlyLine n s _) (decideKegHold_onlyLine n _)) (modLine_onlyLine n s _)

theorem addKeg_onlyLine : OnlyLine n s (addKeg n k s) := by
  rw [addKeg_eq]
  have served : OnlyLine n s (kegServing n k s) :=
    ite_closed (P := OnlyLine n s) (onlyLine_trans kegJoined_onlyLine (moveLine_onlyLine n _ _)) kegJoined_onlyLine
  exact onlyLine_trans (onlyLine_trans served (recomputeStock_onlyLine n _)) (post_onlyLine n _ _ _)

theorem kegJoined_line (hn : n < 48) : (kegJoined n k s).line n = { s.line n with
    chain := (s.line n).chain ++ [k]
    holds := { (s.line n).holds with keg := (s.line n).holds.keg
      || ((s.line n).chain.isEmpty && (k.holdAfterSwitch || decide (k.product ≠ (s.line n).config.product))) } } := by
  unfold kegJoined
  cases hc : (s.line n).chain with
  | nil =>
    simp only [List.isEmpty_nil, if_true]
    rw [decideKegHold_line _ _ hn, modLine_line _ _ _ hn]
    simp only [hc, List.nil_append, Bool.true_and]
  | cons x rest =>
    simp only [List.isEmpty_cons, Bool.false_eq_true, if_false]
    rw [modLine_line _ _ _ hn]
    simp only [hc, Bool.false_and, Bool.or_false]

theorem kegServing_line (hn : n < 48) : (kegServing n k s).line n = { (kegJoined n k s).line n with
    state := if (s.line n).chain = [] ∧ (s.line n).state = .dry then .serving else (s.line n).state } := by
  have state : ((kegJoined n k s).line n).state = (s.line n).state := by rw [kegJoined_line hn]
  unfold kegServing
  rw [state]
  by_cases h : (s.line n).chain = [] ∧ (s.line n).state = .dry
  · rw [if_pos h, if_pos (by simp [h]), moveLine_line _ _ _ hn]
  · rw [if_neg h, if_neg (by simpa using h), ← state]

/-- The remaining stock of a chain with one keg more that is full. -/
theorem remainingStock_append (l : Line) (hk : k.frozen = 0 ∧ k.pulses = 0) :
    ((l.chain ++ [k]).map fun q => q.nominal - drawnVolume l.gain q).sum = remainingStock l + k.nominal := by
  have full : drawnVolume l.gain k = 0 := by simp [drawnVolume_eq, hk]
  simp [remainingStock, full]

theorem addKeg_line (hn : n < 48) (hs : (s.line n).state ≠ .offline) (hk : k.frozen = 0 ∧ k.pulses = 0) :
    (addKeg n k s).line n = { s.line n with
      chain := (s.line n).chain ++ [k]
      holds := { (s.line n).holds with keg := (s.line n).holds.keg
        || ((s.line n).chain.isEmpty && (k.holdAfterSwitch || decide (k.product ≠ (s.line n).config.product))) }
      state := if (s.line n).chain = [] ∧ (s.line n).state = .dry then .serving else (s.line n).state
      stock := levelOf (remainingStock (s.line n) + k.nominal) (s.line n).config.lowThreshold (s.line n).config.criticalThreshold } := by
  have configured : (if (s.line n).chain = [] ∧ (s.line n).state = .dry then ServiceState.serving else (s.line n).state) ≠ .offline := by
    split
    · decide
    · exact hs
  rw [addKeg_eq, State.line_congr (post_cellar ..), recomputeStock_line _ _ hn, kegServing_line hn, if_neg configured, kegJoined_line hn,
    stockLevelOf_eq, ← remainingStock_append (s.line n) hk]
  rfl

/-- The LINE notices of the joining keg: HOLD where the KEG cause is added. -/
theorem kegJoined_notices (hn : n < 48) : (kegJoined n k s).link.notices
    = if ((kegJoined n k s).line n).holds = (s.line n).holds then s.link.notices
      else mergeNotice (.line n) .lineHold s.link.notices := by
  unfold kegJoined
  split
  · rw [decideKegHold_notices _ _ hn, modLine_line _ _ _ hn]
    rfl
  · rw [modLine_line _ _ _ hn, if_pos rfl]
    rfl

/-- The LINE notices after a DRY line serves again: STATE comes last. -/
theorem kegServing_notices (hn : n < 48) : (kegServing n k s).link.notices
    = if (s.line n).chain = [] ∧ (s.line n).state = .dry then mergeNotice (.line n) .lineState (kegJoined n k s).link.notices
      else (kegJoined n k s).link.notices := by
  have state : ((kegJoined n k s).line n).state = (s.line n).state := by rw [kegJoined_line hn]
  unfold kegServing
  rw [state]
  by_cases h : (s.line n).chain = [] ∧ (s.line n).state = .dry
  · rw [if_pos h, if_pos (by simp [h]), moveLine_notices, state, h.2]
    rfl
  · rw [if_neg h, if_neg (by simpa using h)]

theorem addKeg_quiet_after : NoticesOnly [.keg n, .stock n] (kegServing n k s) (addKeg n k s) := by
  rw [addKeg_eq]
  exact noticesOnly_trans (noticesOnly_mono (recomputeStock_quiet n _) (by simp)) (noticesOnly_mono (post_quiet _ _ _) (by simp))

end add

/-- The figures that R18 asks of a KEG ADD. -/
def KegInRange (n id product nominal : Nat) (s : State) : Prop :=
  n ≤ 47 ∧ id ≠ 0 ∧ (∃ p ∈ s.cellar.products, p.code = product) ∧ 10000 ≤ nominal ∧ nominal ≤ 2000000

/-- A keg id that stands in some chain. -/
def KegElsewhere (id : Nat) (s : State) : Prop := ∃ m, m < 48 ∧ ∃ k ∈ (s.line m).chain, k.id = id

/-- The keg of a KEG ADD as it joins the chain (R18). -/
def freshKeg (id coupler product nominal : Nat) (hold : Bool) : Keg :=
  { id := id, coupler := coupler, product := product, nominal := nominal, pulses := 0, frozen := 0, poured := 0, holdAfterSwitch := hold }

section decision

variable {n id product nominal : Nat} {hold : Bool} {u : State}

theorem kegInRange_iff : (47 < n || id = 0 || !registered u product || nominal < 10000 || 2000000 < nominal) = true ↔
    ¬ KegInRange n id product nominal u := by
  rw [← not_iff_not]
  simp only [KegInRange, Bool.or_eq_true, decide_eq_true_eq, Bool.not_eq_true', not_or, Nat.not_lt, Bool.not_eq_false, registered_iff,
    not_not, and_assoc, ne_eq]

/-- Checks after the range: the line, its chain, the id (R18). -/
theorem decideKegAdd_of_range (hr : KegInRange n id product nominal u) : decideKegAdd n id product nominal hold u =
    if (u.line n).state = .offline then refuse .state u
    else if 6 ≤ (u.line n).chain.length then refuse .full u
    else if kegHeld u id then refuse .duplicate u
    else acceptWith (.coupler (freeCoupler (u.line n).chain))
      (addKeg n (freshKeg id (freeCoupler (u.line n).chain) product nominal hold) u) :=
  if_neg (fun hx => kegInRange_iff.mp hx hr)

theorem decideKegAdd_full (hr : KegInRange n id product nominal u) (ho : (u.line n).state ≠ .offline) (hf : 6 ≤ (u.line n).chain.length) :
    decideKegAdd n id product nominal hold u = refuse .full u := by
  rw [decideKegAdd_of_range hr, if_neg ho, if_pos hf]

theorem decideKegAdd_duplicate (hr : KegInRange n id product nominal u) (ho : (u.line n).state ≠ .offline)
    (hf : (u.line n).chain.length < 6) (hd : KegElsewhere id u) : decideKegAdd n id product nominal hold u = refuse .duplicate u := by
  rw [decideKegAdd_of_range hr, if_neg ho, if_neg (Nat.not_le.mpr hf), if_pos ((kegHeld_iff_line u id).mpr hd)]

theorem decideKegAdd_accepted (hr : KegInRange n id product nominal u) (ho : (u.line n).state ≠ .offline)
    (hf : (u.line n).chain.length < 6) (hd : ¬ KegElsewhere id u) : decideKegAdd n id product nominal hold u =
      acceptWith (.coupler (freeCoupler (u.line n).chain))
        (addKeg n (freshKeg id (freeCoupler (u.line n).chain) product nominal hold) u) := by
  rw [decideKegAdd_of_range hr, if_neg ho, if_neg (Nat.not_le.mpr hf), if_neg (fun hk => hd ((kegHeld_iff_line u id).mp hk))]

end decision

/-- What an added keg leaves and posts. -/
theorem addKeg_told {n : Nat} (k : Keg) (s : State) (hn : n < 48) : let t := addKeg n k s
    { key := .keg n, cause := .kegAdded } ∈ t.link.notices ∧ StockNotified n s t ∧ NoticesOnly [.line n, .keg n, .stock n] s t
      ∧ ((t.line n).state ≠ (s.line n).state → { key := .line n, cause := .lineState } ∈ t.link.notices)
      ∧ ((t.line n).state = (s.line n).state → (t.line n).holds ≠ (s.line n).holds →
          { key := .line n, cause := .lineHold } ∈ t.link.notices)
      ∧ ((t.line n).state = (s.line n).state → (t.line n).holds = (s.line n).holds → NoticesOnly [.keg n, .stock n] s t) := by
  intro t
  have after : NoticesOnly [.keg n, .stock n] (kegServing n k s) t := addKeg_quiet_after
  have served := kegServing_line (k := k) (s := s) hn
  have joined := kegJoined_line (k := k) (s := s) hn
  have line : (t.line n).state = ((kegServing n k s).line n).state ∧ (t.line n).holds = ((kegJoined n k s).line n).holds := by
    have := recomputeStock_line n (kegServing n k s) hn
    constructor
    · exact (congrArg Line.state this).trans rfl
    · rw [← show ((kegServing n k s).line n).holds = ((kegJoined n k s).line n).holds by rw [served]]
      exact (congrArg Line.holds this).trans rfl
  have quiet : NoticesOnly [.line n] s (kegServing n k s) := fun x hx => by
    have ne : x.key ≠ .line n := by simpa using hx
    rw [kegServing_notices hn, kegJoined_notices hn]
    split <;> split <;> simp [mem_mergeNotice_of_ne ne]
  have dry : (t.line n).state ≠ (s.line n).state ↔ (s.line n).chain = [] ∧ (s.line n).state = .dry := by
    rw [line.1, served]
    dsimp only
    constructor
    · intro hne
      by_contra hx
      exact hne (if_neg hx)
    · intro hx
      rw [if_pos hx, hx.2]
      decide
  refine ⟨mem_post _ _ _, ?_, ?_, fun hne => ?_, fun heq hne => ?_, fun heq heq' => ?_⟩
  · refine stockNotified_between ?_ (noticesOnly_mono quiet (by simp)) (recomputeStock_notified n (kegServing n k s) hn) rfl
      (noticesOnly_mono (post_quiet _ _ _) (by simp))
    rw [served, joined]
  · exact noticesOnly_trans (noticesOnly_mono quiet (by simp)) (noticesOnly_mono after (by simp))
  · refine (after _ (by simp)).mpr ?_
    rw [kegServing_notices hn, if_pos (dry.mp hne)]
    exact mem_mergeNotice_self _ _ _
  all_goals have stays : ¬ ((s.line n).chain = [] ∧ (s.line n).state = .dry) := fun hx => dry.mpr hx heq
  · refine (after _ (by simp)).mpr ?_
    rw [kegServing_notices hn, if_neg stays, kegJoined_notices hn, if_neg (line.2 ▸ hne)]
    exact mem_mergeNotice_self _ _ _
  · refine noticesOnly_trans (fun x _ => ?_) after
    rw [kegServing_notices hn, if_neg stays, kegJoined_notices hn, if_pos (line.2 ▸ heq')]

/-! #### KEG REMOVE (R19) -/

section remove

variable {n id : Nat} {s : State}

theorem removeKeg_onlyLine : OnlyLine n s (removeKeg n id s) :=
  onlyLine_trans (onlyLine_trans (modLine_onlyLine n s _) (recomputeStock_onlyLine n _)) (post_onlyLine n _ _ _)

theorem removeKeg_line (hn : n < 48) : (removeKeg n id s).line n = { s.line n with
    chain := (s.line n).chain.filter fun k => k.id ≠ id
    stock := if (s.line n).state = .offline then (s.line n).stock
      else stockLevelOf { s.line n with chain := (s.line n).chain.filter fun k => k.id ≠ id } } := by
  rw [removeKeg, State.line_congr (post_cellar ..), recomputeStock_line _ _ hn, modLine_line _ _ _ hn]

theorem removeKeg_quiet : NoticesOnly [.keg n, .stock n] s (removeKeg n id s) :=
  noticesOnly_trans (noticesOnly_trans (setLine_quiet _ n _ s) (noticesOnly_mono (recomputeStock_quiet n _) (by simp)))
    (noticesOnly_mono (post_quiet _ _ _) (by simp))

theorem removeKeg_stock (hn : n < 48) : StockNotified n s (removeKeg n id s) := by
  refine stockNotified_between (a := s.modLine n fun l => { l with chain := l.chain.filter fun k => k.id ≠ id }) ?_
    (setLine_quiet _ n _ s) (recomputeStock_notified n _ hn) rfl (noticesOnly_mono (post_quiet _ _ _) (by simp))
  rw [modLine_line _ _ _ hn]

/-- A head keg with another id stays in front of the kegs that are left. -/
theorem filter_chain {l : Line} {k : Keg} {rest : List Keg} (hc : l.chain = k :: rest) (hk : k.id ≠ id) :
    (l.chain.filter fun w => w.id ≠ id) = k :: rest.filter fun w => w.id ≠ id := by
  rw [hc, List.filter_cons_of_pos (by simpa using hk)]

theorem decideKegRemove_missing (hn : n ≤ 47) (h : ∀ k ∈ (s.line n).chain, k.id ≠ id) : decideKegRemove n id s = refuse .notFound s := by
  rw [decideKegRemove, if_neg (Nat.not_lt.mpr hn)]
  exact if_pos (by simpa using h)

theorem decideKegRemove_head {k : Keg} {rest : List Keg} (hn : n ≤ 47) (hc : (s.line n).chain = k :: rest) (hk : k.id = id) :
    decideKegRemove n id s = refuse .state s := by
  rw [decideKegRemove, if_neg (Nat.not_lt.mpr hn), if_neg (by simp [hc, hk])]
  exact if_pos (by simp [hc, hk])

theorem decideKegRemove_waiting {k : Keg} {rest : List Keg} (hn : n ≤ 47) (hc : (s.line n).chain = k :: rest) (hk : k.id ≠ id)
    (hw : ∃ w ∈ rest, w.id = id) : decideKegRemove n id s = accept (removeKeg n id s) := by
  rw [decideKegRemove, if_neg (Nat.not_lt.mpr hn), if_neg (by simpa [hc, hk] using hw)]
  exact if_neg (by simp [hc, hk])

end remove

/-- Settles O19: the checks in their order, then the joined or the filtered chain. -/
theorem kegAddAndRemove : Obligations.KegAddAndRemove := by
  intro tag n id product nominal hold s h
  refine ⟨fun hr => exec_refused h rfl (if_pos (kegInRange_iff.mpr hr)), fun hr ho => exec_refused h rfl ?_,
    fun hr ho hf => exec_refused h rfl (decideKegAdd_full hr ho hf),
    fun hr ho hf hd => exec_refused h rfl (decideKegAdd_duplicate hr ho hf hd), fun hr ho hf hd => ?_,
    fun hn hm => exec_refused h rfl (decideKegRemove_missing hn hm),
    fun k rest hn hc hk => exec_refused h rfl (decideKegRemove_head hn hc hk), fun k rest hn hc hk hw => ?_⟩
  · exact (decideKegAdd_of_range (u := hunting s) hr).trans (if_pos ho)
  · have hn : n < 48 := Nat.lt_succ_of_le hr.1
    obtain ⟨small, free, lowest⟩ := freeCoupler_spec hf
    have line := addKeg_line (k := freshKeg id (freeCoupler (s.line n).chain) product nominal hold) (s := hunting s) hn ho ⟨rfl, rfl⟩
    refine ⟨addKeg n (freshKeg id (freeCoupler (s.line n).chain) product nominal hold) (hunting s), freeCoupler (s.line n).chain,
      exec_accepted h rfl (decideKegAdd_accepted (u := hunting s) hr ho hf hd) ?_, small, free, lowest, addKeg_onlyLine, line,
      addKeg_told _ (hunting s) hn⟩
    exact congrArg (·.window) (addKeg_onlyLine (s := hunting s)).2.2.2
  · have hn48 : n < 48 := Nat.lt_succ_of_le hn
    have line := removeKeg_line (id := id) (s := hunting s) hn48
    have chain : (((hunting s).line n).chain.filter fun w => w.id ≠ id) = k :: rest.filter fun w => w.id ≠ id :=
      filter_chain (l := s.line n) hc hk
    rw [chain] at line
    exact ⟨removeKeg n id (hunting s), exec_accepted (body := .none) h rfl (decideKegRemove_waiting (s := hunting s) hn hc hk hw)
      (congrArg (·.window) (removeKeg_onlyLine (s := hunting s)).2.2.2), removeKeg_onlyLine, line, mem_post _ _ _,
      removeKeg_stock hn48, removeKeg_quiet⟩

end Sys2Proof.Machine
end

section
/-! ### The head keg retires (O20) -/

namespace Sys2Proof.Machine

open Sys2Proof Sys2Proof.Safety

/-! #### Stops look at taps and nodes alone -/

/-- Two parts have the same taps and the same bus. -/
def SamePoursAndBus (s u : State) : Prop := u.pour = s.pour ∧ u.bus = s.bus

theorem stopTap_congr {n t : Nat} {s u : State} (h : SamePoursAndBus s u) : SamePoursAndBus (stopTap n t s) (stopTap n t u) := by
  obtain ⟨hp, hb⟩ := h
  have tap : u.tap t = s.tap t := by simp only [State.tap, hp]
  unfold stopTap
  rw [tap]
  cases (s.tap t).pour with
  | none => exact ⟨hp, hb⟩
  | some p =>
    dsimp only
    split
    · exact ⟨hp, hb⟩
    · constructor
      · simp only [queueItem_eq, State.modTap_eq, State.setNode, State.setTap, hp, tap]
      · simp only [queueItem_eq, State.modTap_eq, State.setNode, State.setTap, State.node, hb]

theorem stopLine_congr (n : Nat) {s u : State} (h : SamePoursAndBus s u) : SamePoursAndBus (stopLine n s) (stopLine n u) := by
  have all : ∀ (L : List Nat) (s u : State), SamePoursAndBus s u →
      SamePoursAndBus (L.foldl (fun s t => stopTap n t s) s) (L.foldl (fun s t => stopTap n t s) u) := by
    intro L
    induction L with
    | nil => exact fun _ _ h => h
    | cons t L ih => exact fun s u h => ih _ _ (stopTap_congr h)
  exact all (List.range 128) s u h

theorem StoppedTo.link {n k : Nat} {u v : State} (h : StoppedTo n k u v) : v.link = u.link := (congrArg State.link h.frame).trans rfl

theorem StoppedTo.lineEvent {n k : Nat} {u v : State} (h : StoppedTo n k u v) (m : Nat) : LineEvent m u v := by
  rw [h.frame]
  exact ⟨fun _ _ => rfl, rfl, rfl, rfl, rfl, rfl, rfl, rfl, rfl⟩

/-! #### The stages of a retirement (R21) -/

section retire

variable {n : Nat} {k : Keg} {rest : List Keg} {cause : KegCause} {s : State}

/-- The line with its record taken, its counters at 0 and its foam cleared. -/
def headRecorded (n : Nat) (k : Keg) (cause : KegCause) (s : State) : State :=
  clearFoam n ((takeRecord (kegRecord n (s.line n) k cause) s).modLine n fun l => { l with cellarDrawn := 0, tapPoured := 0 })

/-- The kegs behind the head moved up, and the KEG cause decided for the new head. -/
def headReplaced (n : Nat) (k : Keg) (rest : List Keg) (cause : KegCause) (s : State) : State :=
  decideKegHold n ((headRecorded n k cause s).modLine n fun l => { l with chain := rest })

/-- The retired line, before it runs dry. -/
def headRetired (n : Nat) (k : Keg) (rest : List Keg) (cause : KegCause) (s : State) : State :=
  post (.keg n) (kegNotice cause) (recomputeStock n (headReplaced n k rest cause s))

theorem retireHead_eq (hc : (s.line n).chain = k :: rest) : retireHead n cause s = runDry n (headRetired n k rest cause s) := by
  unfold retireHead
  rw [hc]
  rfl

theorem retireHead_empty (hc : (s.line n).chain = []) : retireHead n cause s = s := by
  unfold retireHead
  rw [hc]

theorem headRecorded_line (hn : n < 48) : (headRecorded n k cause s).line n
    = { s.line n with cellarDrawn := 0, tapPoured := 0, foamCount := 0, foamAlert := false } := by
  rw [headRecorded, clearFoam_line _ _ hn, modLine_line _ _ _ hn, State.line_congr (takeRecord_cellar ..)]

/-- The KEG cause that the new head adds. -/
def headHeld (l : Line) (rest : List Keg) : Bool :=
  match rest with
  | [] => false
  | h :: _ => h.holdAfterSwitch || h.product ≠ l.config.product

theorem headReplaced_line (hn : n < 48) : (headReplaced n k rest cause s).line n = { s.line n with
    chain := rest, cellarDrawn := 0, tapPoured := 0, foamCount := 0, foamAlert := false
    holds := { (s.line n).holds with keg := (s.line n).holds.keg || headHeld (s.line n) rest } } := by
  rw [headReplaced, decideKegHold_line _ _ hn, modLine_line _ _ _ hn, headRecorded_line hn]
  cases rest <;> rfl

theorem headRetired_line (hn : n < 48) : (headRetired n k rest cause s).line n
    = { retiredLine (s.line n) rest with state := (s.line n).state } := by
  rw [headRetired, State.line_congr (post_cellar ..), recomputeStock_line _ _ hn, headReplaced_line hn]
  cases rest <;> rfl

theorem headRetired_onlyLine :
    OnlyLine n (takeRecord (kegRecord n (s.line n) k cause) s) (headRetired n k rest cause s) := by
  have recorded : OnlyLine n (takeRecord (kegRecord n (s.line n) k cause) s) (headRecorded n k cause s) :=
    onlyLine_trans (modLine_onlyLine n _ _) (clearFoam_onlyLine n _)
  have replaced : OnlyLine n (takeRecord (kegRecord n (s.line n) k cause) s) (headReplaced n k rest cause s) :=
    onlyLine_trans (onlyLine_trans recorded (modLine_onlyLine n _ _)) (decideKegHold_onlyLine n _)
  exact onlyLine_trans (onlyLine_trans replaced (recomputeStock_onlyLine n _)) (post_onlyLine n _ _ _)

theorem headRetired_lineEvent : LineEvent n s (headRetired n k rest cause s) :=
  lineEvent_trans (takeRecord_lineEvent n s _) headRetired_onlyLine.1

/-- FOAM, where a set alert is cleared, and HOLD, where the KEG cause is added, in this order. -/
theorem headReplaced_notices (hn : n < 48) : (headReplaced n k rest cause s).link.notices =
    if ((headReplaced n k rest cause s).line n).holds = (s.line n).holds then (headRecorded n k cause s).link.notices
    else mergeNotice (.line n) .lineHold (headRecorded n k cause s).link.notices := by
  have holds : (((headRecorded n k cause s).modLine n fun l => { l with chain := rest }).line n).holds = (s.line n).holds := by
    rw [modLine_line _ _ _ hn, headRecorded_line hn]
  rw [headReplaced, decideKegHold_notices _ _ hn, holds]
  rfl

theorem headRecorded_notices (hn : n < 48) : (headRecorded n k cause s).link.notices =
    if (s.line n).foamAlert = true then
      mergeNotice (.line n) .lineFoam (takeRecord (kegRecord n (s.line n) k cause) s).link.notices
    else (takeRecord (kegRecord n (s.line n) k cause) s).link.notices := by
  rw [headRecorded, clearFoam_notices, modLine_line _ _ _ hn, State.line_congr (takeRecord_cellar ..)]
  rfl

theorem headReplaced_quiet : NoticesOnly [.line n, .journal] s (headReplaced n k rest cause s) := by
  refine noticesOnly_trans ?_ (noticesOnly_mono (decideKegHold_quiet n _) (by simp))
  refine noticesOnly_trans ?_ (setLine_quiet _ n _ _)
  refine noticesOnly_trans ?_ (noticesOnly_mono (clearFoam_quiet n _) (by simp))
  exact noticesOnly_trans (noticesOnly_mono (takeRecord_quiet s _) (by simp)) (setLine_quiet _ n _ _)

theorem headRetired_quiet_after : NoticesOnly [.keg n, .stock n] (headReplaced n k rest cause s) (headRetired n k rest cause s) :=
  noticesOnly_trans (noticesOnly_mono (recomputeStock_quiet n _) (by simp)) (noticesOnly_mono (post_quiet _ _ _) (by simp))

theorem headRetired_stock (hn : n < 48) : StockNotified n s (headRetired n k rest cause s) := by
  refine stockNotified_between ?_ (noticesOnly_mono headReplaced_quiet (by simp))
    (recomputeStock_notified n (headReplaced n k rest cause s) hn) rfl (noticesOnly_mono (post_quiet _ _ _) (by simp))
  rw [headReplaced_line hn]

/-- A line that still serves, or has not served, stays as its head keg has left it. -/
theorem runDry_wet (hn : n < 48) (hd : ¬ (rest = [] ∧ (s.line n).state = .serving)) :
    runDry n (headRetired n k rest cause s) = headRetired n k rest cause s := by
  refine if_neg ?_
  rw [headRetired_line hn, Bool.and_eq_true, List.isEmpty_iff, decide_eq_true_eq]
  exact hd

theorem runDry_dry (hn : n < 48) (hd : rest = [] ∧ (s.line n).state = .serving) :
    runDry n (headRetired n k rest cause s) = stopLine n (moveLine n .dry (headRetired n k rest cause s)) := by
  refine if_pos ?_
  rw [headRetired_line hn, Bool.and_eq_true, List.isEmpty_iff, decide_eq_true_eq]
  exact hd

theorem retires_wet (hn : n < 48) (hd : ¬ (rest = [] ∧ (s.line n).state = .serving)) :
    Retires n k rest cause s (headRetired n k rest cause s) := by
  have line := headRetired_line (k := k) (rest := rest) (cause := cause) (s := s) hn
  have holds : ((headRetired n k rest cause s).line n).holds = ((headReplaced n k rest cause s).line n).holds := by
    rw [line, headReplaced_line hn]
    rfl
  have after : NoticesOnly [.keg n, .stock n] (headReplaced n k rest cause s) (headRetired n k rest cause s) := headRetired_quiet_after
  refine ⟨headRetired_lineEvent, ?_, headRetired_onlyLine.2.2.2, fun h => absurd h hd,
    fun _ => ⟨headRetired_onlyLine.2.1.trans (takeRecord_pour s _), headRetired_onlyLine.2.2.1.trans (takeRecord_bus s _)⟩,
    mem_post _ _ _, headRetired_stock hn, ?_, fun h => absurd h hd, fun _ hne => ?_, fun _ heq hf => ?_, fun _ heq hf => ?_⟩
  · rw [line]
    simp only [retiredLine, if_neg hd]
  · exact noticesOnly_trans (noticesOnly_mono headReplaced_quiet (by simp)) (noticesOnly_mono after (by simp))
  · refine (after _ (by simp)).mpr ?_
    rw [headReplaced_notices hn, if_neg (holds ▸ hne)]
    exact mem_mergeNotice_self _ _ _
  · refine (after _ (by simp)).mpr ?_
    rw [headReplaced_notices hn, if_pos (holds ▸ heq), headRecorded_notices hn, if_pos hf]
    exact mem_mergeNotice_self _ _ _
  · refine noticesOnly_trans ?_ (noticesOnly_mono after (by simp))
    intro x hx
    rw [headReplaced_notices hn, if_pos (holds ▸ heq), headRecorded_notices hn, if_neg (by simp [hf])]
    exact takeRecord_quiet s _ x (fun h => hx (by simp_all))

theorem retires_dry (hn : n < 48) (hd : rest = [] ∧ (s.line n).state = .serving) :
    Retires n k rest cause s (stopLine n (moveLine n .dry (headRetired n k rest cause s))) := by
  have line := headRetired_line (k := k) (rest := rest) (cause := cause) (s := s) hn
  have moved := moveLine_onlyLine n (headRetired n k rest cause s) .dry
  have only := onlyLine_trans (headRetired_onlyLine (k := k) (rest := rest) (cause := cause) (s := s)) moved
  have stopped := stopLine_stopped n (moveLine n .dry (headRetired n k rest cause s))
  have same : SamePoursAndBus s (moveLine n .dry (headRetired n k rest cause s)) :=
    ⟨only.2.1.trans (takeRecord_pour s _), only.2.2.1.trans (takeRecord_bus s _)⟩
  have quiet : NoticesOnly [.line n] (headRetired n k rest cause s) (stopLine n (moveLine n .dry (headRetired n k rest cause s))) :=
    noticesOnly_trans (moveLine_quiet n _ _) (noticesOnly_of_link stopped.link)
  have told := headRetired_quiet_after (n := n) (k := k) (rest := rest) (cause := cause) (s := s)
  refine ⟨lineEvent_trans headRetired_lineEvent (lineEvent_trans moved.1 (stopped.lineEvent n)), ?_,
    stopped.acct.trans only.2.2.2, fun _ => stopLine_congr n same, fun h => absurd hd h, (quiet _ (by simp)).mpr (mem_post _ _ _), ?_, ?_,
    fun _ => ?_, fun h => absurd hd h, fun h => absurd hd h, fun h => absurd hd h⟩
  · rw [stopLine_line, moveLine_line _ _ _ hn, line]
    simp only [retiredLine, if_pos hd]
  · refine stockNotified_between rfl (noticesOnly_refl _ s) (headRetired_stock hn) ?_ (noticesOnly_mono quiet (by simp))
    rw [stopLine_line, moveLine_line _ _ _ hn]
  · exact noticesOnly_trans (noticesOnly_trans (noticesOnly_mono headReplaced_quiet (by simp)) (noticesOnly_mono told (by simp)))
      (noticesOnly_mono quiet (by simp))
  · rw [stopped.link, moveLine_notices, line, if_neg (by simp [hd.2])]
    exact mem_mergeNotice_self _ _ _

theorem retireHead_retires (hn : n < 48) (hc : (s.line n).chain = k :: rest) : Retires n k rest cause s (retireHead n cause s) := by
  rw [retireHead_eq hc]
  by_cases hd : rest = [] ∧ (s.line n).state = .serving
  · rw [runDry_dry hn hd]
    exact retires_dry hn hd
  · rw [runDry_wet hn hd]
    exact retires_wet hn hd

theorem retireHead_window (hn : n < 48) (hc : (s.line n).chain = k :: rest) : (retireHead n cause s).acct.window = s.acct.window := by
  rw [(retireHead_retires hn hc).2.2.1, takeRecord_window]

end retire

/-! #### The detector (R22) -/

theorem setIfInBounds_of_lt {α : Type} {m i : Nat} (v : Vector α m) (x : α) (h : i < m) : v.setIfInBounds i x = v.set i x h := by
  apply Vector.ext
  intro j hj
  rw [Vector.getElem_setIfInBounds hj, Vector.getElem_set]

/-- The part after a detector's input has changed from full to empty, before the head keg retires. -/
def disarmed (n : Fin 48) (s : State) : State := { s with
  cellar := { s.cellar with detectorArmed := s.cellar.detectorArmed.set n.val false }
  pins := { s.pins with detectorFull := s.pins.detectorFull.set n.val false } }

/-- The lines from which an armed detector retires a keg. -/
def Trips (n : Fin 48) (s : State) : Prop := s.cellar.detectorArmed[n.val] = true
  ∧ ((s.line n.val).state = .serving ∨ (s.line n.val).state = .priming ∨ (s.line n.val).state = .draining)

theorem detectorTrip_eq (n : Fin 48) (s : State) [Decidable (Trips n s)] : detectorTrip n.val (setDetectorPin n.val false s)
    = if Trips n s then retireHead n.val .empty (disarmed n s) else disarmed n s := by
  have armed : ((setDetectorPin n.val false s).cellar.detectorArmed[n.val]?).getD false = s.cellar.detectorArmed[n.val] := by
    simp [setDetectorPin]
  have state : (setDetectorPin n.val false s).line n.val = s.line n.val := rfl
  have off : { setDetectorPin n.val false s with cellar := { (setDetectorPin n.val false s).cellar with
      detectorArmed := (setDetectorPin n.val false s).cellar.detectorArmed.setIfInBounds n.val false } } = disarmed n s := by
    simp [setDetectorPin, disarmed, setIfInBounds_of_lt _ _ n.isLt]
  unfold detectorTrip
  simp only [armed, state, off]
  refine ite_cond_congr ?_
  simp only [Trips, Bool.and_eq_true, Bool.or_eq_true, decide_eq_true_eq, or_assoc]

theorem detectorFull_eq (n : Fin 48) (s : State) : detectorFull n.val (setDetectorPin n.val true s) = { s with
    cellar := { s.cellar with detectorArmed := s.cellar.detectorArmed.set n.val true }
    pins := { s.pins with detectorFull := s.pins.detectorFull.set n.val true } } := by
  simp [detectorFull, setDetectorPin, setIfInBounds_of_lt _ _ n.isLt]

/-- Settles O20: KEG SWITCH and a trip both retire the head keg. -/
theorem headRetires : Obligations.HeadRetires := by
  refine ⟨fun tag n s h hn => ⟨fun hc => exec_refused h rfl ?_, fun k rest hc => ?_⟩, fun n s ht => ?_⟩
  · rw [decideKegSwitch, if_neg (Nat.not_lt.mpr hn)]
    exact if_pos (List.isEmpty_iff.mpr hc)
  · have hn48 : n < 48 := Nat.lt_succ_of_le hn
    have head : ((hunting s).line n).chain = k :: rest := hc
    refine ⟨retireHead n .switched (hunting s), exec_accepted (body := .none) h rfl ?_ (retireHead_window hn48 head),
      retireHead_retires hn48 head⟩
    rw [decideKegSwitch, if_neg (Nat.not_lt.mpr hn)]
    exact if_neg (by rw [head]; simp)
  · classical
    have ran : exec (.foamOnBeerTrip n) s = .next (transmit (detectorTrip n.val (setDetectorPin n.val false s))) :=
      congrArg _ (event_of_takes (s := setDetectorPin n.val false s) ht)
    have rearmed : exec (.detectorRearm n) s = .next (transmit (detectorFull n.val (setDetectorPin n.val true s))) :=
      congrArg _ (event_of_takes (s := setDetectorPin n.val true s) ht)
    have trip := detectorTrip_eq n s
    refine ⟨fun k rest hx hc => ?_, fun hx => ?_, ?_⟩
    · have tripped : Trips n s := hx
      rw [ran, trip, if_pos tripped]
      exact ⟨_, rfl, retireHead_retires (s := disarmed n s) n.isLt hc⟩
    · rw [ran, trip]
      split
      · rename_i hy
        have empty : ((disarmed n s).line n.val).chain = [] := hx.resolve_left (not_not_intro hy)
        rw [retireHead_empty empty]
        rfl
      · rfl
    · rw [rearmed, detectorFull_eq]

end Sys2Proof.Machine
end

section
/-! ### The ask and the grant (O27) -/

namespace Sys2Proof.Machine

open Sys2Proof Sys2Proof.Safety

/-! #### Presence, sizes and the line's servability (R16, R32) -/

theorem covered_eq (n : Node) (i : Nat) : covered n i = n.tapCount.any fun c => decide (i < c) := by
  unfold covered
  cases n.tapCount <;> rfl

theorem presence_eq (s : State) (i : Nat) : presence s i =
    if ((s.tap i).configured && (s.node (i / 4 + 1)).tapCount.any fun c => decide (i % 4 < c)) = true then
      (match (s.node (i / 4 + 1)).state with
        | .absent => .absent
        | .present => .present
        | .lost => .offline)
    else .absent := by
  simp only [presence, covered_eq, nodeOfTap, localOfTap] <;> rfl

theorem presence_present_iff (s : State) (i : Nat) : presence s i = .present ↔
    ((s.tap i).configured && (s.node (i / 4 + 1)).tapCount.any fun c => decide (i % 4 < c)) = true
      ∧ (s.node (i / 4 + 1)).state = .present := by
  rw [presence_eq]
  by_cases hf : ((s.tap i).configured && (s.node (i / 4 + 1)).tapCount.any fun c => decide (i % 4 < c)) = true
  · rw [if_pos hf]
    cases (s.node (i / 4 + 1)).state <;> simp [hf]
  · rw [if_neg hf]
    simp [hf]

theorem sizeOf_place (s : State) (set k : Fin 4) : sizeOf s set.val (k.val + 1) = s.pour.sizes[set][k] := by
  simp [sizeOf]

theorem sizeOf_above (s : State) (set : Nat) {k : Nat} (h : 4 < k) : (sizeOf s set k).target = 0 := by
  unfold sizeOf
  rw [if_neg (by omega)]
  split
  · rename_i z _
    rw [Vector.getElem?_eq_none (by omega)]
    rfl
  · rfl

/-- What R16 asks of a line. -/
abbrev Serves (l : Line) : Prop := (l.state = .serving ∨ l.state = .priming) ∧ l.chain ≠ [] ∧ l.mark = false
  ∧ l.holds.host = false ∧ l.holds.keg = false ∧ l.holds.temp = false ∧ l.holds.watch = false ∧ l.holds.overdue = false

theorem holds_eq_empty_iff (h : HoldSet) : h = HoldSet.empty ↔
    h.host = false ∧ h.keg = false ∧ h.temp = false ∧ h.watch = false ∧ h.overdue = false := by
  cases h
  simp [HoldSet.empty]

theorem servable_iff (l : Line) : servable l = true ↔ Serves l := by
  simp only [servable, Serves, Bool.and_eq_true, Bool.or_eq_true, decide_eq_true_eq, Bool.not_eq_true', List.isEmpty_eq_false_iff,
    holds_eq_empty_iff]
  tauto

theorem notServableReason_eq (l : Line) : notServableReason l = if l.state = .dry ∨ l.chain = [] then .dry else .notReady := by
  simp only [notServableReason, Bool.or_eq_true, decide_eq_true_eq, List.isEmpty_iff]

/-- No line outside the part serves. -/
theorem lt_of_serves {s : State} {n : Nat} (h : Serves (s.line n)) : n < 48 := by
  by_contra hn
  rw [State.line_of_ge (Nat.not_lt.mp hn)] at h
  exact absurd h.2.1 (by simp [coldLine])

/-! #### The checks in their order (R51) -/

/-- A list of checks asked one after another. -/
theorem find_check_cons (b : Bool) (r : Reason) (rest : List (Bool × Reason)) :
    (((b, r) :: rest).find? (·.1)).map (·.2) = if b = true then some r else (rest.find? (·.1)).map (·.2) := by
  cases b <;> rfl

section ask

variable {i z : Nat} {s : State}

/-- A refusal of a tap that is present and routed. -/
theorem askRefusal_routed {n : Nat} (hp : presence s i = .present) (hn : (s.tap i).route.line = some n) : askRefusal i z s =
    if !s.pour.barOpen.getLsbD (s.tap i).bar then some .closed
    else if (s.tap i).lockout then some .locked
    else if (s.tap i).watchBarred then some .barred
    else if !servable (s.line n) then some (notServableReason (s.line n))
    else if (s.tap i).pour.isSome then some .busy
    else if z = 0 && (s.tap i).route.portionOnly then some .portionOnly
    else if z = 0 && rationed (s.line n) then some .rationed
    else if z ≠ 0 && (sizeOf s (s.tap i).route.sizeSet z).target = 0 then some .noSize
    else none := by
  unfold askRefusal
  simp only [hp, ne_eq, not_true_eq_false, if_false, hn]

/-- An accepted ask is for a tap whose line serves. -/
theorem serves_of_askRefusal_none (h : askRefusal i z s = none) :
    ∃ n, (s.tap i).route.line = some n ∧ Serves (s.line n) := by
  obtain ⟨_, _, n, hn⟩ := idle_of_askRefusal_none h
  refine ⟨n, hn, ?_⟩
  by_contra hs
  have unserved : servable (s.line n) = false := by simpa [← servable_iff] using hs
  by_cases hp : presence s i = .present
  · rw [askRefusal_routed hp hn, unserved] at h
    simp only [Bool.not_false, if_true] at h
    repeat' split at h
    all_goals exact absurd h (by simp)
  · unfold askRefusal at h
    rw [if_pos hp] at h
    exact absurd h (by simp)

/-- The checks of R51 in their order, with the reason each gives; `n` is the tap's line. -/
def checksOf (i z n : Nat) (s : State) [Decidable (Serves (s.line n))] : List (Bool × Reason) :=
  [(!(((s.tap i).configured && (s.node (i / 4 + 1)).tapCount.any fun c => decide (i % 4 < c))
      && decide ((s.node (i / 4 + 1)).state = .present)), .offline),
    (decide ((s.tap i).route.line = none), .dark), (!s.pour.barOpen.getLsbD (s.tap i).bar, .closed), ((s.tap i).lockout, .locked),
    ((s.tap i).watchBarred, .barred),
    (decide (¬ Serves (s.line n)), if (s.line n).state = .dry ∨ (s.line n).chain = [] then .dry else .notReady),
    ((s.tap i).pour.isSome, .busy), (decide (z = 0) && (s.tap i).route.portionOnly, .portionOnly),
    (decide (z = 0 ∧ (s.line n).stock = .critical) && (s.line n).config.ration, .rationed),
    (decide (z ≠ 0) && decide ((sizeOf s (s.tap i).route.sizeSet z).target = 0), .noSize)]

theorem askRefusal_eq_checks {n : Nat} [Decidable (Serves (s.line n))] (hn : ∀ m, (s.tap i).route.line = some m → m = n) :
    askRefusal i z s = ((checksOf i z n s).find? (·.1)).map (·.2) := by
  have fit := presence_present_iff s i
  rw [← Bool.and_eq_true_iff.trans (and_congr_right' decide_eq_true_iff)] at fit
  simp only [checksOf, find_check_cons, List.find?_nil, Option.map_none]
  by_cases hp : presence s i = .present
  · rw [if_neg (by simpa using fit.mp hp)]
    by_cases hd : (s.tap i).route.line = none
    · unfold askRefusal
      simp only [hp, ne_eq, not_true_eq_false, if_false, hd, decide_true, if_true]
    · obtain ⟨m, hm⟩ := Option.ne_none_iff_exists'.mp hd
      obtain rfl := hn m hm
      have unserved : decide (¬ Serves (s.line m)) = !servable (s.line m) := by
        rw [Bool.eq_iff_iff, decide_eq_true_eq, ← servable_iff]
        simp
      rw [askRefusal_routed hp hm, notServableReason_eq, unserved]
      simp only [hd, decide_false, Bool.false_eq_true, if_false, rationed, Bool.decide_and, Bool.and_assoc] <;> rfl
  · rw [if_pos (Bool.not_eq_true' _ ▸ Bool.eq_false_iff.mpr (mt fit.mpr hp))]
    exact if_pos hp

end ask

/-! #### Items (R78) -/

theorem isRefuse_iff (it : Item) : it.isRefuse = true ↔ ∃ k reason, it = .refuse k reason := by
  cases it <;> simp [Item.isRefuse]

theorem enqueueItem_room {items : List QueuedItem} (it : Item) (h : items.length < 8) :
    enqueueItem it items = items ++ [{ item := it, carried := false }] := if_pos h

theorem enqueueItem_dropped {items : List QueuedItem} {it : Item} (h : 8 ≤ items.length) (hr : ∃ k reason, it = .refuse k reason) :
    enqueueItem it items = items := by
  have full : ¬ items.length < Config.itemPlaces := Nat.not_lt.mpr h
  rw [enqueueItem, if_neg full, if_pos ((isRefuse_iff it).mpr hr)]

theorem enqueueItem_displaces {before after : List QueuedItem} {x : QueuedItem} {it : Item} (h : 8 ≤ (before ++ x :: after).length)
    (hr : ¬ ∃ k reason, it = .refuse k reason) (hx : ∃ k reason, x.item = .refuse k reason)
    (hb : ∀ y ∈ before, ¬ ∃ k reason, y.item = .refuse k reason) :
    enqueueItem it (before ++ x :: after) = before ++ after ++ [{ item := it, carried := false }] := by
  have older : ∀ y ∈ before, y.item.isRefuse = false := fun y hy => by
    simpa using mt (isRefuse_iff y.item).mp (hb y hy)
  have full : ¬ (before ++ x :: after).length < Config.itemPlaces := Nat.not_lt.mpr h
  rw [enqueueItem, if_neg full, if_neg (mt (isRefuse_iff it).mp hr),
    dropOldestRefuse_append ((isRefuse_iff x.item).mpr hx) older]

/-- A queued item joins the list of its tap's node. -/
theorem queueItem_node {i : Nat} (hi : i < 128) (it : Item) (s : State) :
    (queueItem i it s).node (i / 4 + 1) = { s.node (i / 4 + 1) with items := enqueueItem it (s.node (i / 4 + 1)).items } :=
  State.node_setNode_self _ _ _ (by simp only [nodeOfTap]; omega)

theorem queueItem_node_ne {i b : Nat} (it : Item) (s : State) (h1 : 1 ≤ b) (hb : b ≠ i / 4 + 1) :
    (queueItem i it s).node b = s.node b := by
  rw [queueItem_eq, State.node_setNode, if_neg]
  simp only [nodeOfTap]
  omega

/-! #### The grant (R49, R52) -/

section grant

variable {i n z : Nat} {s : State}

/-- A grant: the tap's record, the line's count and the item. -/
theorem ask_granted (h : askRefusal i z s = none) (hn : (s.tap i).route.line = some n) : ask i z s = Machine.grant i n z s := by
  unfold ask
  rw [h]
  simp only [hn]

theorem ask_refused {reason : Reason} (h : askRefusal i z s = some reason) :
    ask i z s = queueItem i (.refuse (i % 4) reason) s := by
  unfold ask
  rw [h]
  rfl

theorem grant_tap (hi : i < 128) : (Machine.grant i n z s).tap i = { s.tap i with
    nextToken := ((s.tap i).nextToken + 1) % 256
    pour := some { phase := .granted, record := grantRecord i n z s } } :=
  State.tap_setTap_self _ _ _ hi

theorem grant_tap_ne {j : Nat} (h : j ≠ i) : (Machine.grant i n z s).tap j = s.tap j := State.tap_setTap_ne _ _ _ _ (Ne.symm h)

theorem grant_line (hn : n < 48) : (Machine.grant i n z s).line n = { s.line n with inFlight := (s.line n).inFlight + 1 } :=
  State.line_setLine_self _ _ _ hn

theorem grant_line_ne {m : Nat} (h : m ≠ n) : (Machine.grant i n z s).line m = s.line m := State.line_setLine_ne _ _ _ _ (Ne.symm h)

theorem grant_node (hi : i < 128) : (Machine.grant i n z s).node (i / 4 + 1) = { s.node (i / 4 + 1) with
    items := enqueueItem (.grant (i % 4) (s.tap i).nextToken (grantRecord i n z s).budget (grantRecord i n z s).maxSeconds)
      (s.node (i / 4 + 1)).items } :=
  queueItem_node hi _ _

theorem grant_frame : Machine.grant i n z s = { s with
    cellar := { s.cellar with lines := (Machine.grant i n z s).cellar.lines }
    pour := { s.pour with taps := (Machine.grant i n z s).pour.taps }
    bus := { s.bus with nodes := (Machine.grant i n z s).bus.nodes } } := rfl

end grant

/-- Settles O27: the checks are asked in turn, and a grant writes the tap, its line and its node's list. -/
theorem askAndGrant : Obligations.AskAndGrant := by
  intro i z s hi
  have line : ∀ m, (s.tap i).route.line = some m → m = (s.tap i).route.line.getD 0 := fun m hm => by rw [hm, Option.getD_some]
  refine ⟨@askRefusal_eq_checks i z s _ _ line, presence_eq s i, sizeOf_place s, fun set k hk => sizeOf_above s set hk, fun it items => ?_, fun it => ?_,
    fun reason => ask_refused, fun h => ?_⟩
  · refine ⟨enqueueItem_room it, enqueueItem_dropped, fun h8 hr before x after hsplit hx hb => ?_⟩
    subst hsplit
    exact enqueueItem_displaces h8 hr hx hb
  · exact ⟨queueItem_node hi it s, fun b h1 hb => queueItem_node_ne it s h1 hb, rfl⟩
  · obtain ⟨n, hn, serves⟩ := serves_of_askRefusal_none h
    have hn48 := lt_of_serves serves
    rw [ask_granted h hn, hn, Option.getD_some]
    refine ⟨(grant_tap hi).trans ?_, fun j hj => grant_tap_ne hj, grant_line hn48, fun m hm => grant_line_ne hm, ?_, grant_frame⟩
    · simp only [grantRecord, grantClass, creditedKeg]
      cases (s.line n).chain <;> rfl
    · exact grant_node hi

end Sys2Proof.Machine
end

section
/-! ### The watch table (O37, O38) -/

namespace Sys2Proof.Machine

open Sys2Proof Sys2Proof.Safety

/-! #### What a watch does to taps and lines (R116, R118) -/

/-- From `s` to `t` taps are barred or not as `bar` says and lines hold WATCH or not as `on` says; a change of a hold set is notified, and
beside the bars nothing else changes. -/
structure WatchEffect (bar on : Nat → Bool) (s t : State) : Prop where
  tap : ∀ i, i < 128 → t.tap i = { s.tap i with watchBarred := bar i }
  line : ∀ n, n < 48 → t.line n = { s.line n with holds := { (s.line n).holds with watch := on n } }
  pour : { t.pour with taps := s.pour.taps, barOpen := s.pour.barOpen } = s.pour
  told : HoldsNotified s t
  frame : t = { s with
    pour := t.pour, cellar := { s.cellar with lines := t.cellar.lines }, link := { s.link with notices := t.link.notices } }

namespace WatchEffect

theorem congr {bar on bar' on' : Nat → Bool} {s t : State} (h : WatchEffect bar on s t) (hb : ∀ i, bar' i = bar i)
    (ho : ∀ n, on' n = on n) : WatchEffect bar' on' s t := by
  rwa [funext hb, funext ho]

theorem acct {bar on : Nat → Bool} {s t : State} (h : WatchEffect bar on s t) : t.acct = s.acct := (congrArg State.acct h.frame).trans rfl

theorem of_lines {on : Nat → Bool} {s t : State}
    (line : ∀ n, n < 48 → t.line n = { s.line n with holds := { (s.line n).holds with watch := on n } })
    (frame : LinesOnly s t) (told : HoldsNotified s t) : WatchEffect (fun i => (s.tap i).watchBarred) on s t := by
  have pour : t.pour = s.pour := (congrArg State.pour frame).trans rfl
  refine ⟨fun i _ => by rw [State.tap_congr pour], line, by rw [pour], told, ?_⟩
  rw [pour]
  exact frame

theorem refl (s : State) : WatchEffect (fun i => (s.tap i).watchBarred) (fun n => (s.line n).holds.watch) s s :=
  of_lines (fun _ _ => rfl) (LinesOnly.refl s) fun _ _ => ⟨fun h => absurd rfl h, fun _ _ _ => Iff.rfl⟩

theorem of_tap (n : Nat) (b : Bool) (s : State) :
    WatchEffect (fun i => if n = i then b else (s.tap i).watchBarred) (fun m => (s.line m).holds.watch) s
      (s.modTap n fun t => { t with watchBarred := b }) := by
  refine ⟨fun i hi => ?_, fun _ _ => rfl, rfl, fun _ _ => ⟨fun h => absurd rfl h, fun _ _ _ => Iff.rfl⟩, rfl⟩
  rw [State.modTap_eq, State.tap_setTap]
  by_cases h : n = i
  · subst h
    simp only [hi, and_self, if_true]
  · simp only [h, false_and, if_false]

theorem of_bars (v : BitVec 16) (s : State) : WatchEffect (fun i => (s.tap i).watchBarred) (fun m => (s.line m).holds.watch) s
    { s with pour := { s.pour with barOpen := v } } :=
  ⟨fun _ _ => rfl, fun _ _ => rfl, rfl, fun _ _ => ⟨fun h => absurd rfl h, fun _ _ _ => Iff.rfl⟩, rfl⟩

end WatchEffect

/-! #### The WATCH cause of several lines (R15) -/

theorem changeHolds_self (n : Nat) (s : State) : changeHolds n (s.line n).holds s = s := if_pos rfl

/-- The WATCH cause set or cleared along the lines, but for those that `skip` names. -/
theorem watchHolds_along {f : State → Nat → State} {skip : Nat → Bool} {b : Bool} {s : State}
    (hf : ∀ u n, u.acct = s.acct → f u n = if skip n then u else setWatchHold n b u) (hh : ∀ u n, ∃ h, f u n = changeHolds n h u) :
    WatchEffect (fun i => (s.tap i).watchBarred) (fun n => if skip n then (s.line n).holds.watch else b) s ((List.range 48).foldl f s)
      ∧ NoticesOnly ((List.range 48).map .line) s ((List.range 48).foldl f s)
      ∧ ((List.range 48).foldl f s).pour = s.pour := by
  have only : ∀ u n, OnlyLine n u (f u n) := fun u n => by
    obtain ⟨h, hu⟩ := hh u n
    rw [hu]
    exact changeHolds_onlyLine n u h
  have quiet : ∀ u n, NoticesOnly [.line n] u (f u n) := fun u n => by
    obtain ⟨h, hu⟩ := hh u n
    rw [hu]
    exact changeHolds_quiet n u h
  obtain ⟨frame, -, -, turns⟩ := foldl_perLine only quiet (L := List.range 48) List.nodup_range s
  obtain ⟨-, told, notices⟩ := foldl_changeHolds_notified hh (l := List.range 48) List.nodup_range s
  refine ⟨WatchEffect.of_lines (fun n hn => ?_) frame told, notices, (congrArg State.pour frame).trans rfl⟩
  obtain ⟨u, found, before, -, left, -⟩ := turns n (List.mem_range.mpr hn)
  have acct : u.acct = s.acct := (congrArg State.acct before).trans rfl
  rw [left, hf u n acct]
  by_cases hc : skip n = true
  · rw [if_pos hc, found, if_pos hc]
  · rw [if_neg hc, setWatchHold, changeHolds_line _ _ _ hn, found, if_neg hc]

/-! #### Withdrawal (R118) -/

/-- The watch kinds whose effect lies on lines. -/
def WatchTarget.onLines : WatchTarget → Bool
  | .line _ => true
  | .all => true
  | .tap _ => false
  | .bar _ => false

theorem releaseLines_effect (s : State) :
    WatchEffect (fun i => (s.tap i).watchBarred) (fun n => (s.line n).holds.watch && (holdStands s (.line n) || holdStands s .all)) s
        (releaseLines s)
      ∧ NoticesOnly ((List.range 48).map .line) s (releaseLines s) ∧ (releaseLines s).pour = s.pour := by
  have along := watchHolds_along (f := fun s n => if holdStands s (.line n) || holdStands s .all then s else setWatchHold n false s)
    (skip := fun n => holdStands s (.line n) || holdStands s .all) (b := false) (s := s)
    (fun u n hu => by
      have stands : ∀ x, holdStands u x = holdStands s x := fun x => by simp only [holdStands, hu]
      rw [stands, stands])
    (fun u n => by
      by_cases h : (holdStands u (.line n) || holdStands u .all) = true
      · exact ⟨(u.line n).holds, by rw [if_pos h, changeHolds_self]⟩
      · exact ⟨_, if_neg h⟩)
  refine ⟨along.1.congr (fun _ => rfl) fun n => ?_, along.2⟩
  cases holdStands s (.line n) || holdStands s .all <;> simp

theorem withdrawHold_effect (x : WatchTarget) (s : State) :
    WatchEffect (fun i => (s.tap i).watchBarred && !decide (x = .tap i ∧ holdStands s (.tap i) = false))
        (fun n => if x.onLines then (s.line n).holds.watch && (holdStands s (.line n) || holdStands s .all)
          else (s.line n).holds.watch) s (withdrawHold x s)
      ∧ NoticesOnly ((List.range 48).map .line) s (withdrawHold x s)
      ∧ (withdrawHold x s).pour.barOpen = s.pour.barOpen := by
  cases x with
  | tap n =>
    by_cases h : holdStands s (.tap n) = true
    · have same : withdrawHold (.tap n) s = s := if_pos h
      rw [same]
      refine ⟨(WatchEffect.refl s).congr (fun i => ?_) fun _ => rfl, noticesOnly_refl _ s, rfl⟩
      have idle : ¬ (WatchTarget.tap n = .tap i ∧ holdStands s (.tap i) = false) := by
        rintro ⟨hx, hs⟩
        rw [← hx, h] at hs
        exact absurd hs (by simp)
      rw [decide_eq_false idle, Bool.not_false, Bool.and_true]
    · have lifted : withdrawHold (.tap n) s = s.modTap n fun t => { t with watchBarred := false } := if_neg h
      rw [lifted]
      refine ⟨(WatchEffect.of_tap n false s).congr (fun i => ?_) fun _ => rfl, noticesOnly_refl _ s, rfl⟩
      by_cases hi : n = i
      · subst hi
        simp [h]
      · simp [hi]
  | line n =>
    obtain ⟨effect, only, pour⟩ := releaseLines_effect s
    rw [show withdrawHold (.line n) s = releaseLines s from rfl, pour]
    exact ⟨effect.congr (fun i => by simp) fun _ => rfl, only, rfl⟩
  | bar n => exact ⟨(WatchEffect.refl s).congr (fun i => by simp) fun _ => rfl, noticesOnly_refl _ s, rfl⟩
  | all =>
    obtain ⟨effect, only, pour⟩ := releaseLines_effect s
    rw [show withdrawHold (.all) s = releaseLines s from rfl, pour]
    exact ⟨effect.congr (fun i => by simp) fun _ => rfl, only, rfl⟩

/-! #### Application (R116) -/

theorem barBit_getLsbD (n : Nat) {b : Nat} (hb : b < 16) : (barBit n).getLsbD b = decide (n = b) := by
  rw [barBit, BitVec.getLsbD_ofNat, Nat.testBit_two_pow, decide_eq_true hb, Bool.true_and]

/-- The tripping entry with action HOLD changes no bar but its own. -/
def barsAfter (x : WatchTarget) (v : BitVec 16) : BitVec 16 :=
  match x with
  | .bar n => v &&& ~~~ barBit n
  | _ => v

theorem barsAfter_getLsbD (x : WatchTarget) (v : BitVec 16) {b : Nat} (hb : b < 16) :
    (barsAfter x v).getLsbD b = (v.getLsbD b && !decide (x = .bar b)) := by
  cases x with
  | bar n => rw [barsAfter, BitVec.getLsbD_and, BitVec.getLsbD_not, barBit_getLsbD n hb, decide_eq_true hb, Bool.true_and]; simp
  | _ => simp [barsAfter]

theorem applyHold_effect (x : WatchTarget) (s : State) :
    WatchEffect (fun i => (s.tap i).watchBarred || decide (x = .tap i))
        (fun n => (s.line n).holds.watch || decide (x = .line n ∨ x = .all)) s (applyHold x s)
      ∧ (∀ y : Notice, (∀ n, y.key ≠ .line n) → (y ∈ (applyHold x s).link.notices ↔ y ∈ s.link.notices))
      ∧ (applyHold x s).pour.barOpen = barsAfter x s.pour.barOpen := by
  cases x with
  | tap n =>
    refine ⟨(WatchEffect.of_tap n true s).congr (fun i => ?_) fun m => by simp, fun _ _ => Iff.rfl, rfl⟩
    by_cases hi : n = i <;> simp [hi]
  | line n =>
    have only := changeHolds_onlyLine n s { (s.line n).holds with watch := true }
    obtain ⟨told, quiet⟩ := changeHolds_notified n { (s.line n).holds with watch := true } s
    refine ⟨(WatchEffect.of_lines (on := fun m => (s.line m).holds.watch || decide (n = m)) (fun m hm => ?_)
      (linesOnly_of_onlyLine only) told).congr (fun i => by simp) fun m => by simp, fun y hy => quiet y (by simpa using hy n),
      congrArg (·.barOpen) only.2.1⟩
    by_cases hmn : n = m
    · subst hmn
      rw [changeHolds_line _ _ _ hm, decide_eq_true rfl, Bool.or_true]
    · rw [only.1.1 m (Ne.symm hmn), decide_eq_false hmn, Bool.or_false]
  | bar n => exact ⟨(WatchEffect.of_bars _ s).congr (fun i => by simp) fun m => by simp, fun _ _ => Iff.rfl, rfl⟩
  | all =>
    obtain ⟨effect, only, pour⟩ := watchHolds_along (f := fun s n => setWatchHold n true s) (skip := fun _ => false) (b := true) (s := s)
      (fun _ _ _ => rfl) fun u n => ⟨_, rfl⟩
    rw [show applyHold .all s = (List.range 48).foldl (fun s n => setWatchHold n true s) s from rfl, pour]
    refine ⟨effect.congr (fun i => by simp) fun n => by simp, fun y hy => only y ?_, rfl⟩
    simp only [List.mem_map, not_exists, not_and]
    exact fun n _ h => hy n h.symm

end Sys2Proof.Machine
end

section
/-! ### The visit of a watch and the watch requests (O38, O37) -/

namespace Sys2Proof.Machine

open Sys2Proof Sys2Proof.Safety

/-! #### The visit (R114, R115) -/

theorem takeRecord_frame (b : RecordBody) (s : State) : takeRecord b s = { s with
    acct := (takeRecord b s).acct, link := { s.link with notices := (takeRecord b s).link.notices } } := by
  unfold takeRecord storeRecord noteHigh noteFull
  repeat' split
  all_goals rfl

theorem noteHigh_acct (s : State) : (noteHigh s).acct = { s.acct with highNoted := (noteHigh s).acct.highNoted } := by
  unfold noteHigh
  split <;> rfl

theorem noteFull_acct (s : State) : (noteFull s).acct = { s.acct with fullNoted := (noteFull s).acct.fullNoted } := by
  unfold noteFull
  split <;> rfl

theorem takeRecord_stored {b : RecordBody} {s : State} (h : s.acct.stores b = true) : (takeRecord b s).acct = { s.acct with
    journal := s.acct.journal ++ [s.recordOf b], nextSeq := s.acct.nextSeq + 1
    pourPurge := if b.isPourPurge then s.acct.pourPurge + 1 else s.acct.pourPurge
    highNoted := (takeRecord b s).acct.highNoted } := by
  rw [takeRecord, if_pos h]
  exact noteHigh_acct _

theorem takeRecord_unstored {b : RecordBody} {s : State} (h : ¬ s.acct.stores b = true) : (takeRecord b s).acct
    = { s.acct.countUnstored b with fullNoted := (takeRecord b s).acct.fullNoted } := by
  rw [takeRecord, if_neg h]
  exact noteFull_acct _

theorem takeRecord_watches (b : RecordBody) (s : State) : (takeRecord b s).acct.watches = s.acct.watches := by
  have counted : (s.acct.countUnstored b).watches = s.acct.watches := by cases b <;> rfl
  by_cases h : s.acct.stores b = true
  · rw [takeRecord_stored h]
  · rw [takeRecord_unstored h]
    exact counted

/-- The target of a watch matches a POUR record (R114). -/
def TargetHits (s : State) (r : PourRecord) (x : WatchTarget) : Prop :=
  match x with
  | .tap n => r.tap = n
  | .line n => r.line = n
  | .bar n => (s.tap r.tap).bar = n
  | .all => True

/-- The condition of a watch matches a POUR record (R114). -/
def ConditionHits (r : PourRecord) (threshold : Nat) (c : WatchCondition) : Prop :=
  match c with
  | .anyPour => True
  | .volumeOver => threshold < r.volume
  | .warm => r.flags.warm = true
  | .foamy => r.flags.foamy = true
  | .shortOrOver => r.flags.short = true ∨ r.flags.overTarget = true

theorem targetMatches_iff (s : State) (r : PourRecord) (x : WatchTarget) : targetMatches s r x = true ↔ TargetHits s r x := by
  cases x <;> simp [targetMatches, TargetHits]

theorem conditionMatches_iff (r : PourRecord) (threshold : Nat) (c : WatchCondition) :
    conditionMatches r threshold c = true ↔ ConditionHits r threshold c := by
  cases c <;> simp [conditionMatches, ConditionHits]

section visit

variable {r : PourRecord} {seq : Option Nat} {w : Nat} {s : State}

/-- The entry matches the record. -/
def WatchHits (r : PourRecord) (w : Nat) (s : State) : Prop :=
  TargetHits s r (s.watch w).target ∧ ConditionHits r (s.watch w).threshold (s.watch w).condition

theorem visitWatch_missed (h : ¬ WatchHits r w s) : visitWatch r seq w s = s := by
  refine if_neg ?_
  rw [Bool.and_eq_true, targetMatches_iff, conditionMatches_iff]
  exact h

theorem visitWatch_hit (h : WatchHits r w s) : ((s.watch w).state = .off → visitWatch r seq w s = s)
    ∧ ((s.watch w).state = .armed → visitWatch r seq w s = tripWatch w seq s)
    ∧ ((s.watch w).state = .tripped →
        visitWatch r seq w s = s.setWatch w { s.watch w with count := min 4294967295 ((s.watch w).count + 1) }) := by
  have hits : (targetMatches s r (s.watch w).target && conditionMatches r (s.watch w).threshold (s.watch w).condition) = true := by
    rw [Bool.and_eq_true, targetMatches_iff, conditionMatches_iff]
    exact h
  unfold visitWatch
  rw [if_pos hits]
  split
  · rename_i hs
    simp [hs]
  · rename_i hs
    simp [hs]
  · rename_i hs
    exact ⟨fun h => absurd (hs.symm.trans h) (by decide), fun h => absurd (hs.symm.trans h) (by decide), fun _ => rfl⟩

/-- The entry tripped, its record taken and its notice posted; the action comes after. -/
def watchNoted (w : Nat) (seq : Option Nat) (s : State) : State :=
  post (.watch w) .watchTripped
    (takeRecord (.watch w (s.watch w).target (s.watch w).condition (s.watch w).threshold seq)
      (s.setWatch w { s.watch w with state := .tripped, count := 1 }))

theorem tripWatch_eq : tripWatch w seq s =
    if (s.watch w).action = .hold then applyHold (s.watch w).target (watchNoted w seq s) else watchNoted w seq s := rfl

theorem watchNoted_frame : watchNoted w seq s = { s with
    acct := (watchNoted w seq s).acct, link := { s.link with notices := (watchNoted w seq s).link.notices } } := by
  have taken := takeRecord_frame (.watch w (s.watch w).target (s.watch w).condition (s.watch w).threshold seq)
    (s.setWatch w { s.watch w with state := .tripped, count := 1 })
  unfold watchNoted
  rw [taken]
  rfl

theorem watchNoted_cellar : (watchNoted w seq s).cellar = s.cellar := (congrArg State.cellar watchNoted_frame).trans rfl

theorem watchNoted_pour : (watchNoted w seq s).pour = s.pour := (congrArg State.pour watchNoted_frame).trans rfl

theorem watchNoted_watch (hw : w < 8) : (watchNoted w seq s).watch w = { s.watch w with state := .tripped, count := 1 } := by
  have watches : (watchNoted w seq s).acct.watches = (s.setWatch w { s.watch w with state := .tripped, count := 1 }).acct.watches :=
    takeRecord_watches _ _
  rw [State.watch, watches]
  exact State.watch_setWatch_self _ _ _ hw

theorem watchNoted_quiet : NoticesOnly [.watch w, .journal] s (watchNoted w seq s) :=
  noticesOnly_trans (noticesOnly_mono (takeRecord_quiet (s.setWatch w _) _) (by simp)) (noticesOnly_mono (post_quiet _ _ _) (by simp))

/-- An armed entry that trips: record, notice and action (R115, R116). -/
theorem tripWatch_effect : WatchEffect
      (fun i => (s.tap i).watchBarred || decide ((s.watch w).action = .hold ∧ (s.watch w).target = .tap i))
      (fun n => (s.line n).holds.watch
        || decide ((s.watch w).action = .hold ∧ ((s.watch w).target = .line n ∨ (s.watch w).target = .all)))
      (watchNoted w seq s) (tripWatch w seq s)
    ∧ (∀ y : Notice, (∀ n, y.key ≠ .line n) → (y ∈ (tripWatch w seq s).link.notices ↔ y ∈ (watchNoted w seq s).link.notices))
    ∧ ∀ b, b < 16 → (tripWatch w seq s).pour.barOpen.getLsbD b
        = (s.pour.barOpen.getLsbD b && !decide ((s.watch w).action = .hold ∧ (s.watch w).target = .bar b)) := by
  have tap : ∀ i, (watchNoted w seq s).tap i = s.tap i := State.tap_congr watchNoted_pour
  have line : ∀ n, (watchNoted w seq s).line n = s.line n := State.line_congr watchNoted_cellar
  rw [tripWatch_eq]
  by_cases hold : (s.watch w).action = .hold
  · obtain ⟨effect, quiet, bars⟩ := applyHold_effect (s.watch w).target (watchNoted w seq s)
    rw [if_pos hold]
    refine ⟨effect.congr (fun i => ?_) fun n => ?_, quiet, fun b hb => ?_⟩
    · simp only [tap, hold, true_and]
    · simp only [line, hold, true_and]
    · rw [bars, barsAfter_getLsbD _ _ hb, watchNoted_pour]
      simp only [hold, true_and]
  · rw [if_neg hold]
    refine ⟨(WatchEffect.refl _).congr (fun i => ?_) fun n => ?_, fun _ _ => Iff.rfl, fun b _ => ?_⟩
    · simp only [tap, hold, false_and, decide_false, Bool.or_false]
    · simp only [line, hold, false_and, decide_false, Bool.or_false]
    · rw [watchNoted_pour]
      simp only [hold, false_and, decide_false, Bool.not_false, Bool.and_true]

end visit

/-- Settles O38: a visit ignores, counts or trips. -/
theorem watchVisit : Obligations.WatchVisit := by
  intro r seq w s hw
  refine ⟨fun h => ?_, fun hs hh => ?_, fun hs hh => ?_⟩
  · by_cases hh : WatchHits r w s
    · have off : (s.watch w).state = .off := h.resolve_right (not_not_intro hh)
      exact (visitWatch_hit hh).1 off
    · exact visitWatch_missed hh
  · have hits : WatchHits r w s := hh
    exact (visitWatch_hit hits).2.2 hs
  · have hits : WatchHits r w s := hh
    have trip : visitWatch r seq w s = tripWatch w seq s := (visitWatch_hit hits).2.1 hs
    obtain ⟨effect, quiet, bars⟩ := tripWatch_effect (w := w) (seq := seq) (s := s)
    have tap : ∀ i, (watchNoted w seq s).tap i = s.tap i := State.tap_congr watchNoted_pour
    have line : ∀ n, (watchNoted w seq s).line n = s.line n := State.line_congr watchNoted_cellar
    rw [trip]
    refine ⟨effect.acct, ?_, (quiet _ (by simp)).mpr (mem_post _ _ _), fun n hn => ?_, fun x hx hl => ?_, fun i hi => ?_, fun n hn => ?_,
      bars, ?_, ?_⟩
    · rw [State.watch, effect.acct]
      exact watchNoted_watch hw
    · obtain ⟨changed, same⟩ := effect.told n hn
      rw [line] at changed same
      exact ⟨changed, fun h x hx => (same h x hx).trans (watchNoted_quiet x (by simp [hx]))⟩
    · exact (quiet x hl).trans (post_quiet (.watch w) .watchTripped _ x (by simpa using hx))
    · rw [effect.tap i hi, tap]
    · rw [effect.line n hn, line]
    · have pour := effect.pour
      rwa [watchNoted_pour] at pour
    · have noted := watchNoted_frame (w := w) (seq := seq) (s := s)
      have acct := effect.acct
      have frame := effect.frame
      rw [acct]
      rw [noted] at frame
      exact frame

/-! #### WATCH SET and WATCH CLEAR (R113, R118) -/

theorem holdStands_eq (s : State) (x : WatchTarget) : holdStands s x = (List.range 8).any fun v =>
    (s.watch v).state = .tripped && (s.watch v).action = .hold && (s.watch v).target = x := by
  rw [Bool.eq_iff_iff, holdStands, Vector.any_eq_true, List.any_eq_true]
  have entry : ∀ v (hv : v < 8), s.acct.watches[v] = s.watch v := fun v hv => by simp [State.watch, hv]
  constructor
  · rintro ⟨v, hv, h⟩
    exact ⟨v, List.mem_range.mpr hv, by rwa [entry] at h⟩
  · rintro ⟨v, hv, h⟩
    exact ⟨v, List.mem_range.mp hv, by rwa [entry]⟩

section replace

variable {w : Nat} {e : Watch} {s : State}

/-- Another entry than `w` keeps the effect on `x` standing. -/
def othersStand (w : Nat) (s : State) (x : WatchTarget) : Bool := (List.range 8).any fun v =>
  v ≠ w && (s.watch v).state = .tripped && (s.watch v).action = .hold && (s.watch v).target = x

/-- The part with entry `w` OFF, as an effect of it is withdrawn. -/
def watchOff (w : Nat) (s : State) : State := s.setWatch w { s.watch w with state := .off }

theorem holdStands_watchOff (hw : w < 8) (x : WatchTarget) : holdStands (watchOff w s) x = othersStand w s x := by
  rw [holdStands_eq, othersStand]
  refine congrArg (List.any (List.range 8)) (funext fun v => ?_)
  by_cases h : v = w
  · subst h
    simp [watchOff, hw]
  · simp [watchOff, Ne.symm h, h]

/-- The entry's effect stands and is to be withdrawn. -/
abbrev Lifts (w : Nat) (s : State) : Prop := (s.watch w).state = .tripped ∧ (s.watch w).action = .hold

/-- The part with the effects of entry `w` withdrawn. -/
def watchLifted (w : Nat) (s : State) : State :=
  if (s.watch w).state = .tripped && (s.watch w).action = .hold then withdrawHold (s.watch w).target (watchOff w s) else watchOff w s

theorem replaceWatch_eq : replaceWatch w e s = (watchLifted w s).setWatch w e := rfl

theorem watchLifted_effect (hw : w < 8) : WatchEffect
      (fun i => (s.tap i).watchBarred && !decide (Lifts w s ∧ (s.watch w).target = .tap i ∧ othersStand w s (.tap i) = false))
      (fun n => if Lifts w s ∧ (s.watch w).target.onLines = true
        then (s.line n).holds.watch && (othersStand w s (.line n) || othersStand w s .all) else (s.line n).holds.watch)
      (watchOff w s) (watchLifted w s)
    ∧ NoticesOnly ((List.range 48).map .line) (watchOff w s) (watchLifted w s)
    ∧ (watchLifted w s).pour.barOpen = s.pour.barOpen := by
  by_cases hl : Lifts w s
  · have lifted : watchLifted w s = withdrawHold (s.watch w).target (watchOff w s) := if_pos (by simpa using hl)
    obtain ⟨effect, only, bars⟩ := withdrawHold_effect (s.watch w).target (watchOff w s)
    rw [lifted]
    refine ⟨effect.congr (fun i => ?_) fun n => ?_, only, bars⟩
    · rw [holdStands_watchOff hw, decide_eq_decide.mpr (and_iff_right hl)]
      rfl
    · rw [holdStands_watchOff hw, holdStands_watchOff hw]
      simp only [and_iff_right hl]
      rfl
  · have kept : watchLifted w s = watchOff w s := if_neg (by simpa using hl)
    rw [kept]
    refine ⟨(WatchEffect.refl _).congr (fun i => ?_) fun n => ?_, noticesOnly_refl _ _, rfl⟩
    · simp only [hl, false_and, decide_false, Bool.not_false, Bool.and_true]
      rfl
    · simp only [hl, false_and, if_false]
      rfl

theorem replaceWatch_acct (hw : w < 8) : (replaceWatch w e s).acct = { s.acct with watches := s.acct.watches.setIfInBounds w e } := by
  have acct := (watchLifted_effect (s := s) hw).1.acct
  rw [replaceWatch_eq, State.setWatch, acct]
  simp [watchOff, State.setWatch]

end replace

/-! #### The codes of an entry (R113, section 11.3) -/

theorem watchTargetOf_eq (k n : Nat) : watchTargetOf k n =
    if k = 0 ∧ n ≤ 127 then some (.tap n)
    else if k = 1 ∧ n ≤ 47 then some (.line n)
    else if k = 2 ∧ n ≤ 15 then some (.bar n)
    else if k = 3 then some .all else none := by
  rcases k with _ | _ | _ | _ | k
  · by_cases h : 127 < n <;> simp [watchTargetOf, h, Nat.not_le.mpr, Nat.not_lt.mp]
  · by_cases h : 47 < n <;> simp [watchTargetOf, h, Nat.not_le.mpr, Nat.not_lt.mp]
  · by_cases h : 15 < n <;> simp [watchTargetOf, h, Nat.not_le.mpr, Nat.not_lt.mp]
  · simp [watchTargetOf]
  · simp [watchTargetOf]

theorem watchConditionOf_eq (c : Nat) :
    watchConditionOf c = [WatchCondition.anyPour, .volumeOver, .warm, .foamy, .shortOrOver][c]? := by
  rcases c with _ | _ | _ | _ | _ | c <;> rfl

theorem watchActionOf_eq (a : Nat) : watchActionOf a = [WatchAction.note, .hold][a]? := by
  rcases a with _ | _ | a <;> rfl

theorem watchOf_accepted {e : WatchEntry} {x : WatchTarget} {c : WatchCondition} {a : WatchAction} (hx : watchTargetOf e.targetKind
    e.targetNumber = some x) (hc : watchConditionOf e.condition = some c) (ha : watchActionOf e.action = some a)
    (ht : e.threshold ≤ 3947400) :
    watchOf e = some { target := x, condition := c, threshold := e.threshold, action := a, state := .armed, count := 0 } := by
  unfold watchOf
  simp only [hx, hc, ha]
  exact if_neg (Nat.not_lt.mpr ht)

theorem watchOf_refused {e : WatchEntry} (h : 3947400 < e.threshold ∨ watchTargetOf e.targetKind e.targetNumber = none
    ∨ watchConditionOf e.condition = none ∨ watchActionOf e.action = none) : watchOf e = none := by
  unfold watchOf
  split
  · rename_i x c a hx hc ha
    simp only [hx, hc, ha, reduceCtorEq, or_false] at h
    exact if_pos h
  · rfl

/-- Tap `i` stays barred as entry `w` is replaced. -/
def barKept (w : Nat) (s : State) (i : Nat) : Bool :=
  (s.tap i).watchBarred && !decide (Lifts w s ∧ (s.watch w).target = .tap i ∧ othersStand w s (.tap i) = false)

/-- Line `n` keeps its WATCH cause as entry `w` is replaced. -/
def watchKept (w : Nat) (s : State) (n : Nat) : Bool :=
  if Lifts w s ∧ (s.watch w).target.onLines = true then (s.line n).holds.watch && (othersStand w s (.line n) || othersStand w s .all)
  else (s.line n).holds.watch

/-- From `s` to `t` entry `w` is written with the value `e` (R113, R118). -/
def WatchWritten (w : Nat) (e : Watch) (s t : State) : Prop :=
  t.acct = { s.acct with watches := s.acct.watches.setIfInBounds w e }
    ∧ (∀ i, i < 128 → t.tap i = { s.tap i with watchBarred := barKept w s i })
    ∧ (∀ n, n < 48 → t.line n = { s.line n with holds := { (s.line n).holds with watch := watchKept w s n } })
    ∧ { t.pour with taps := s.pour.taps } = s.pour
    ∧ HoldsNotified s t ∧ NoticesOnly ((List.range 48).map .line) s t
    ∧ t = { s with
        acct := t.acct, pour := t.pour, cellar := { s.cellar with lines := t.cellar.lines }
        link := { s.link with notices := t.link.notices } }

theorem replaceWatch_written {w : Nat} (hw : w < 8) (e : Watch) (s : State) : WatchWritten w e s (replaceWatch w e s) := by
  obtain ⟨effect, only, bars⟩ := watchLifted_effect (s := s) hw
  refine ⟨replaceWatch_acct hw, effect.tap, effect.line, ?_, effect.told, only, ?_⟩
  · have open_bars : { (watchLifted w s).pour with taps := s.pour.taps }
        = { (watchLifted w s).pour with taps := s.pour.taps, barOpen := s.pour.barOpen } := by rw [← bars]
    exact open_bars.trans effect.pour
  · have frame := effect.frame
    rw [replaceWatch_eq]
    generalize watchLifted w s = u at frame
    rw [frame]
    rfl

/-- A request that writes entry `w`. -/
theorem exec_writes {i : Instr} {k : RequestKind} {tag : Byte} {f : State → Decision} {w : Nat} {e : Watch} {s : State} (h : Ready s)
    (hx : exec i s = .next (request k tag f s)) (hf : f (hunting s) = acceptWith (.watch e) (replaceWatch w e (hunting s))) (hw : w ≤ 7) :
    ∃ t, exec i s = .next (replied k tag .ok (.watch e) t) ∧ WatchWritten w e (hunting s) t :=
  ⟨replaceWatch w e (hunting s),
    exec_accepted h hx hf (congrArg (·.window) (replaceWatch_acct (e := e) (s := hunting s) (Nat.lt_succ_of_le hw))),
    replaceWatch_written (Nat.lt_succ_of_le hw) e (hunting s)⟩

/-- Settles O37: the owner's checks, then the entry's effects are withdrawn and the entry is written. -/
theorem watchRequests : Obligations.WatchRequests := by
  intro tag w s h old stands lifts onLines written target condition action
  have writes : ∀ {i : Instr} {k : RequestKind} {f : State → Decision} {e : Watch}, exec i s = .next (request k tag f s) →
      f (hunting s) = acceptWith (.watch e) (replaceWatch w e (hunting s)) → w ≤ 7 → written k e i := fun hx hf hw =>
    exec_writes h hx hf hw
  refine ⟨fun e hw ht x c a hx hc ha => writes rfl ?_ hw, fun e hbad => exec_refused h rfl ?_, fun hw => writes rfl ?_ hw,
    fun hw => ⟨exec_refused h rfl (if_pos hw), exec_refused h rfl (if_pos hw)⟩,
    fun hw => exec_accepted h rfl (if_neg (Nat.not_lt.mpr hw)) rfl, exec_accepted h rfl rfl rfl⟩
  · have entry := watchOf_accepted (e := e) ((watchTargetOf_eq _ _).trans hx) ((watchConditionOf_eq _).trans hc)
      ((watchActionOf_eq _).trans ha) ht
    rw [decideWatchSet, if_neg (Nat.not_lt.mpr hw)]
    simp only [entry]
  · rw [decideWatchSet]
    split
    · rfl
    · rename_i hw
      have entry : watchOf e = none := watchOf_refused (by
        rw [watchTargetOf_eq, watchConditionOf_eq, watchActionOf_eq]
        exact hbad.resolve_left hw)
      simp only [entry]
  · exact if_neg (Nat.not_lt.mpr hw)

end Sys2Proof.Machine
end

section
/-! ### The allocation, the timers and the stage inputs of cooling (O42) -/

namespace Sys2Proof.Machine

open Sys2Proof Sys2Proof.Safety

/-! #### The allocation (R134) -/

section allocation

variable {ts : List Trunk} {capacity k : Nat}

/-- The trunks of one class. -/
def trunksOf (ts : List Trunk) (k : Nat) : List Trunk := ts.filter fun t => t.allocCls = k

/-- What the trunks of one class are given. -/
def classShare (ts : List Trunk) (capacity k : Nat) : Nat :=
  ((trunksOf ts k).map fun t => shareOf t.demand (classTotal ts k) (remainingFor ts capacity k)).sum

/-- Shares rounded down add up to at most what is shared out. -/
theorem sum_shares_le (L : List Trunk) (r total : Nat) :
    (L.map fun t => t.demand * r / total).sum ≤ (L.map (·.demand)).sum * r / total := by
  induction L with
  | nil => simp
  | cons t L ih =>
    simp only [List.map_cons, List.sum_cons, Nat.add_mul]
    exact (Nat.add_le_add_left ih _).trans Nat.div_add_div_le_add_div

/-- A class that fits has its demands. -/
theorem classShare_of_fits (h : classTotal ts k ≤ remainingFor ts capacity k) : classShare ts capacity k = classTotal ts k := by
  simp only [classShare, shareOf, if_pos h]
  rfl

/-- No class is given more than what is left for it. -/
theorem classShare_le (ts : List Trunk) (capacity k : Nat) : classShare ts capacity k ≤ remainingFor ts capacity k := by
  by_cases h : classTotal ts k ≤ remainingFor ts capacity k
  · rw [classShare_of_fits h]
    exact h
  · simp only [classShare, shareOf, if_neg h]
    refine (sum_shares_le _ _ _).trans ?_
    show classTotal ts k * _ / classTotal ts k ≤ _
    rw [Nat.mul_div_cancel_left _ (by omega)]

/-- Three classes together are given at most the capacity. -/
theorem classShares_le (ts : List Trunk) (capacity : Nat) :
    classShare ts capacity 1 + classShare ts capacity 2 + classShare ts capacity 3 ≤ capacity := by
  have first := classShare_le ts capacity 1
  have second := classShare_le ts capacity 2
  have third := classShare_le ts capacity 3
  have fits1 := classShare_of_fits (ts := ts) (capacity := capacity) (k := 1)
  have fits2 := classShare_of_fits (ts := ts) (capacity := capacity) (k := 2)
  have left1 : remainingFor ts capacity 1 = capacity := rfl
  have left2 : remainingFor ts capacity 2 = leaveOf capacity (classTotal ts 1) := rfl
  have left3 : remainingFor ts capacity 3 = leaveOf (leaveOf capacity (classTotal ts 1)) (classTotal ts 2) := rfl
  rw [left1] at first fits1
  rw [left2] at second fits2
  rw [left3] at third
  unfold leaveOf at second third fits2
  split at second
  · rename_i h1
    rw [if_pos h1] at third fits2
    have := fits1 h1
    split at third
    · rename_i h2
      have := fits2 h2
      omega
    · omega
  · rename_i h1
    rw [if_neg h1] at third
    have : (if classTotal ts 2 ≤ 0 then 0 - classTotal ts 2 else 0) = 0 := by split <;> omega
    omega

/-- A sum over trunks of the classes 1 to 3 is the sum of the sums over each class. -/
theorem sum_by_class (f : Trunk → Nat) (h : ∀ t ∈ ts, 1 ≤ t.allocCls ∧ t.allocCls ≤ 3) :
    (ts.map f).sum = ((trunksOf ts 1).map f).sum + ((trunksOf ts 2).map f).sum + ((trunksOf ts 3).map f).sum := by
  induction ts with
  | nil => rfl
  | cons t L ih =>
    have rest := ih fun u hu => h u (List.mem_cons_of_mem _ hu)
    obtain ⟨low, high⟩ := h t List.mem_cons_self
    have cls : t.allocCls = 1 ∨ t.allocCls = 2 ∨ t.allocCls = 3 := by omega
    rcases cls with hc | hc | hc <;> simp [trunksOf, hc] at rest ⊢ <;> omega

theorem sum_allocations_le (h : ∀ t ∈ ts, 1 ≤ t.allocCls ∧ t.allocCls ≤ 3) : (ts.map (allocationOf ts capacity)).sum ≤ capacity := by
  by_cases hs : (ts.map (·.demand)).sum ≤ capacity
  · have whole : ts.map (allocationOf ts capacity) = ts.map (·.demand) := List.map_congr_left fun t _ => if_pos hs
    rw [whole]
    exact hs
  · have share : ∀ k, ((trunksOf ts k).map (allocationOf ts capacity)).sum = classShare ts capacity k := fun k => by
      refine congrArg List.sum (List.map_congr_left fun t ht => ?_)
      have cls : t.allocCls = k := by simpa [trunksOf] using (List.mem_filter.mp ht).2
      rw [allocationOf, if_neg hs, cls]
    rw [sum_by_class _ h, share, share, share]
    exact classShares_le ts capacity

end allocation

theorem allocate_trunk (s : State) {n : Nat} (hn : n < 12) : (allocate s).trunk n
    = { s.trunk n with allocation := allocationOf s.cool.trunks.toList s.cool.capacityNow (s.trunk n) } := by
  simp [allocate, State.trunk, hn]

theorem allocate_sum_le (s : State) (h : ∀ t ∈ s.cool.trunks.toList, 1 ≤ t.allocCls ∧ t.allocCls ≤ 3) :
    ((allocate s).cool.trunks.toList.map (·.allocation)).sum ≤ s.cool.capacityNow := by
  have same : (allocate s).cool.trunks.toList.map (·.allocation)
      = s.cool.trunks.toList.map (allocationOf s.cool.trunks.toList s.cool.capacityNow) := by
    rw [allocate, Vector.toList_map, List.map_map]
    rfl
  rw [same]
  exact sum_allocations_le h

/-! #### The duty window (R135) -/

theorem transmit_cool (s : State) : (transmit s).cool = s.cool := by
  obtain ⟨l, h⟩ := transmit_eq_setLink s
  rw [h]
  rfl

theorem transmit_takesEvents (s : State) : (transmit s).takesEvents = s.takesEvents := by
  obtain ⟨l, h⟩ := transmit_eq_setLink s
  rw [h]
  rfl

theorem trunkValve_transmit (s : State) (n : Nat) : trunkValve (transmit s) n = trunkValve s n := by
  simp only [trunkValve, State.trunk, transmit_takesEvents, transmit_cool]

theorem stageOutput_transmit (s : State) (i : Nat) : stageOutput (transmit s) i = stageOutput s i := by
  simp only [stageOutput, State.stage, transmit_takesEvents, transmit_cool]

/-- A trunk that takes its duty at the start of a window. -/
def Trunk.windowed (t : Trunk) : Trunk := { t with dutyInForce := t.allocation, valveOpen := decide (t.allocation ≠ 0) }

theorem dutyWindow_eq (s : State) :
    dutyWindow s = { s with cool := { s.cool with dutyTimer := 0, trunks := s.cool.trunks.map Trunk.windowed } } := rfl

theorem dutyWindow_trunk (s : State) {n : Nat} (hn : n < 12) : (dutyWindow s).trunk n = (s.trunk n).windowed := by
  rw [dutyWindow_eq]
  simp [State.trunk, hn]

theorem dutyExpiry_short {n : Nat} {s : State} (h : (s.trunk n).dutyInForce < 100) :
    dutyExpiry n s = s.setTrunk n { s.trunk n with valveOpen := false } := if_pos h

theorem dutyExpiry_whole {n : Nat} {s : State} (h : 100 ≤ (s.trunk n).dutyInForce) : dutyExpiry n s = s := if_neg (Nat.not_lt.mpr h)

/-- The expiry of a duty shuts the valve of its own trunk, where the duty is below 100. -/
theorem trunkValve_dutyExpiry {n m : Nat} (hm : m < 12) (s : State) : trunkValve (dutyExpiry n s) m
    = if m = n ∧ (s.trunk m).dutyInForce < 100 then false else trunkValve s m := by
  by_cases h : (s.trunk n).dutyInForce < 100
  · rw [dutyExpiry_short h]
    by_cases hmn : m = n
    · subst hmn
      rw [if_pos ⟨rfl, h⟩, trunkValve, State.trunk_setTrunk_self _ _ _ hm]
      exact Bool.and_false _
    · rw [if_neg (fun hx => hmn hx.1), trunkValve, State.trunk_setTrunk_ne _ _ _ _ (Ne.symm hmn)]
      rfl
  · rw [dutyExpiry_whole (Nat.not_lt.mp h), if_neg]
    rintro ⟨rfl, hx⟩
    exact h hx

/-! #### Alarms and releases (R141, R142) -/

theorem alarmExpiry_due {n : Nat} {s : State} (ht : (s.trunk n).alarmTimer = 300) (ha : (s.trunk n).alarm = false) :
    alarmExpiry n s = post (.trunk n) .trunkAlarm (s.setTrunk n { s.trunk n with alarm := true }) := by
  refine if_pos ?_
  rw [ha]
  exact Bool.and_eq_true_iff.mpr ⟨decide_eq_true ht, rfl⟩

theorem alarmExpiry_idle {n : Nat} {s : State} (h : (s.trunk n).alarmTimer ≠ 300 ∨ (s.trunk n).alarm = true) : alarmExpiry n s = s := by
  refine if_neg ?_
  simp only [Bool.and_eq_true, decide_eq_true_eq, Bool.not_eq_true']
  rintro ⟨ht, ha⟩
  exact h.elim (fun hx => hx ht) fun hx => by simp [ha] at hx

theorem releaseExpiry_idle {n : Nat} {s : State} (h : (s.trunk n).releaseTimer ≠ 120) : releaseExpiry n s = s := if_neg h

/-- The lines of a trunk lose TEMP. -/
theorem releaseTemp_spec (n : Nat) (s : State) : LinesOnly s (releaseTemp n s) ∧ HoldsNotified s (releaseTemp n s)
    ∧ NoticesOnly ((List.range 48).map .line) s (releaseTemp n s)
    ∧ ∀ m, m < 48 → (releaseTemp n s).line m = { s.line m with holds := { (s.line m).holds with
        temp := (s.line m).holds.temp && decide ((s.line m).config.trunk ≠ n) } } := by
  have turn : ∀ (u : State) (i : Nat), ∃ h, (if (u.line i).config.trunk = n then changeHolds i { (u.line i).holds with temp := false } u else u)
      = changeHolds i h u := fun u i => by
    by_cases hc : (u.line i).config.trunk = n
    · exact ⟨_, if_pos hc⟩
    · exact ⟨(u.line i).holds, by rw [if_neg hc, changeHolds_self]⟩
  obtain ⟨frame, -, -, turns⟩ := foldl_perLine (fun u i => by
      obtain ⟨h, hu⟩ := turn u i
      exact hu ▸ changeHolds_onlyLine i u h) (fun u i => by
      obtain ⟨h, hu⟩ := turn u i
      exact hu ▸ changeHolds_quiet i u h) (L := List.range 48) List.nodup_range s
  obtain ⟨-, told, only⟩ := foldl_changeHolds_notified turn (l := List.range 48) List.nodup_range s
  refine ⟨frame, told, only, fun m hm => ?_⟩
  obtain ⟨u, found, -, -, left, -⟩ := turns m (List.mem_range.mpr hm)
  refine left.trans ?_
  by_cases hc : (u.line m).config.trunk = n
  · rw [if_pos hc, changeHolds_line _ _ _ hm, ← found]
    simp [hc]
  · rw [if_neg hc, ← found]
    simp [hc]

theorem releaseExpiry_due {n : Nat} {s : State} (h : (s.trunk n).releaseTimer = 120) :
    releaseExpiry n s = releaseTemp n (s.setTrunk n { s.trunk n with releaseTimer := 0 }) := if_pos h

/-! #### The stage inputs (R138) -/

/-- The part with the level of one stage fault input changed. -/
def withStagePin (i : Fin 4) (on : Bool) (s : State) : State :=
  { s with pins := { s.pins with stageFault := s.pins.stageFault.set i.val on } }

theorem setStagePin_eq (i : Fin 4) (on : Bool) (s : State) : setStagePin i.val on s = withStagePin i on s := by
  simp [setStagePin, withStagePin, setIfInBounds_of_lt _ _ i.isLt]

theorem stagePin_eq (i : Fin 4) (s : State) : stagePin s i.val = s.pins.stageFault[i] := by simp [stagePin]

theorem stageFails_unconfigured {i : Nat} {s : State} (h : ¬ i < s.cool.count) : stageFails i s = s := if_pos (Nat.not_lt.mp h)

theorem stageFails_stopped {i : Nat} {s : State} (h : i < s.cool.count) (hr : (s.stage i).running = false) :
    stageFails i s = post .chiller .stageFault s := by
  rw [stageFails, if_neg (Nat.not_le.mpr h), hr]
  rfl

theorem stageFails_running {i : Nat} {s : State} (h : i < s.cool.count) (hr : (s.stage i).running = true) :
    stageFails i s = post .chiller .stageFault (allocate (s.setStage i { running := false, time := 0 })) := by
  rw [stageFails, if_neg (Nat.not_le.mpr h), hr]
  rfl

theorem stageReturns_eq (i : Fin 4) (s : State) : stageReturns i.val s = if i.val < s.cool.count
    then post .chiller .stageRestored { s with cool := { s.cool with startFaults := s.cool.startFaults.set i.val false } } else s := by
  rw [stageReturns]
  by_cases h : i.val < s.cool.count
  · rw [if_pos h, if_neg (Nat.not_le.mpr h), setIfInBounds_of_lt _ _ i.isLt]
  · rw [if_neg h, if_pos (Nat.not_lt.mp h)]

/-- The failed stage is off and the others run on or stay off. -/
theorem stage_stageFails {i : Nat} (hi : i < 4) {s : State} (h : i < s.cool.count) : ((stageFails i s).stage i).running = false
    ∧ (∀ j, j ≠ i → (stageFails i s).stage j = s.stage j) ∧ (stageFails i s).takesEvents = s.takesEvents := by
  by_cases hr : (s.stage i).running = true
  · rw [stageFails_running h hr]
    refine ⟨?_, fun j hj => State.stage_setStage_ne s i j _ (Ne.symm hj), rfl⟩
    have off := State.stage_setStage_self s i { running := false, time := 0 } hi
    exact congrArg Stage.running off
  · rw [stageFails_stopped h (Bool.eq_false_iff.mpr hr)]
    exact ⟨Bool.eq_false_iff.mpr hr, fun _ _ => rfl, rfl⟩

/-! #### The events -/

section events

variable {s : State}

theorem dutyWindowStart_run (ht : s.takesEvents = true) : exec .dutyWindowStart s = .next (transmit (dutyWindow s)) :=
  congrArg _ (event_of_takes ht)

theorem valveDutyExpiry_run (ht : s.takesEvents = true) (n : Fin 12) :
    exec (.valveDutyExpiry n) s = .next (transmit (dutyExpiry n.val s)) :=
  congrArg _ (event_of_takes ht)

theorem alarmTimerExpiry_run (ht : s.takesEvents = true) (n : Fin 12) :
    exec (.alarmTimerExpiry n) s = .next (transmit (alarmExpiry n.val s)) :=
  congrArg _ (event_of_takes ht)

theorem releaseTimerExpiry_run (ht : s.takesEvents = true) (n : Fin 12) :
    exec (.releaseTimerExpiry n) s = .next (transmit (releaseExpiry n.val s)) :=
  congrArg _ (event_of_takes ht)

theorem stageFault_kept {i : Fin 4} (h : s.pins.stageFault[i] = true) : exec (.stageFault i) s = .next s :=
  if_pos ((stagePin_eq i s).trans h)

theorem stageFault_run (ht : s.takesEvents = true) {i : Fin 4} (h : s.pins.stageFault[i] = false) :
    exec (.stageFault i) s = .next (transmit (stageFails i.val (withStagePin i true s))) := by
  refine (if_neg (by rw [stagePin_eq, h]; simp)).trans ?_
  rw [setStagePin_eq]
  exact congrArg _ (event_of_takes (s := withStagePin i true s) ht)

theorem stageRestored_kept {i : Fin 4} (h : s.pins.stageFault[i] = false) : exec (.stageRestored i) s = .next s :=
  if_neg (by rw [stagePin_eq, h]; simp)

theorem stageRestored_run (ht : s.takesEvents = true) {i : Fin 4} (h : s.pins.stageFault[i] = true) :
    exec (.stageRestored i) s = .next (transmit (stageReturns i.val (withStagePin i false s))) := by
  refine (if_pos ((stagePin_eq i s).trans h)).trans ?_
  rw [setStagePin_eq]
  exact congrArg _ (event_of_takes (s := withStagePin i false s) ht)

theorem eq_of_next {t u : State} {x : Result} (hx : x = .next u) (ht : x = .next t) : t = u := by
  rw [hx] at ht
  exact (Host.Outcome.next.inj ht).symm

theorem LinesOnly.cool {u v : State} (h : LinesOnly u v) : v.cool = u.cool := (congrArg State.cool h).trans rfl

/-- The release timer's expiry: TEMP goes from the lines of the trunk, the timer returns to 0 (R142). -/
theorem releaseExpiry_spec {n : Nat} (hn : n < 12) (h : (s.trunk n).releaseTimer = 120) : let t := releaseExpiry n s
    (∀ m, m < 48 → t.line m = { s.line m with holds := { (s.line m).holds with
        temp := (s.line m).holds.temp && decide ((s.line m).config.trunk ≠ n) } })
      ∧ HoldsNotified s t ∧ NoticesOnly ((List.range 48).map .line) s t
      ∧ t.trunk n = { s.trunk n with releaseTimer := 0 } ∧ (∀ m, m ≠ n → t.trunk m = s.trunk m)
      ∧ t = { s with
          cellar := { s.cellar with lines := t.cellar.lines }, cool := { s.cool with trunks := t.cool.trunks }
          link := { s.link with notices := t.link.notices } } := by
  obtain ⟨frame, told, only, lines⟩ := releaseTemp_spec n (s.setTrunk n { s.trunk n with releaseTimer := 0 })
  have trunk : ∀ m, (releaseTemp n (s.setTrunk n { s.trunk n with releaseTimer := 0 })).trunk m
      = (s.setTrunk n { s.trunk n with releaseTimer := 0 }).trunk m := State.trunk_congr frame.cool
  intro t
  have ran : t = releaseTemp n (s.setTrunk n { s.trunk n with releaseTimer := 0 }) := releaseExpiry_due h
  rw [ran]
  refine ⟨lines, told, only, ?_, fun m hm => ?_, ?_⟩
  · rw [trunk, State.trunk_setTrunk_self _ _ _ hn]
  · rw [trunk, State.trunk_setTrunk_ne _ _ _ _ (Ne.symm hm)]
  · generalize releaseTemp n (s.setTrunk n { s.trunk n with releaseTimer := 0 }) = u at frame
    rw [frame]
    rfl

end events

/-- Settles O42: each event by its operation, the sum of the allocations class by class. -/
theorem allocationAndTimers : Obligations.AllocationAndTimers := by
  refine ⟨fun s => ⟨fun n hn => allocate_trunk s hn, rfl, allocate_sum_le s⟩, fun s ht => ⟨?_, fun t hx n hn => ?_, fun n t hx m hm => ?_,
    fun i hp hc t hx => ?_, fun n => ⟨fun hd => ?_, fun hd => ?_, fun h300 ha => ?_, fun ha => ?_, fun hr => ?_, fun hr => ?_⟩,
    fun i => ⟨stageFault_kept, fun hp hc => ?_, fun hp hc hr => ?_, fun hp hc hr => ?_, stageRestored_kept, fun hp => ?_⟩⟩⟩
  · exact ⟨s.cool.trunks.map Trunk.windowed, dutyWindowStart_run ht, fun n => by simp [Trunk.windowed, State.trunk]⟩
  · obtain rfl := eq_of_next (dutyWindowStart_run ht) hx
    have taken := dutyWindow_trunk s hn
    rw [trunkValve_transmit]
    refine ⟨?_, ?_⟩
    · rw [trunkValve, taken]
      have takes : (dutyWindow s).takesEvents = true := ht
      simp [takes, Trunk.windowed]
    · rw [State.trunk, transmit_cool]
      exact congrArg Trunk.dutyInForce taken
  · obtain rfl := eq_of_next (valveDutyExpiry_run ht n) hx
    rw [trunkValve_transmit]
    exact trunkValve_dutyExpiry hm s
  · obtain rfl := eq_of_next (stageFault_run ht hp) hx
    obtain ⟨off, others, takes⟩ := stage_stageFails i.isLt (s := withStagePin i true s) hc
    rw [stageOutput_transmit]
    refine ⟨?_, fun j hj => ?_⟩
    · rw [stageOutput, off, Bool.and_false]
    · rw [stageOutput_transmit, stageOutput, others j hj, takes]
      rfl
  · rw [valveDutyExpiry_run ht, dutyExpiry_short hd]
  · rw [valveDutyExpiry_run ht, dutyExpiry_whole hd]
  · rw [alarmTimerExpiry_run ht, alarmExpiry_due h300 ha]
  · rw [alarmTimerExpiry_run ht, alarmExpiry_idle ha]
  · rw [releaseTimerExpiry_run ht, releaseExpiry_idle hr]
  · exact ⟨releaseExpiry n.val s, releaseTimerExpiry_run ht n, releaseExpiry_spec n.isLt hr⟩
  · rw [stageFault_run ht hp]
    exact congrArg (fun u => (Host.Outcome.next (transmit u) : Result)) (stageFails_unconfigured (s := withStagePin i true s) hc)
  · rw [stageFault_run ht hp]
    exact congrArg (fun u => (Host.Outcome.next (transmit u) : Result)) (stageFails_stopped (s := withStagePin i true s) hc hr)
  · rw [stageFault_run ht hp]
    exact congrArg (fun u => (Host.Outcome.next (transmit u) : Result)) (stageFails_running (s := withStagePin i true s) hc hr)
  · rw [stageRestored_run ht hp]
    exact congrArg (fun u => (Host.Outcome.next (transmit u) : Result)) (stageReturns_eq i (withStagePin i false s))

end Sys2Proof.Machine
end

section
/-! ### The drain condition and the clean queue's requests (O46) -/

namespace Sys2Proof.Machine

open Sys2Proof Sys2Proof.Safety

/-! #### The drain condition (R6) -/

/-- Line `n` is drained: no pour in flight and every routed tap locked (R6). -/
def Drained (n : Nat) (s : State) : Prop :=
  (s.line n).inFlight = 0 ∧ ∀ i, i < 128 → (s.tap i).route.line = some n → (s.tap i).lockout = true

theorem drainHolds_iff (s : State) (n : Nat) : drainHolds s n = true ↔ Drained n s := by
  simp only [drainHolds, Drained, Bool.and_eq_true, decide_eq_true_eq, tapsLocked_iff]
  refine and_congr_right fun _ => ⟨fun h i _ => h i, fun h i hi => ?_⟩
  by_cases ht : i < 128
  · exact h i ht hi
  · rw [State.tap_of_ge (Nat.not_lt.mp ht)] at hi
    exact absurd hi (by simp [coldTap, Route.dark])

theorem drained_congr {n : Nat} {s t : State} (flight : (t.line n).inFlight = (s.line n).inFlight) (tap : ∀ i, t.tap i = s.tap i) :
    Drained n t ↔ Drained n s := by
  simp only [Drained, flight, tap]

/-- Line `n` moved to `st`, its entry's ready flag set or cleared. -/
def drainMoved (n : Nat) (st : ServiceState) (ready : Bool) (s : State) : State :=
  let u := post (.line n) .lineState (s.setLine n { s.line n with state := st })
  { u with clean := { u.clean with queue := s.clean.queue.map fun e => if e.line = n then { e with ready := ready } else e } }

theorem setReady_moveLine {n : Nat} {st : ServiceState} {s : State} (h : (s.line n).state ≠ st) (ready : Bool) :
    setReady n ready (moveLine n st s) = drainMoved n st ready s := by
  rw [moveLine, if_neg h]
  rfl

theorem serveReady_eq (s : State) : serveReady s = if (s.circuit .a).state = .idle then serve .a s
    else if (s.circuit .b).state = .idle then serve .b s else s := by
  unfold serveReady freeCircuit
  split <;> rename_i h <;> split at h
  · obtain rfl := Option.some.inj h
    rename_i ha
    rw [if_pos ha]
  · rename_i ha
    split at h
    · obtain rfl := Option.some.inj h
      rename_i hb
      rw [if_neg ha, if_pos hb]
    · exact absurd h (by simp)
  · exact absurd h (by simp)
  · rename_i ha
    split at h
    · exact absurd h (by simp)
    · rename_i hb
      rw [if_neg ha, if_neg hb]

section evalDrain

variable {n : Nat} {s : State}

theorem evalDrain_drained (hs : (s.line n).state = .draining) (hd : Drained n s) :
    evalDrain n s = serveReady (drainMoved n .queued true s) := by
  unfold evalDrain
  simp only [hs, (drainHolds_iff s n).mpr hd, if_true]
  rw [setReady_moveLine (by simp [hs])]

theorem evalDrain_undrained (hs : (s.line n).state = .draining) (hd : ¬ Drained n s) : evalDrain n s = s := by
  unfold evalDrain
  simp only [hs]
  exact if_neg fun h => hd ((drainHolds_iff s n).mp h)

theorem evalDrain_queued (hs : (s.line n).state = .queued) (hd : Drained n s) : evalDrain n s = s := by
  unfold evalDrain
  simp only [hs]
  exact if_pos ((drainHolds_iff s n).mpr hd)

theorem evalDrain_unqueued (hs : (s.line n).state = .queued) (hd : ¬ Drained n s) : evalDrain n s = drainMoved n .draining false s := by
  unfold evalDrain
  simp only [hs]
  rw [if_neg fun h => hd ((drainHolds_iff s n).mp h), setReady_moveLine (by simp [hs])]

theorem evalDrain_other (hd : (s.line n).state ≠ .draining) (hq : (s.line n).state ≠ .queued) : evalDrain n s = s := by
  unfold evalDrain
  split
  · exact absurd ‹_› hd
  · exact absurd ‹_› hq
  · rfl

/-- The evaluation of a drain condition is the one of R6. -/
theorem evalDrain_evaluated (n : Nat) (s : State) : DrainEvaluated n s (evalDrain n s) := by
  have queued : ∀ d, (drainMoved n .queued true s).circuit d = s.circuit d := fun d => by cases d <;> rfl
  refine ⟨fun hs hd => ?_, evalDrain_undrained, evalDrain_queued, evalDrain_unqueued, evalDrain_other⟩
  rw [evalDrain_drained hs hd, serveReady_eq, queued, queued]
  rfl

end evalDrain

/-! #### CLEAN REQUEST (R152) -/

/-- What cleaning leaves of the accounts' window: all of it. -/
theorem window_cleaningClosed (s : State) : CleaningClosed fun t => t.acct.window = s.acct.window where
  line _ _ _ _ _ _ _ _ _ hs := hs
  route _ _ _ hs := hs
  queue _ _ hs := hs
  circuit _ c _ hs := by cases c <;> exact hs
  post _ _ _ hs := hs
  record _ b hs := (takeRecord_window _ b).trans hs

section request

variable {n p : Nat} {s : State}

/-- The line has an entry in the queue. -/
abbrev Entered (n : Nat) (s : State) : Prop := ∃ e ∈ s.clean.queue, e.line = n

theorem isQueued_iff (s : State) (n : Nat) : isQueued s n = true ↔ Entered n s := by simp [isQueued, Entered]

/-- The line has joined the queue with a state, an entry and its pre-drain state (R5). -/
def queueJoined (n p : Nat) (st : ServiceState) (ready : Bool) (s : State) : State :=
  post (.line n) .lineState
    (State.setLine n { s.line n with state := st, preDrain := some (s.line n).state }
      { s with clean := { s.clean with queue := s.clean.queue ++ [{ line := n, program := p, ready := ready }] } })

theorem post_post (k : NoticeKey) (c d : NoticeCause) (s : State) : post k d (post k c s) = post k d s := by
  simp only [post, mergeNotice_mergeNotice]

theorem queueJoined_line (hn : n < 48) (st : ServiceState) (ready : Bool) : (queueJoined n p st ready s).line n
    = { s.line n with state := st, preDrain := some (s.line n).state } :=
  State.line_setLine_self _ _ _ hn

theorem queueLine_eq (hn : n < 48) (hs : (s.line n).state ≠ .draining) :
    queueLine n p s = evalDrain n (queueJoined n p .draining false s) := by
  have line : ∀ (u : State) (l : Line), (u.setLine n l).line n = l := fun u l => State.line_setLine_self u n l hn
  rw [queueLine, moveLine, State.modLine_eq, line, if_neg (by exact hs), State.modLine_eq, line, setLine_setLine]
  rfl

/-- A drained line that joins is QUEUED at once. -/
theorem drainMoved_queueJoined (hn : n < 48) (he : ¬ Entered n s) :
    drainMoved n .queued true (queueJoined n p .draining false s) = queueJoined n p .queued true s := by
  have others : s.clean.queue.map (fun e => if e.line = n then { e with ready := true } else e) = s.clean.queue := by
    refine (List.map_congr_left fun e h => ?_).trans (List.map_id _)
    exact if_neg fun hx => he ⟨e, h, hx⟩
  have queue : (queueJoined n p .draining false s).clean.queue.map (fun e => if e.line = n then { e with ready := true } else e)
      = s.clean.queue ++ [{ line := n, program := p, ready := true }] := by
    show List.map _ (s.clean.queue ++ [_]) = _
    rw [List.map_append, others]
    simp
  unfold drainMoved
  rw [queue, queueJoined_line hn]
  unfold queueJoined
  simp only [post, mergeNotice_mergeNotice, State.setLine, Vector.setIfInBounds_setIfInBounds]

theorem drained_queueJoined (hn : n < 48) (st : ServiceState) (ready : Bool) : Drained n (queueJoined n p st ready s) ↔ Drained n s :=
  drained_congr (by rw [queueJoined_line hn]) fun _ => rfl

theorem entered_queueJoined (st : ServiceState) (ready : Bool) : Entered n (queueJoined n p st ready s) :=
  ⟨{ line := n, program := p, ready := ready }, List.mem_append_right _ List.mem_cons_self, rfl⟩

theorem queuePlace_eq (s : State) (n : Nat) : queuePlace s n = (s.clean.queue.findIdx? fun e => e.line = n).map (· + 1) := by
  unfold queuePlace
  cases s.clean.queue.findIdx? fun e => e.line = n <;> rfl

theorem queuePlace_queueJoined (he : ¬ Entered n s) (st : ServiceState) (ready : Bool) :
    queuePlace (queueJoined n p st ready s) n = some (s.clean.queue.length + 1) := by
  have none_before : s.clean.queue.findIdx? (fun e => e.line = n) = none := by
    rw [List.findIdx?_eq_none_iff]
    intro e h
    simpa using fun hx => he ⟨e, h, hx⟩
  rw [queuePlace_eq]
  show ((s.clean.queue ++ [({ line := n, program := p, ready := ready } : QueueEntry)]).findIdx? fun e => e.line = n).map (· + 1) = _
  rw [List.findIdx?_append, none_before]
  simp

theorem circuitTook_entered {u : State} (h : Entered n u) : circuitTook s u n = none := if_pos ((isQueued_iff u n).mpr h)

theorem circuitTook_eq {x : Circuit} (hx : freeCircuit s = some x) (u : State) [Decidable (Entered n u)] :
    circuitTook s u n = if Entered n u then none else some x := by
  unfold circuitTook
  by_cases h : Entered n u
  · rw [if_pos h, if_pos ((isQueued_iff u n).mpr h)]
  · rw [if_neg h, if_neg fun hq => h ((isQueued_iff u n).mp hq), hx]

/-! The checks in their order. -/

theorem cleanRefusal_range (h : 47 < n ∨ 7 < p) : cleanRefusal s n p = some .range := if_pos (by simpa using h)

theorem cleanRefusal_of_range (hn : n ≤ 47) (hp : p ≤ 7) : cleanRefusal s n p =
    if (s.line n).state = .offline then some .state
    else if isQueued s n || (s.line n).state = .cleaning then some .duplicate
    else match s.programSlot p with
      | none => some .notFound
      | some g => if (s.line n).mark && !g.verifies then some .programCannotClear else none :=
  if_neg (by simp; omega)

theorem cleanRefusal_preDrain (hn : n ≤ 47) (hp : p ≤ 7) (hs : isPreDrain (s.line n).state) (he : ¬ Entered n s) : cleanRefusal s n p =
    match s.programSlot p with
      | none => some .notFound
      | some g => if (s.line n).mark && !g.verifies then some .programCannotClear else none := by
  have online : (s.line n).state ≠ .offline ∧ (s.line n).state ≠ .cleaning := by
    rcases hs with h | h | h | h | h <;> simp [h]
  have free : (isQueued s n || decide ((s.line n).state = .cleaning)) = false := by
    rw [Bool.or_eq_false_iff, decide_eq_false_iff_not, Bool.eq_false_iff, Ne, isQueued_iff]
    exact ⟨he, online.2⟩
  exact (cleanRefusal_of_range hn hp).trans ((if_neg online.1).trans (if_neg (by rw [free]; simp)))

theorem decideCleanRequest_refused {st : Status} (h : cleanRefusal s n p = some st) : decideCleanRequest n p s = refuse st s := by
  unfold decideCleanRequest
  rw [h]

theorem decideCleanRequest_accepted (h : cleanRefusal s n p = none) : decideCleanRequest n p s
    = acceptWith (.cleanPlace ((queueLine n p s).line n).state (queuePlace (queueLine n p s) n) (circuitTook s (queueLine n p s) n))
        (queueLine n p s) := by
  unfold decideCleanRequest
  rw [h]

theorem verifies_iff (g : Program) : g.verifies = true ↔ ∃ st ∈ g.steps, st.kind = .verify := by simp [Program.verifies]

/-- A request that no check refuses leaves its line DRAINING, or QUEUED and served by the free circuit. -/
theorem decideCleanRequest_joined (hn : n ≤ 47) (hs : isPreDrain (s.line n).state) (he : ¬ Entered n s)
    (h : cleanRefusal s n p = none) :
    (¬ Drained n s → decideCleanRequest n p s
        = acceptWith (.cleanPlace .draining (some (s.clean.queue.length + 1)) none) (queueJoined n p .draining false s))
      ∧ (Drained n s → freeCircuit s = none → decideCleanRequest n p s
        = acceptWith (.cleanPlace .queued (some (s.clean.queue.length + 1)) none) (queueJoined n p .queued true s))
      ∧ (∀ x, Drained n s → freeCircuit s = some x → ∀ u, u = serve x (queueJoined n p .queued true s) →
          ∀ [Decidable (Entered n u)], decideCleanRequest n p s
        = acceptWith (.cleanPlace (u.line n).state ((u.clean.queue.findIdx? fun e => e.line = n).map (· + 1))
            (if Entered n u then none else some x)) u) := by
  have hn48 : n < 48 := Nat.lt_succ_of_le hn
  have before : (s.line n).state ≠ .draining := by rcases hs with h | h | h | h | h <;> simp [h]
  have state : ∀ st ready, ((queueJoined n p st ready s).line n).state = st := fun st ready => by rw [queueJoined_line hn48]
  have free : freeCircuit (queueJoined n p .queued true s) = freeCircuit s := rfl
  have queued : Drained n s → queueLine n p s = serveReady (queueJoined n p .queued true s) := fun hd => by
    rw [queueLine_eq hn48 before, evalDrain_drained (state _ _) ((drained_queueJoined hn48 _ _).mpr hd), drainMoved_queueJoined hn48 he]
  refine ⟨fun hd => ?_, fun hd hf => ?_, fun x hd hf u hu _ => ?_⟩
  · have joined : queueLine n p s = queueJoined n p .draining false s := by
      rw [queueLine_eq hn48 before, evalDrain_undrained (state _ _) (fun hx => hd ((drained_queueJoined hn48 _ _).mp hx))]
    rw [decideCleanRequest_accepted h, joined, state, queuePlace_queueJoined he, circuitTook_entered (entered_queueJoined _ _)]
  · have joined : queueLine n p s = queueJoined n p .queued true s := by
      rw [queued hd, serveReady, free, hf]
    rw [decideCleanRequest_accepted h, joined, state, queuePlace_queueJoined he, circuitTook_entered (entered_queueJoined _ _)]
  · have joined : queueLine n p s = u := by rw [queued hd, serveReady, free, hf, hu]
    rw [decideCleanRequest_accepted h, joined, queuePlace_eq, circuitTook_eq hf]

end request

/-! #### CLEAN WITHDRAW (R154) -/

section withdraw

variable {n : Nat} {s : State}

theorem returnedState_eq {l : Line} {st : ServiceState} (hp : l.preDrain = some st) : returnedState l
    = if st = .serving ∨ st = .dry then (if l.chain = [] then .dry else .serving) else st := by
  unfold returnedState
  rw [hp]
  cases st <;> simp

/-- A line that waits in the queue returns from it. -/
theorem withdrawLine_eq {st : ServiceState} (hs : (s.line n).state = .draining ∨ (s.line n).state = .queued)
    (hp : (s.line n).preDrain = some st) (hst : isPreDrain st) : withdrawLine n s
    = post (.line n) .lineState (State.setLine n { s.line n with state := returnedState (s.line n) }
        { s with clean := { s.clean with queue := s.clean.queue.filter fun e => e.line ≠ n } }) := by
  have back : isPreDrain (returnedState (s.line n)) := by
    rw [returnedState_eq hp]
    split
    · split <;> simp [isPreDrain]
    · exact hst
  refine if_neg fun h => ?_
  have same : (s.line n).state = returnedState (s.line n) := h
  rw [← same] at back
  rcases hs with hd | hd <;> simp [isPreDrain, hd] at back

theorem decideCleanWithdraw_eq {st : ServiceState} (hn : n ≤ 47) (he : Entered n s)
    (hs : (s.line n).state = .draining ∨ (s.line n).state = .queued) (hp : (s.line n).preDrain = some st) (hst : isPreDrain st) :
    decideCleanWithdraw n s = acceptWith (.lineState (returnedState (s.line n)))
      (post (.line n) .lineState (State.setLine n { s.line n with state := returnedState (s.line n) }
        { s with clean := { s.clean with queue := s.clean.queue.filter fun e => e.line ≠ n } })) := by
  rw [decideCleanWithdraw, if_neg (Nat.not_lt.mpr hn), if_neg (by simpa using (isQueued_iff s n).mpr he)]
  simp only []
  rw [withdrawLine_eq hs hp hst, State.line_congr (post_cellar ..), State.line_setLine_self _ _ _ (Nat.lt_succ_of_le hn)]

end withdraw

/-- Settles O46: the checks, the joining with its drain condition, and the return. -/
theorem cleanQueueRequests : Obligations.CleanQueueRequests := by
  intro tag n p s h
  have refused : ∀ {st : Status}, st ≠ .busy → cleanRefusal (hunting s) n p = some st →
      exec (.cleanRequest tag n p) s = .next (refused .cleanRequest tag st (hunting s)) := fun hb hr =>
    exec_refused h rfl (decideCleanRequest_refused hr) hb
  refine ⟨fun hr => refused (by decide) (cleanRefusal_range hr), fun hn hp ho => refused (by decide) ?_,
    fun hn hp ho hd => refused (by decide) ?_, fun hn hp hs he hg => refused (by decide) ?_, fun g hn hp hs he hg => ?_,
    fun hn => exec_refused h rfl (if_pos hn), fun hn he => exec_refused h rfl ?_, fun st hn he hs hp hst => ?_⟩
  · exact (cleanRefusal_of_range hn hp).trans (if_pos ho)
  · refine (cleanRefusal_of_range hn hp).trans ((if_neg ho).trans (if_pos ?_))
    rw [Bool.or_eq_true, isQueued_iff, decide_eq_true_eq]
    exact hd
  · have slot : (hunting s).programSlot p = none := hg
    rw [cleanRefusal_preDrain (s := hunting s) hn hp hs he, slot]
  · have slot : (hunting s).programSlot p = some g := hg
    have checked : cleanRefusal (hunting s) n p
        = if ((hunting s).line n).mark && !g.verifies then some .programCannotClear else none := by
      rw [cleanRefusal_preDrain (s := hunting s) hn hp hs he, slot]
    refine ⟨fun hm hv => refused (by decide) ?_, fun hok => ?_⟩
    · rw [checked]
      refine if_pos ?_
      rw [Bool.and_eq_true, Bool.not_eq_true', Bool.eq_false_iff, Ne, verifies_iff]
      exact ⟨hm, fun ⟨st, hst, hk⟩ => hv st hst hk⟩
    · have passes : cleanRefusal (hunting s) n p = none := by
        rw [checked]
        refine if_neg ?_
        rw [Bool.and_eq_true, Bool.not_eq_true', Bool.eq_false_iff, Ne, verifies_iff]
        exact fun ⟨hm, hv⟩ => hok.elim (fun hx => by
          have marked : (s.line n).mark = true := hm
          rw [hx] at marked
          exact absurd marked (by simp)) hv
      obtain ⟨undrained, kept, served⟩ := decideCleanRequest_joined (s := hunting s) hn hs he passes
      have taken : ∀ x, Drained n s → freeCircuit (hunting s) = some x → ∀ u, u = serve x (queueJoined n p .queued true (hunting s)) →
          ∀ [Decidable (Entered n u)], exec (.cleanRequest tag n p) s = .next (replied .cleanRequest tag .ok
            (.cleanPlace (u.line n).state ((u.clean.queue.findIdx? fun e => e.line = n).map (· + 1))
              (if Entered n u then none else some x)) u) := fun x hd hf u hu _ =>
        exec_accepted h rfl (served x hd hf u hu) (by
          rw [hu]
          exact serve_closed (window_cleaningClosed s) x _ rfl)
      refine ⟨fun hd => exec_accepted h rfl (undrained hd) rfl, fun hd ha hb => exec_accepted h rfl (kept hd ?_) rfl,
        fun hd ha => @taken .a hd ?_ _ rfl _, fun hd ha hb => @taken .b hd ?_ _ rfl _⟩
      · exact (if_neg ha).trans (if_neg hb)
      · exact if_pos ha
      · exact (if_neg ha).trans (if_pos hb)
  · rw [decideCleanWithdraw, if_neg (Nat.not_lt.mpr hn)]
    refine if_pos ?_
    rw [Bool.not_eq_true', Bool.eq_false_iff, Ne, isQueued_iff]
    exact he
  · have returned := decideCleanWithdraw_eq (s := hunting s) hn he hs hp hst
    rw [returnedState_eq (l := (hunting s).line n) hp] at returned
    exact exec_accepted h rfl returned rfl

end Sys2Proof.Machine
end

section
/-! ### The taking of a batch (O48) -/

namespace Sys2Proof.Machine

open Sys2Proof Sys2Proof.Safety

/-! #### The taking (R155) -/

section take

variable {c : Circuit} {s : State} {e : QueueEntry}

/-- The part after circuit `c` has taken the batch that the entry `e` begins. -/
def batchTaken (c : Circuit) (e : QueueEntry) (s : State) : State :=
  post (.circuit c) .circuitStarted (((batchOf s e).foldl (fun s n => moveLine n .cleaning s)
    (s.dequeue (batchOf s e))).modCircuit c fun r => r.begun (batchOf s e) e.program)

theorem takeBatch_idle (hi : (s.circuit c).state = .idle) (he : s.clean.queue.find? (·.ready) = some e) :
    takeBatch c s = some (batchTaken c e s) := by
  have oldest : oldestReady s.clean.queue = some e := he
  unfold takeBatch
  rw [if_neg (by simpa using hi), oldest]
  rfl

theorem takeBatch_none (h : (s.circuit c).state ≠ .idle ∨ ∀ e ∈ s.clean.queue, e.ready = false) : takeBatch c s = none := by
  unfold takeBatch
  by_cases hi : (s.circuit c).state = .idle
  · have oldest : oldestReady s.clean.queue = none :=
      List.find?_eq_none.mpr fun e he => by simpa using h.resolve_left (not_not_intro hi) e he
    rw [if_neg (by simpa using hi), oldest]
  · rw [if_pos (by simpa using hi)]

theorem serve_of_none (h : takeBatch c s = none) : serve c s = s := by
  unfold serve serveQueue
  rw [h]

/-- The lines of a batch have moved to CLEANING. -/
theorem linesMoved_spec {L : List Nat} (nodup : L.Nodup) (u : State) : LinesOnly u (L.foldl (fun s n => moveLine n .cleaning s) u)
    ∧ (∀ n, n < 48 → (L.foldl (fun s n => moveLine n .cleaning s) u).line n
        = if n ∈ L then { u.line n with state := .cleaning } else u.line n)
    ∧ (∀ n ∈ L, (u.line n).state ≠ .cleaning →
        { key := .line n, cause := .lineState } ∈ (L.foldl (fun s n => moveLine n .cleaning s) u).link.notices)
    ∧ NoticesOnly (L.map .line) u (L.foldl (fun s n => moveLine n .cleaning s) u) := by
  obtain ⟨frame, others, quiet, turns⟩ := foldl_perLine (f := fun s n => moveLine n .cleaning s)
    (fun s n => moveLine_onlyLine n s _) (fun s n => moveLine_quiet n s _) nodup u
  refine ⟨frame, fun n hn => ?_, fun n hn hs => ?_, quiet⟩
  · split
    · rename_i hL
      obtain ⟨v, found, -, -, left, -⟩ := turns n hL
      rw [left, moveLine_line _ _ _ hn, found]
    · rename_i hL
      exact others n hL
  · obtain ⟨v, found, -, -, -, told⟩ := turns n hn
    refine (told _ rfl).mpr ?_
    rw [moveLine_notices, found, if_neg hs]
    exact mem_mergeNotice_self _ _ _

/-- What the taking of a batch leaves, where its lines are QUEUED and each named once. -/
theorem batchTaken_spec (once : (batchOf s e).Nodup) (queued : ∀ n ∈ batchOf s e, (s.line n).state = .queued) :
    let u := batchTaken c e s
    u.clean.queue = s.clean.queue.filter (fun x => !(batchOf s e).contains x.line)
      ∧ (∀ n, n < 48 → u.line n = if n ∈ batchOf s e then { s.line n with state := .cleaning } else s.line n)
      ∧ u.circuit c = (s.circuit c).begun (batchOf s e) e.program
      ∧ (∀ d, d ≠ c → u.circuit d = s.circuit d) ∧ u.clean.programs = s.clean.programs
      ∧ { key := .circuit c, cause := .circuitStarted } ∈ u.link.notices
      ∧ (∀ n ∈ batchOf s e, { key := .line n, cause := .lineState } ∈ u.link.notices)
      ∧ NoticesOnly (.circuit c :: (batchOf s e).map .line) s u
      ∧ u = { s with
          clean := u.clean, cellar := { s.cellar with lines := u.cellar.lines }
          link := { s.link with notices := u.link.notices }} := by
  intro u
  have taken : u = post (.circuit c) .circuitStarted (((batchOf s e).foldl (fun s n => moveLine n .cleaning s)
    (s.dequeue (batchOf s e))).modCircuit c fun r => r.begun (batchOf s e) e.program) := rfl
  obtain ⟨frame, lines, told, quiet⟩ := linesMoved_spec once (s.dequeue (batchOf s e))
  generalize (batchOf s e).foldl (fun s n => moveLine n .cleaning s) (s.dequeue (batchOf s e)) = v at frame lines told quiet taken
  have clean : v.clean = (s.dequeue (batchOf s e)).clean := (congrArg State.clean frame).trans rfl
  have circuit : ∀ d, v.circuit d = s.circuit d := fun d => (State.circuit_congr clean d).trans (by cases d <;> rfl)
  have after : NoticesOnly [.circuit c] v u := by
    rw [taken]
    exact post_quiet _ _ (v.modCircuit c fun r => r.begun (batchOf s e) e.program)
  have uclean : u.clean = { v.clean with circuits := v.clean.circuits.put c ((v.circuit c).begun (batchOf s e) e.program) } := by
    rw [taken]
    rfl
  refine ⟨?_, fun n hn => ?_, ?_, fun d hd => ?_, ?_, ?_, fun n hn => ?_, ?_, ?_⟩
  · rw [uclean, clean]
    rfl
  · rw [taken]
    exact lines n hn
  · rw [taken, ← circuit c]
    exact State.circuit_setCircuit_self v c _
  · rw [taken, ← circuit d]
    exact State.circuit_setCircuit_ne v c d _ (Ne.symm hd)
  · rw [uclean, clean]
    rfl
  · rw [taken]
    exact mem_post _ _ _
  · refine (after _ (by simp)).mpr (told n hn ?_)
    have state : ((s.dequeue (batchOf s e)).line n).state = .queued := queued n hn
    rw [state]
    decide
  · refine noticesOnly_trans (t := v) (noticesOnly_mono quiet (List.subset_cons_self _ _)) (noticesOnly_mono after (by simp))
  · rw [taken]
    unfold LinesOnly at frame
    rw [frame]
    rfl

end take

/-! #### A circuit serves until nothing is left to take (R156) -/

theorem beginStep_queue (c : Circuit) (s : State) : (beginStep c s).1.clean.queue = s.clean.queue := by
  have mark : ∀ (L : List Nat) (u : State), (L.foldl (fun s n => s.modLine n fun l => { l with mark := true }) u).clean.queue = u.clean.queue := by
    intro L
    induction L with
    | nil => exact fun _ => rfl
    | cons n L ih => exact fun u => ih _
  rcases beginStep_cases c s with h | ⟨_, u, h, hb | hb⟩
  · exact h.queue
  · rw [hb, ← h.queue]
    exact mark _ u
  · rw [hb, ← h.queue]
    cases c <;> rfl

theorem recordClean_clean (n : Nat) (s : State) : (recordClean n s).clean = s.clean := by
  unfold recordClean changeHolds
  simp only []
  split <;> rfl

theorem resolveWithheld_clean (n : Nat) (s : State) : (resolveWithheld n s).clean = s.clean :=
  foldl_closed (P := fun t => t.clean = s.clean) (fun t i ht => by
    split
    · exact ht
    · exact ht) _ s rfl

theorem moveLine_clean (n : Nat) (st : ServiceState) (s : State) : (moveLine n st s).clean = s.clean := by
  unfold moveLine
  split <;> rfl

theorem endLine_clean (c : Circuit) (ending : BatchEnd) (n : Nat) (s : State) : (endLine c ending n s).clean = s.clean := by
  unfold endLine leaveCleaning
  simp only []
  rw [resolveWithheld_clean]
  split
  · rw [recordClean_clean, moveLine_clean]
    exact (takeRecord_lineEvent n s _).2.2.2.2.1
  · rw [moveLine_clean]
    exact (takeRecord_lineEvent n s _).2.2.2.2.1

theorem endBatch_queue (c : Circuit) (ending : BatchEnd) (s : State) : (endBatch c ending s).clean.queue = s.clean.queue := by
  have lines := foldl_closed (P := fun t => t.clean = s.clean) (f := fun s n => endLine c ending n s)
    (fun t n ht => (endLine_clean c ending n t).trans ht) (s.circuit c).batch s rfl
  rw [← lines]
  cases c <;> rfl

/-- A taking takes an entry from the queue. -/
theorem takeBatch_shorter {c : Circuit} {s u : State} (h : takeBatch c s = some u) : u.clean.queue.length < s.clean.queue.length := by
  obtain ⟨-, e, he, rfl⟩ := takeBatch_eq_some h
  obtain ⟨held, -⟩ := mem_takenEntries (oldestReady_mem he)
  have gone : e.line ∈ batchOf s e := List.mem_map_of_mem (oldestReady_mem he)
  have moved : ((batchOf s e).foldl (fun s n => moveLine n .cleaning s) (s.dequeue (batchOf s e))).clean = (s.dequeue (batchOf s e)).clean :=
    foldl_closed (P := fun t => t.clean = (s.dequeue (batchOf s e)).clean) (fun t n ht => (moveLine_clean n _ t).trans ht) _ _ rfl
  have queue : (post (.circuit c) .circuitStarted (((batchOf s e).foldl (fun s n => moveLine n .cleaning s)
      (s.dequeue (batchOf s e))).modCircuit c fun r => r.begun (batchOf s e) e.program)).clean.queue
      = s.clean.queue.filter fun x => !(batchOf s e).contains x.line := (congrArg (·.queue) moved).trans rfl
  rw [queue]
  refine lt_of_le_of_ne (List.length_filter_le _ _) fun h => ?_
  have kept := List.length_filter_eq_length_iff.mp h e held
  simp only [List.contains_eq_mem, Bool.not_eq_true', decide_eq_false_iff_not] at kept
  exact kept gone

/-- Any fuel above the length of the queue serves it to the end. -/
theorem serveQueue_fuel (c : Circuit) (fuel : Nat) : ∀ (fuel' : Nat) (s : State), s.clean.queue.length < fuel →
    s.clean.queue.length < fuel' → serveQueue fuel c s = serveQueue fuel' c s := by
  induction fuel with
  | zero => exact fun _ _ h => absurd h (Nat.not_lt_zero _)
  | succ fuel ih =>
    rintro (_ | fuel') s h h'
    · exact absurd h' (Nat.not_lt_zero _)
    · unfold serveQueue
      cases ht : takeBatch c s with
      | none => rfl
      | some u =>
        have shorter := takeBatch_shorter ht
        have queue := beginStep_queue c u
        dsimp only
        split
        · rfl
        · rename_i v f hb
          have ended : (endBatch c (.fault f) v).clean.queue.length = u.clean.queue.length := by
            rw [endBatch_queue, ← queue, hb]
          exact ih fuel' _ (by omega) (by omega)

theorem serve_begun {c : Circuit} {s u : State} (h : takeBatch c s = some u) (hb : (beginStep c u).2 = none) :
    serve c s = (beginStep c u).1 := by
  have begun : beginStep c u = ((beginStep c u).1, none) := Prod.ext rfl hb
  unfold serve serveQueue
  rw [h]
  dsimp only
  rw [begun]

theorem serve_faulted {c : Circuit} {s u : State} {f : FaultKind} (h : takeBatch c s = some u) (hb : (beginStep c u).2 = some f) :
    serve c s = finishBatch c (.fault f) (beginStep c u).1 := by
  have shorter := takeBatch_shorter h
  have ended : (endBatch c (.fault f) (beginStep c u).1).clean.queue.length = u.clean.queue.length := by
    rw [endBatch_queue, beginStep_queue]
  cases hv : beginStep c u with
  | mk v o =>
    rw [hv] at hb ended
    obtain rfl : o = some f := hb
    unfold serve serveQueue
    rw [h]
    dsimp only at ended ⊢
    rw [hv]
    exact serveQueue_fuel c _ _ _ (by omega) (by omega)

/-! #### The end of one line's part in a batch (R8, R41, R169) -/

/-- The CLEAN record of line `n` in a batch of circuit `c` that ends. -/
def cleanRecord (c : Circuit) (ending : BatchEnd) (n : Nat) (s : State) : RecordBody :=
  .clean n c ((s.circuit c).program.getD 0) (s.circuit c).stepsDone (stepsIn s ((s.circuit c).program.getD 0)) ending (s.line n).mark
    (s.circuit c).water (s.circuit c).solution

/-- A line that has left CLEANING (R8). -/
def leftLine (done : Bool) (time : Option Nat) (l : Line) : Line := { l with
  state := leftState l.mark
  lastClean := if done then time else l.lastClean
  volumeSinceClean := if done then 0 else l.volumeSinceClean
  softAgeNoted := l.softAgeNoted && !done
  softVolumeNoted := l.softVolumeNoted && !done
  holds := { l.holds with overdue := l.holds.overdue && !done } }

/-- A tap after the lines that `left` names have left CLEANING (R41). -/
def freedTap (left : Nat → Bool) (entry : Route) (x : Tap) : Tap :=
  if x.withheld = true ∧ ∃ n, entry.line = some n ∧ left n = true then { x with route := entry, withheld := false } else x

theorem resolveWithheld_frame (n : Nat) (s : State) :
    resolveWithheld n s = { s with pour := { s.pour with taps := (resolveWithheld n s).pour.taps } } := by
  unfold resolveWithheld
  exact foldl_closed (P := fun t => t = { s with pour := { s.pour with taps := t.pour.taps } }) (fun t i ht => by
    split
    · rw [takeActiveRoute, State.modTap, State.setTap]
      rw [ht]
    · exact ht) _ s rfl

theorem takeActiveRoute_tap {t : Nat} (ht : t < 128) (s : State) (i : Nat) : (takeActiveRoute t s).tap i
    = if t = i then { s.tap i with route := s.activeEntry i, withheld := false } else s.tap i := by
  rw [takeActiveRoute, State.modTap_eq, State.tap_setTap]
  by_cases h : t = i
  · subst h
    simp [ht]
  · simp [h]

/-- The withheld taps among the first `k` have taken their routes. -/
theorem resolveWithheld_tap (n : Nat) (s : State) {i : Nat} (hi : i < 128) :
    (resolveWithheld n s).tap i = freedTap (fun m => decide (m = n)) (s.activeEntry i) (s.tap i) := by
  have upTo : ∀ k, k ≤ 128 → ∀ v, v = (List.range k).foldl
      (fun s t => if (s.tap t).withheld && (s.activeEntry t).line = some n then takeActiveRoute t s else s) s →
      (∀ j, v.activeEntry j = s.activeEntry j)
      ∧ ∀ j, v.tap j = if j < k then freedTap (fun m => decide (m = n)) (s.activeEntry j) (s.tap j) else s.tap j := by
    intro k
    induction k with
    | zero => rintro _ v rfl; exact ⟨fun _ => rfl, fun j => by simp⟩
    | succ k ih =>
      intro hk v hv
      rw [List.range_succ, List.foldl_append, List.foldl_cons, List.foldl_nil] at hv
      obtain ⟨entry, tap⟩ := ih (by omega) _ rfl
      generalize (List.range k).foldl
        (fun s t => if (s.tap t).withheld && (s.activeEntry t).line = some n then takeActiveRoute t s else s) s = u at hv entry tap
      have own : u.tap k = s.tap k := by rw [tap, if_neg (Nat.lt_irrefl k)]
      have freed : ((u.tap k).withheld && decide ((u.activeEntry k).line = some n)) = true
          ↔ (s.tap k).withheld = true ∧ ∃ m, (s.activeEntry k).line = some m ∧ decide (m = n) = true := by
        rw [own, entry]
        simp
      by_cases hf : (s.tap k).withheld = true ∧ ∃ m, (s.activeEntry k).line = some m ∧ decide (m = n) = true
      · rw [if_pos (freed.mpr hf)] at hv
        subst hv
        refine ⟨entry, fun j => ?_⟩
        rw [takeActiveRoute_tap (by omega), entry, tap]
        rcases Nat.lt_trichotomy j k with h | h | h
        · simp [h, Nat.lt_succ_of_lt h, Nat.ne_of_gt h]
        · subst h
          rw [if_pos rfl, if_neg (Nat.lt_irrefl j), if_pos (Nat.lt_succ_self j), freedTap, if_pos hf]
        · simp [Nat.not_lt.mpr (Nat.le_of_lt h), show ¬ j < k + 1 by omega, Nat.ne_of_lt h]
      · rw [if_neg (fun h => hf (freed.mp h))] at hv
        subst hv
        refine ⟨entry, fun j => ?_⟩
        rw [tap]
        rcases Nat.lt_trichotomy j k with h | h | h
        · simp [h, Nat.lt_succ_of_lt h]
        · subst h
          simp only [Nat.lt_irrefl, if_false, Nat.lt_succ_self, if_true]
          exact (if_neg hf).symm
        · simp [Nat.not_lt.mpr (Nat.le_of_lt h), show ¬ j < k + 1 by omega]
  have all := (upTo 128 (Nat.le_refl _) _ rfl).2 i
  rw [if_pos hi] at all
  exact all

/-- What the end of line `n`'s part in a batch of circuit `c` leaves. -/
structure LineEnded (c : Circuit) (ending : BatchEnd) (n : Nat) (s t : State) : Prop where
  line : t.line n = leftLine (decide (ending = .completed)) s.time (s.line n)
  others : ∀ m, m ≠ n → t.line m = s.line m
  tap : ∀ i, i < 128 → t.tap i = freedTap (fun m => decide (m = n)) (s.activeEntry i) (s.tap i)
  acct : t.acct = (takeRecord (cleanRecord c ending n s) s).acct
  told : { key := .line n, cause := if ending = .completed ∧ (s.line n).holds.overdue = true then .lineHold else .lineState }
    ∈ t.link.notices
  quiet : NoticesOnly [.journal, .line n] s t
  frame : t = { s with
    acct := t.acct, cellar := { s.cellar with lines := t.cellar.lines }, pour := { s.pour with taps := t.pour.taps }
    link := { s.link with notices := t.link.notices }}

section line

variable {c : Circuit} {ending : BatchEnd} {n : Nat} {s : State}

/-- The line has left CLEANING and its clean, where it is COMPLETED, is recorded. -/
def lineLeft (done : Bool) (n : Nat) (s : State) : State :=
  if done then recordClean n (moveLine n (leftState (s.line n).mark) s) else moveLine n (leftState (s.line n).mark) s

theorem recordClean_onlyLine (n : Nat) (s : State) : OnlyLine n s (recordClean n s) :=
  onlyLine_trans (modLine_onlyLine n s _) (changeHolds_onlyLine n _ _)

theorem lineLeft_onlyLine (done : Bool) : OnlyLine n s (lineLeft done n s) :=
  ite_closed (P := OnlyLine n s) (onlyLine_trans (moveLine_onlyLine n s _) (recordClean_onlyLine n _)) (moveLine_onlyLine n s _)

theorem lineLeft_line (hn : n < 48) (done : Bool) : (lineLeft done n s).line n = leftLine done s.time (s.line n) := by
  have time : (moveLine n (leftState (s.line n).mark) s).time = s.time :=
    State.time_congr (moveLine_onlyLine n s _).1.2.2.2.2.2.1
  cases done with
  | true =>
    show (recordClean n (moveLine n (leftState (s.line n).mark) s)).line n = _
    unfold recordClean
    simp only []
    rw [changeHolds_line _ _ _ hn, modLine_line _ _ _ hn, moveLine_line _ _ _ hn, time]
    simp [leftLine]
  | false =>
    show (moveLine n (leftState (s.line n).mark) s).line n = _
    rw [moveLine_line _ _ _ hn]
    simp [leftLine]

/-- A recorded clean posts HOLD where it takes OVERDUE away. -/
theorem recordClean_notices (hn : n < 48) : (recordClean n s).link.notices =
    if (s.line n).holds.overdue = true then mergeNotice (.line n) .lineHold s.link.notices else s.link.notices := by
  have recorded : ∀ f : Line → Line, (f (s.line n)).holds = (s.line n).holds →
      (changeHolds n { ((s.modLine n f).line n).holds with overdue := false } (s.modLine n f)).link.notices =
        if (s.line n).holds.overdue = true then mergeNotice (.line n) .lineHold s.link.notices else s.link.notices := by
    intro f hf
    rw [changeHolds_notices, modLine_line _ _ _ hn, hf]
    by_cases ho : (s.line n).holds.overdue = true
    · have changed : { (s.line n).holds with overdue := false } ≠ (s.line n).holds := fun h => by
        have := congrArg HoldSet.overdue h
        simp [ho] at this
      rw [if_pos ho]
      exact if_neg changed
    · have same : { (s.line n).holds with overdue := false } = (s.line n).holds := by
        rw [Bool.not_eq_true] at ho
        rw [← ho]
      rw [if_neg ho]
      exact if_pos same
  exact recorded _ rfl

theorem lineLeft_told (hn : n < 48) (hs : (s.line n).state = .cleaning) (done : Bool) :
    { key := .line n, cause := if done = true ∧ (s.line n).holds.overdue = true then .lineHold else .lineState }
      ∈ (lineLeft done n s).link.notices := by
  have moved : { key := .line n, cause := .lineState } ∈ (moveLine n (leftState (s.line n).mark) s).link.notices := by
    rw [moveLine_notices, if_neg]
    · exact mem_mergeNotice_self _ _ _
    · rw [hs, leftState]
      split <;> simp
  have overdue : ((moveLine n (leftState (s.line n).mark) s).line n).holds.overdue = (s.line n).holds.overdue := by
    rw [moveLine_line _ _ _ hn]
  have recorded := recordClean_notices (s := moveLine n (leftState (s.line n).mark) s) hn
  rw [overdue] at recorded
  cases done with
  | false =>
    rw [if_neg (by simp)]
    exact moved
  | true =>
    show _ ∈ (recordClean n (moveLine n (leftState (s.line n).mark) s)).link.notices
    rw [recorded]
    by_cases ho : (s.line n).holds.overdue = true
    · simp only [ho, and_self, if_true]
      exact mem_mergeNotice_self _ _ _
    · rw [if_neg ho, if_neg fun h => ho h.2]
      exact moved

theorem lineLeft_quiet (done : Bool) : NoticesOnly [.line n] s (lineLeft done n s) := by
  have moved := moveLine_quiet n s (leftState (s.line n).mark)
  exact ite_quiet (noticesOnly_trans moved (noticesOnly_trans (setLine_quiet _ n _ _) (changeHolds_quiet n _ _))) moved

theorem endLine_eq : endLine c ending n s
    = resolveWithheld n (lineLeft (decide (ending = .completed)) n (takeRecord (cleanRecord c ending n s) s)) := rfl

/-- One line of a batch that ends. -/
theorem endLine_ended (hn : n < 48) (hs : (s.line n).state = .cleaning) : LineEnded c ending n s (endLine c ending n s) := by
  have taken := takeRecord_frame (cleanRecord c ending n s) s
  have cellar := takeRecord_cellar s (cleanRecord c ending n s)
  have pour := takeRecord_pour s (cleanRecord c ending n s)
  have quiet := takeRecord_quiet s (cleanRecord c ending n s)
  rw [endLine_eq]
  generalize hu : takeRecord (cleanRecord c ending n s) s = u at taken cellar pour quiet
  have time : u.time = s.time := State.time_congr ((congrArg State.store taken).trans rfl)
  have line : ∀ m, u.line m = s.line m := State.line_congr cellar
  have only := lineLeft_onlyLine (n := n) (s := u) (decide (ending = .completed))
  have left := lineLeft_line (s := u) hn (decide (ending = .completed))
  have told := lineLeft_told (s := u) hn ((congrArg Line.state (line n)).trans hs) (decide (ending = .completed))
  have quiet' := lineLeft_quiet (n := n) (s := u) (decide (ending = .completed))
  generalize lineLeft (decide (ending = .completed)) n u = v at only left told quiet'
  have frame := resolveWithheld_frame n v
  have vpour : v.pour = s.pour := only.2.1.trans pour
  have entry : ∀ i, v.activeEntry i = s.activeEntry i := State.activeEntry_congr vpour
  have tap : ∀ i, v.tap i = s.tap i := State.tap_congr vpour
  have lines : ∀ m, (resolveWithheld n v).line m = v.line m := State.line_congr ((congrArg State.cellar frame).trans rfl)
  have link : (resolveWithheld n v).link = v.link := (congrArg State.link frame).trans rfl
  have done : (decide (ending = .completed) = true ∧ (u.line n).holds.overdue = true)
      ↔ (ending = .completed ∧ (s.line n).holds.overdue = true) := by rw [decide_eq_true_eq, line]
  refine ⟨?_, fun m hm => ?_, fun i hi => ?_, ?_, ?_, ?_, ?_⟩
  · rw [lines, left, time, line]
  · rw [lines, only.1.1 m hm, line]
  · rw [resolveWithheld_tap n v hi, entry, tap]
  · rw [hu, ← only.2.2.2]
    exact (congrArg State.acct frame).trans rfl
  · rw [link]
    simp only [done] at told
    exact told
  · refine noticesOnly_trans (noticesOnly_mono quiet (by simp)) (noticesOnly_trans (noticesOnly_mono quiet' (by simp)) ?_)
    exact noticesOnly_of_link link
  · have moved := linesOnly_of_onlyLine only
    generalize resolveWithheld n v = t at frame
    unfold LinesOnly at moved
    rw [frame, moved, taken]

end line

/-! #### The end of a batch (R169) -/

/-- A record's place in the accounts follows from them and from the time. -/
theorem takeRecord_acct_congr {s t : State} (acct : t.acct = s.acct) (store : t.store = s.store) (b : RecordBody) :
    (takeRecord b t).acct = (takeRecord b s).acct := by
  have record : t.recordOf b = s.recordOf b := by simp only [State.recordOf, State.time, acct, store]
  unfold takeRecord storeRecord noteHigh noteFull
  rw [record, acct]
  by_cases h : s.acct.stores b = true
  · simp only [h, if_true]
    split <;> rfl
  · simp only [h, Bool.false_eq_true, if_false]
    split
    · rfl
    · rfl

theorem takeRecord_store (b : RecordBody) (s : State) : (takeRecord b s).store = s.store :=
  (congrArg State.store (takeRecord_frame b s)).trans rfl

theorem takeRecords_acct_congr {α : Type} (f : α → RecordBody) (L : List α) : ∀ {s t : State}, t.acct = s.acct → t.store = s.store →
    (L.foldl (fun u x => takeRecord (f x) u) t).acct = (L.foldl (fun u x => takeRecord (f x) u) s).acct := by
  induction L with
  | nil => exact fun h _ => h
  | cons x L ih =>
    intro s t acct store
    exact ih (takeRecord_acct_congr acct store _) (by rw [takeRecord_store, takeRecord_store, store])

/-- What the end of the parts of the lines `L` in a batch of circuit `c` leaves. -/
structure LinesEnded (c : Circuit) (ending : BatchEnd) (L : List Nat) (s t : State) : Prop where
  line : ∀ n ∈ L, t.line n = leftLine (decide (ending = .completed)) s.time (s.line n)
  others : ∀ n, n ∉ L → t.line n = s.line n
  tap : ∀ i, i < 128 → t.tap i = freedTap (fun m => decide (m ∈ L)) (s.activeEntry i) (s.tap i)
  acct : t.acct = (L.foldl (fun u n => takeRecord (cleanRecord c ending n s) u) s).acct
  told : ∀ n ∈ L, { key := .line n, cause := if ending = .completed ∧ (s.line n).holds.overdue = true then .lineHold else .lineState }
    ∈ t.link.notices
  quiet : NoticesOnly (.journal :: L.map .line) s t
  frame : t = { s with
    acct := t.acct, cellar := { s.cellar with lines := t.cellar.lines }, pour := { s.pour with taps := t.pour.taps }
    link := { s.link with notices := t.link.notices }}

theorem freedTap_pos {left : Nat → Bool} {entry : Route} {x : Tap} (hw : x.withheld = true)
    (hl : ∃ n, entry.line = some n ∧ left n = true) : freedTap left entry x = { x with route := entry, withheld := false } :=
  if_pos ⟨hw, hl⟩

theorem freedTap_neg {left : Nat → Bool} {entry : Route} {x : Tap}
    (h : ¬ (x.withheld = true ∧ ∃ n, entry.line = some n ∧ left n = true)) : freedTap left entry x = x := if_neg h

/-- Two sets of lines leave CLEANING one after the other. -/
theorem freedTap_freedTap (left left' : Nat → Bool) (entry : Route) (x : Tap) :
    freedTap left' entry (freedTap left entry x) = freedTap (fun m => left m || left' m) entry x := by
  by_cases hw : x.withheld = true
  · by_cases hl : ∃ n, entry.line = some n ∧ left n = true
    · rw [freedTap_pos hw hl, freedTap_pos hw (hl.imp fun n h => ⟨h.1, by simp [h.2]⟩), freedTap_neg]
      exact fun h => absurd h.1 Bool.false_ne_true
    · rw [freedTap_neg fun h => hl h.2]
      by_cases hl' : ∃ n, entry.line = some n ∧ left' n = true
      · rw [freedTap_pos hw hl', freedTap_pos hw (hl'.imp fun n h => ⟨h.1, by simp [h.2]⟩)]
      · rw [freedTap_neg fun h => hl' h.2, freedTap_neg]
        rintro ⟨_, n, hn, h⟩
        exact (Bool.or_eq_true_iff.mp h).elim (fun h => hl ⟨n, hn, h⟩) fun h => hl' ⟨n, hn, h⟩
  · rw [freedTap_neg fun h => hw h.1, freedTap_neg fun h => hw h.1, freedTap_neg fun h => hw h.1]

theorem cleanRecord_congr {c : Circuit} {ending : BatchEnd} {n : Nat} {s t : State} (clean : t.clean = s.clean)
    (line : t.line n = s.line n) : cleanRecord c ending n t = cleanRecord c ending n s := by
  simp only [cleanRecord, stepsIn, State.circuit_congr clean, State.programSlot_congr clean, line]

/-- The lines of a batch leave CLEANING one after another. -/
theorem endLines_ended (c : Circuit) (ending : BatchEnd) {L : List Nat} (once : L.Nodup) {s : State}
    (hL : ∀ n ∈ L, n < 48 ∧ (s.line n).state = .cleaning) : LinesEnded c ending L s (L.foldl (fun s n => endLine c ending n s) s) := by
  induction L generalizing s with
  | nil =>
    rw [List.foldl_nil]
    refine ⟨by simp, fun _ _ => rfl, fun i _ => ?_, by rw [List.foldl_nil], by simp, noticesOnly_refl _ s, rfl⟩
    exact (if_neg (by simp)).symm
  | cons n L ih =>
    obtain ⟨hn, once⟩ := List.nodup_cons.mp once
    have first := endLine_ended (c := c) (ending := ending) (hL n List.mem_cons_self).1 (hL n List.mem_cons_self).2
    have clean := endLine_clean c ending n s
    have ne : ∀ m ∈ L, m ≠ n := fun m hm h => hn (h ▸ hm)
    rw [List.foldl_cons]
    generalize endLine c ending n s = v at first clean
    have rest := ih once (s := v) fun m hm =>
      ⟨(hL m (List.mem_cons_of_mem _ hm)).1, by rw [first.others m (ne m hm)]; exact (hL m (List.mem_cons_of_mem _ hm)).2⟩
    generalize L.foldl (fun s n => endLine c ending n s) v = t at rest
    have store : v.store = s.store := (congrArg State.store first.frame).trans rfl
    have entry : ∀ i, v.activeEntry i = s.activeEntry i := fun i => by
      rw [first.frame]
      rfl
    refine ⟨fun m hm => ?_, fun m hm => ?_, fun i hi => ?_, ?_, fun m hm => ?_, ?_, ?_⟩
    · rcases List.mem_cons.mp hm with rfl | hm
      · rw [rest.others m hn, first.line]
      · rw [rest.line m hm, first.others m (ne m hm), State.time_congr store]
    · simp only [List.mem_cons, not_or] at hm
      rw [rest.others m hm.2, first.others m hm.1]
    · rw [rest.tap i hi, first.tap i hi, entry, freedTap_freedTap]
      simp only [List.mem_cons, Bool.decide_or]
    · have same : L.foldl (fun u m => takeRecord (cleanRecord c ending m v) u) v
          = L.foldl (fun u m => takeRecord (cleanRecord c ending m s) u) v :=
        List.foldl_ext _ _ _ fun u m hm => by rw [cleanRecord_congr clean (first.others m (ne m hm))]
      rw [rest.acct, same, List.foldl_cons]
      exact takeRecords_acct_congr _ L first.acct (by rw [takeRecord_store, store])
    · rcases List.mem_cons.mp hm with rfl | hm
      · exact (rest.quiet _ (by simpa using hn)).mpr first.told
      · have told := rest.told m hm
        rwa [first.others m (ne m hm)] at told
    · refine noticesOnly_trans (noticesOnly_mono first.quiet (by simp)) (noticesOnly_mono rest.quiet ?_)
      intro k hk
      rcases List.mem_cons.mp hk with rfl | hk
      · exact List.mem_cons_self
      · exact List.mem_cons_of_mem _ (List.mem_cons_of_mem _ hk)
    · have frame := rest.frame
      rw [first.frame] at frame
      exact frame

/-- The record of a circuit whose batch has ended. -/
def CircuitRec.ended (r : CircuitRec) (ending : BatchEnd) : CircuitRec :=
  { r with state := .idle, batch := [], program := none, pauseCause := none, lastEnd := some ending }

theorem endBatch_eq (c : Circuit) (ending : BatchEnd) (s : State) : endBatch c ending s = post (.circuit c) (endCauseOf ending)
    (((s.circuit c).batch.foldl (fun s n => endLine c ending n s) s).modCircuit c fun r => r.ended ending) := rfl

/-- What the end of a batch leaves. -/
theorem endBatch_spec (c : Circuit) (ending : BatchEnd) {s : State} (once : (s.circuit c).batch.Nodup)
    (hL : ∀ n ∈ (s.circuit c).batch, n < 48 ∧ (s.line n).state = .cleaning) : let t := endBatch c ending s
    (∀ n ∈ (s.circuit c).batch, t.line n = leftLine (decide (ending = .completed)) s.time (s.line n))
      ∧ (∀ n, n ∉ (s.circuit c).batch → t.line n = s.line n)
      ∧ (∀ i, i < 128 → t.tap i = freedTap (fun m => decide (m ∈ (s.circuit c).batch)) (s.activeEntry i) (s.tap i))
      ∧ t.acct = ((s.circuit c).batch.foldl (fun u n => takeRecord (cleanRecord c ending n s) u) s).acct
      ∧ t.circuit c = (s.circuit c).ended ending
      ∧ { key := .circuit c, cause := endCauseOf ending } ∈ t.link.notices
      ∧ (∀ n ∈ (s.circuit c).batch,
          { key := .line n, cause := if ending = .completed ∧ (s.line n).holds.overdue = true then .lineHold else .lineState }
            ∈ t.link.notices)
      ∧ NoticesOnly (.circuit c :: .journal :: (s.circuit c).batch.map .line) s t
      ∧ t = { s with
          acct := t.acct, clean := { s.clean with circuits := s.clean.circuits.put c (t.circuit c) }
          cellar := { s.cellar with lines := t.cellar.lines }, pour := { s.pour with taps := t.pour.taps }
          link := { s.link with notices := t.link.notices }} := by
  have lines := endLines_ended c ending once hL
  intro t
  have ended : t = post (.circuit c) (endCauseOf ending)
    (((s.circuit c).batch.foldl (fun s n => endLine c ending n s) s).modCircuit c fun r => r.ended ending) := rfl
  generalize (s.circuit c).batch.foldl (fun s n => endLine c ending n s) s = v at lines ended
  have clean : v.clean = s.clean := (congrArg State.clean lines.frame).trans rfl
  have circuit : t.circuit c = (s.circuit c).ended ending := by
    rw [ended, ← State.circuit_congr clean c]
    exact State.circuit_setCircuit_self v c _
  have after : NoticesOnly [.circuit c] v t := by
    rw [ended]
    exact post_quiet _ _ (v.modCircuit c fun r => r.ended ending)
  refine ⟨?_, ?_, ?_, ?_, circuit, ?_, fun n hn => (after _ (by simp)).mpr (lines.told n hn), ?_, ?_⟩
  · rw [ended]
    exact lines.line
  · rw [ended]
    exact lines.others
  · rw [ended]
    exact lines.tap
  · rw [ended]
    exact lines.acct
  · rw [ended]
    exact mem_post _ _ _
  · exact noticesOnly_trans (noticesOnly_mono lines.quiet (List.subset_cons_self _ _)) (noticesOnly_mono after (by simp))
  · rw [circuit, ended, ← State.circuit_congr clean c]
    have frame := lines.frame
    rw [frame]
    rfl

theorem activeEntry_eq (s : State) (i : Nat) :
    s.activeEntry i = mapEntry (if s.pour.active = .a then s.pour.mapA else s.pour.mapB) i := by
  unfold State.activeEntry
  cases s.pour.active <;> rfl

/-! #### The LOCKOUT fault (R168) -/

theorem inBatch_iff (s : State) (c : Circuit) (n : Nat) :
    inBatch s c n = true ↔ (s.circuit c).state ≠ .idle ∧ n ∈ (s.circuit c).batch := by
  simp [inBatch]

theorem lockoutFault_spec (n : Nat) (s : State) :
    ((s.circuit .a).state ≠ .idle ∧ n ∈ (s.circuit .a).batch → lockoutFault n s = finishBatch .a (.fault .lockout) s)
      ∧ (¬ ((s.circuit .a).state ≠ .idle ∧ n ∈ (s.circuit .a).batch) → (s.circuit .b).state ≠ .idle ∧ n ∈ (s.circuit .b).batch →
          lockoutFault n s = finishBatch .b (.fault .lockout) s)
      ∧ (¬ ((s.circuit .a).state ≠ .idle ∧ n ∈ (s.circuit .a).batch) →
          ¬ ((s.circuit .b).state ≠ .idle ∧ n ∈ (s.circuit .b).batch) → lockoutFault n s = s) := by
  unfold lockoutFault
  simp only [inBatch_iff]
  exact ⟨fun ha => if_pos ha, fun ha hb => (if_neg ha).trans (if_pos hb), fun ha hb => (if_neg ha).trans (if_neg hb)⟩

/-- A lockout released on line `n` of the batch of one circuit ends that batch. -/
theorem lockoutFault_of_batch {n : Nat} {s : State} (c : Circuit) (hs : (s.circuit c).state ≠ .idle) (hn : n ∈ (s.circuit c).batch)
    (others : ∀ d, d ≠ c → n ∉ (s.circuit d).batch) : lockoutFault n s = finishBatch c (.fault .lockout) s := by
  obtain ⟨inA, inB, -⟩ := lockoutFault_spec n s
  cases c with
  | a => exact inA ⟨hs, hn⟩
  | b => exact inB (fun h => others .a (by decide) h.2) ⟨hs, hn⟩

theorem reportLockout_released {i n : Nat} {s : State} (hr : (s.tap i).route.line = some n) (hl : (s.tap i).lockout = true) :
    reportLockout i false s = lockoutFault n (evalDrain n (s.setTap i { s.tap i with lockout := false })) := by
  unfold reportLockout
  rw [hl, hr]
  rfl

/-- Settles O48: taking, serving, ending, the drain condition and the fault, each by its own lemma. -/
theorem batches : Obligations.Batches := by
  intro c s
  refine ⟨fun h => serve_of_none (takeBatch_none h), fun e hi laws he => ?_, fun ending once hL => ?_, fun n => evalDrain_evaluated n s,
    fun n => lockoutFault_spec n s, fun i n hi hr hl => ⟨⟨_, evalDrain_evaluated n _, reportLockout_released hr hl⟩, fun hs hc hn hd => ?_⟩⟩
  · obtain ⟨nodup, -, -, ready⟩ := laws
    have took := takeBatch_idle hi he
    have once : (batchOf s e).Nodup := nodup.sublist ((takenEntries_sublist _ _).map _)
    have queued : ∀ n ∈ batchOf s e, (s.line n).state = .queued := fun n hn => by
      obtain ⟨x, hx, rfl⟩ := List.mem_map.mp hn
      obtain ⟨hq, hr⟩ := mem_takenEntries hx
      exact (ready x hq).mp hr
    obtain ⟨queue, lines, circuit, others, programs, started, told, quiet, frame⟩ := batchTaken_spec (c := c) once queued
    exact ⟨batchTaken c e s, took, queue, lines, circuit, others, programs, started, told, quiet, frame, serve_begun took,
      fun f => serve_faulted took⟩
  · obtain ⟨lines, others, taps, acct, circuit, posted, told, quiet, frame⟩ := endBatch_spec c ending once hL
    have entry := fun i => activeEntry_eq s i
    refine ⟨acct, fun n hn => (lines n hn).trans ?_, others, fun i hi => ⟨fun hf => ?_, fun hf => ?_⟩, circuit, posted, told, quiet, frame,
      rfl⟩
    · simp only [leftLine, decide_eq_true_eq]
      rfl
    · obtain ⟨hw, n, hn, hl⟩ := hf
      rw [taps i hi, entry, freedTap_pos hw ⟨n, hl, decide_eq_true hn⟩]
    · rw [taps i hi, entry, freedTap_neg]
      rintro ⟨hw, n, hl, hn⟩
      exact hf ⟨hw, n, of_decide_eq_true hn, hl⟩
  · rw [reportLockout_released hr hl, evalDrain_other]
    · exact lockoutFault_of_batch c hc hn hd
    · exact fun h => by
        have state : (s.line n).state = .draining := h
        rw [hs] at state
        exact absurd state (by decide)
    · exact fun h => by
        have state : (s.line n).state = .queued := h
        rw [hs] at state
        exact absurd state (by decide)

end Sys2Proof.Machine
end

section
/-! ### What the evaluation of a drain condition can reach

`CleansOnly` bounds what draining, taking a batch and a batch that ends with a fault do to the part, `TapsFreed` what they do to the taps. -/

namespace Sys2Proof.Machine

open Sys2Proof Sys2Proof.Safety

/-- From `s` to `t` at most the states and marks of the lines `L`, the records of the circuits `C`, entries that leave the queue, CLEAN
records, notices and taps change. -/
structure CleansOnly (L : Nat → Prop) (C : Circuit → Prop) (s t : State) : Prop where
  line : ∀ n, t.line n = { s.line n with state := (t.line n).state, mark := (t.line n).mark }
  others : ∀ n, ¬ L n → t.line n = s.line n
  circuit : ∀ c, ¬ C c → t.circuit c = s.circuit c
  entered : ∀ n, Entered n t → Entered n s
  journal : s.acct.journal <+: t.acct.journal
  acct : t.acct = { s.acct with
    journal := t.acct.journal, nextSeq := t.acct.nextSeq, highNoted := t.acct.highNoted, fullNoted := t.acct.fullNoted
    unstoredClean := t.acct.unstoredClean }
  frame : t = { s with
    cellar := { s.cellar with lines := t.cellar.lines }, pour := { s.pour with taps := t.pour.taps }, acct := t.acct
    clean := { s.clean with queue := t.clean.queue, circuits := t.clean.circuits }
    link := { s.link with notices := t.link.notices } }

section cleansOnly

variable {L L' : Nat → Prop} {C C' : Circuit → Prop} {s t u : State}

theorem CleansOnly.refl (L : Nat → Prop) (C : Circuit → Prop) (s : State) : CleansOnly L C s s :=
  ⟨fun _ => rfl, fun _ _ => rfl, fun _ _ => rfl, fun _ h => h, List.prefix_refl _, rfl, rfl⟩

theorem CleansOnly.trans (h : CleansOnly L C s t) (k : CleansOnly L C t u) : CleansOnly L C s u where
  line n := by rw [k.line n, h.line n]
  others n hn := (k.others n hn).trans (h.others n hn)
  circuit c hc := (k.circuit c hc).trans (h.circuit c hc)
  entered n hn := h.entered n (k.entered n hn)
  journal := h.journal.trans k.journal
  acct := by rw [k.acct, h.acct]
  frame := by rw [k.frame, h.frame]

theorem CleansOnly.mono (h : CleansOnly L C s t) (hL : ∀ n, L n → L' n) (hC : ∀ c, C c → C' c) : CleansOnly L' C' s t :=
  { h with others := fun n hn => h.others n fun hx => hn (hL n hx), circuit := fun c hc => h.circuit c fun hx => hc (hC c hx) }

/-- An update that leaves lines, circuits, queue and accounts. -/
theorem cleansOnly_of_frame (hp : t = { s with
    pour := { s.pour with taps := t.pour.taps }, link := { s.link with notices := t.link.notices } }) : CleansOnly L C s t := by
  rw [hp]
  exact ⟨fun _ => rfl, fun _ _ => rfl, fun _ _ => rfl, fun _ h => h, List.prefix_refl _, rfl, rfl⟩

theorem setTap_cleansOnly (i : Nat) (x : Tap) (s : State) : CleansOnly L C s (s.setTap i x) := cleansOnly_of_frame rfl

theorem post_cleansOnly (k : NoticeKey) (c : NoticeCause) (s : State) : CleansOnly L C s (post k c s) := cleansOnly_of_frame rfl

theorem setLine_cleansOnly {n : Nat} (hn : L n) (st : ServiceState) (mark : Bool) (s : State) :
    CleansOnly L C s (s.setLine n { s.line n with state := st, mark := mark }) := by
  refine ⟨fun m => ?_, fun m hm => State.line_setLine_ne s n m _ (fun h => hm (h ▸ hn)), fun _ _ => rfl, fun _ h => h, List.prefix_refl _,
    rfl, rfl⟩
  rw [State.line_setLine]
  split
  · rename_i h
    rw [h.1]
  · rfl

theorem moveLine_cleansOnly {n : Nat} (hn : L n) (st : ServiceState) (s : State) : CleansOnly L C s (moveLine n st s) :=
  ite_closed (P := CleansOnly L C s) (.refl L C s) ((setLine_cleansOnly hn st _ s).trans (post_cleansOnly _ _ _))

/-- The queue keeps at most its lines. -/
theorem setQueue_cleansOnly {q : List QueueEntry} (h : ∀ e ∈ q, Entered e.line s) :
    CleansOnly L C s { s with clean := { s.clean with queue := q } } :=
  ⟨fun _ => rfl, fun _ _ => rfl, fun _ _ => rfl, fun _ ⟨e, he, hn⟩ => hn ▸ h e he, List.prefix_refl _, rfl, rfl⟩

theorem setCircuit_cleansOnly {c : Circuit} (hc : C c) (r : CircuitRec) (s : State) : CleansOnly L C s (s.setCircuit c r) where
  line _ := rfl
  others _ _ := rfl
  circuit d hd := State.circuit_setCircuit_ne s c d r fun h => hd (h ▸ hc)
  entered _ h := h
  journal := List.prefix_refl _
  acct := rfl
  frame := rfl

theorem takeRecord_prefix (b : RecordBody) (s : State) : s.acct.journal <+: (takeRecord b s).acct.journal := by
  have counted : (s.acct.countUnstored b).journal = s.acct.journal := by cases b <;> rfl
  by_cases h : s.acct.stores b = true
  · rw [takeRecord_stored h]
    exact List.prefix_append _ _
  · rw [takeRecord_unstored h]
    exact counted ▸ List.prefix_refl _

/-- A CLEAN record is taken. -/
theorem takeClean_cleansOnly (n : Nat) (c : Circuit) (p k m : Nat) (e : BatchEnd) (b : Bool) (w v : Nat) (s : State) :
    CleansOnly L C s (takeRecord (.clean n c p k m e b w v) s) := by
  refine ⟨fun _ => ?_, fun _ _ => ?_, fun _ _ => ?_, fun _ h => ?_, takeRecord_prefix _ s, ?_, ?_⟩
  · rw [State.line_congr (takeRecord_cellar s _)]
  · exact State.line_congr (takeRecord_cellar s _) _
  · exact State.circuit_congr ((congrArg State.clean (takeRecord_frame _ s)).trans rfl) _
  · rw [takeRecord_frame] at h
    exact h
  · by_cases h : s.acct.stores (.clean n c p k m e b w v) = true
    · rw [takeRecord_stored h]
      rfl
    · rw [takeRecord_unstored h]
      rfl
  · have frame := takeRecord_frame (.clean n c p k m e b w v) s
    generalize takeRecord (.clean n c p k m e b w v) s = t at frame
    rw [frame]

/-! #### Taking, beginning and a fault -/

theorem resolveWithheld_cleansOnly (n : Nat) (s : State) : CleansOnly L C s (resolveWithheld n s) := by
  have frame := resolveWithheld_frame n s
  generalize resolveWithheld n s = t at frame
  exact cleansOnly_of_frame (by rw [frame])

theorem endLine_cleansOnly {n : Nat} (hn : L n) (c : Circuit) (f : FaultKind) (s : State) :
    CleansOnly L C s (endLine c (.fault f) n s) := by
  unfold endLine leaveCleaning
  simp only []
  have taken := takeClean_cleansOnly (L := L) (C := C) n c ((s.circuit c).program.getD 0) (s.circuit c).stepsDone
    (stepsIn s ((s.circuit c).program.getD 0)) (.fault f) (s.line n).mark (s.circuit c).water (s.circuit c).solution s
  generalize takeRecord _ s = u at taken
  have moved := moveLine_cleansOnly (L := L) (C := C) hn (if (u.line n).mark then .foul else .rinsed) u
  rw [if_neg (by simp)]
  exact (taken.trans moved).trans (resolveWithheld_cleansOnly n _)

/-- A property kept along a list by what each element does. -/
theorem cleansOnly_foldl {α : Type} {f : State → α → State} {l : List α} (h : ∀ x ∈ l, ∀ u, CleansOnly L C u (f u x)) (s : State) :
    CleansOnly L C s (l.foldl f s) :=
  List.foldlRecOn l f (motive := CleansOnly L C s) (.refl L C s) fun u hu x hx => hu.trans (h x hx u)

theorem endBatch_cleansOnly {c : Circuit} (hL : ∀ n ∈ (s.circuit c).batch, L n) (hC : C c) (f : FaultKind) :
    CleansOnly L C s (endBatch c (.fault f) s) :=
  ((cleansOnly_foldl (fun n hn u => endLine_cleansOnly (hL n hn) c f u) s).trans (setCircuit_cleansOnly hC _ _)).trans
    (post_cleansOnly _ _ _)

theorem markBatch_cleansOnly {c : Circuit} (hL : ∀ n ∈ (s.circuit c).batch, L n) (on : Bool) : CleansOnly L C s (markBatch c on s) :=
  cleansOnly_foldl (fun n hn u => setLine_cleansOnly (hL n hn) _ on u) s

theorem beginStep_cleansOnly {c : Circuit} (hL : ∀ n ∈ (s.circuit c).batch, L n) (hC : C c) : CleansOnly L C s (beginStep c s).1 := by
  unfold beginStep
  split
  · exact .refl L C s
  · rename_i st _
    have set : CleansOnly L C s (s.modCircuit c fun r => r.atStep st) := setCircuit_cleansOnly hC _ s
    have batch : ((s.modCircuit c fun r => r.atStep st).circuit c).batch = (s.circuit c).batch := by
      rw [State.modCircuit_eq, State.circuit_setCircuit_self]
      rfl
    simp only []
    split
    · exact set
    · split
      · exact set.trans (markBatch_cleansOnly (fun n hn => hL n (batch ▸ hn)) true)
      · exact (set.trans (setCircuit_cleansOnly hC _ _)).trans (post_cleansOnly _ _ _)
      all_goals exact set

/-- A circuit takes lines that have entries in the queue. -/
theorem takeBatch_cleansOnly {c : Circuit} (h : takeBatch c s = some t) (hL : ∀ n, Entered n s → L n) (hC : C c) :
    CleansOnly L C s t ∧ ∀ n ∈ (t.circuit c).batch, Entered n s := by
  obtain ⟨-, e, he, rfl⟩ := takeBatch_eq_some h
  have held : ∀ n ∈ batchOf s e, Entered n s := fun n hn => by
    obtain ⟨x, hx, rfl⟩ := List.mem_map.mp hn
    exact ⟨x, (mem_takenEntries hx).1, rfl⟩
  refine ⟨?_, fun n hn => held n ?_⟩
  · refine ((CleansOnly.trans (setQueue_cleansOnly (q := s.clean.queue.filter fun x => !(batchOf s e).contains x.line) ?_)
      (cleansOnly_foldl (fun n hn u => moveLine_cleansOnly (hL n (held n hn)) _ u) _)).trans (setCircuit_cleansOnly hC _ _)).trans
      (post_cleansOnly _ _ _)
    exact fun x hx => ⟨x, (List.mem_filter.mp hx).1, rfl⟩
  · have batch : (((((batchOf s e).foldl (fun s n => moveLine n .cleaning s) (s.dequeue (batchOf s e))).modCircuit c
        fun r => r.begun (batchOf s e) e.program)).circuit c).batch = batchOf s e := by
      rw [State.modCircuit_eq, State.circuit_setCircuit_self]
      rfl
    exact batch ▸ hn

theorem beginStep_batch (c : Circuit) (s : State) : ∀ f, (beginStep c s).2 = some f →
    ((beginStep c s).1.circuit c).batch = (s.circuit c).batch := by
  intro f hf
  rcases beginStep_cases c s with h | ⟨hn, -⟩
  · exact h.batch c
  · rw [hn] at hf
    exact absurd hf (by simp)

theorem serveQueue_cleansOnly {c : Circuit} (hC : C c) (fuel : Nat) :
    ∀ {s : State}, (∀ n, Entered n s → L n) → CleansOnly L C s (serveQueue fuel c s) := by
  induction fuel with
  | zero => exact fun _ => .refl L C _
  | succ fuel ih =>
    intro s hL
    unfold serveQueue
    split
    · exact .refl L C s
    · rename_i u hu
      obtain ⟨took, batch⟩ := takeBatch_cleansOnly (C := C) hu hL hC
      have begun := beginStep_cleansOnly (s := u) (c := c) (C := C) (fun n hn => hL n (batch n hn)) hC
      have kept := beginStep_batch c u
      split
      · rename_i v hv
        rw [hv] at begun
        exact took.trans begun
      · rename_i v f hv
        rw [hv] at begun kept
        have ended := endBatch_cleansOnly (s := v) (c := c) (C := C) (fun n hn => hL n (batch n (kept f rfl ▸ hn))) hC f
        have reached := (took.trans begun).trans ended
        exact reached.trans (ih fun n hn => hL n (reached.entered n hn))

end cleansOnly

/-- The line waits for a clean, or holds a place for one: only such a line is changed by the evaluation of drain conditions. -/
def AwaitsClean (s : State) (n : Nat) : Prop := (s.line n).state = .draining ∨ (s.line n).state = .queued ∨ Entered n s

/-- From `s` to `t` drain conditions are evaluated: at most waiting lines and IDLE circuits change. -/
abbrev Evaluates (s t : State) : Prop := CleansOnly (AwaitsClean s) (fun c => (s.circuit c).state = .idle) s t

theorem Evaluates.trans {s t u : State} (h : Evaluates s t) (k : Evaluates t u) : Evaluates s u := by
  refine CleansOnly.trans h (k.mono (fun n hn => ?_) fun c hc => ?_)
  · by_contra hs
    have same := h.others n hs
    rcases hn with hn | hn | hn
    · exact hs (.inl (by rw [← same]; exact hn))
    · exact hs (.inr (.inl (by rw [← same]; exact hn)))
    · exact hs (.inr (.inr (h.entered n hn)))
  · by_contra hs
    rw [h.circuit c hs] at hc
    exact hs hc

theorem serve_evaluates {c : Circuit} {s : State} (hc : (s.circuit c).state = .idle) : Evaluates s (serve c s) :=
  serveQueue_cleansOnly hc _ fun _ h => .inr (.inr h)

theorem serveReady_evaluates (s : State) : Evaluates s (serveReady s) := by
  rw [serveReady_eq]
  split
  · exact serve_evaluates ‹_›
  · split
    · exact serve_evaluates ‹_›
    · exact .refl _ _ s

theorem drainMoved_evaluates {n : Nat} {s : State} (hs : AwaitsClean s n) (st : ServiceState) (ready : Bool) :
    Evaluates s (drainMoved n st ready s) := by
  have moved : Evaluates s (post (.line n) .lineState (s.setLine n { s.line n with state := st })) :=
    CleansOnly.trans (setLine_cleansOnly hs st _ s) (post_cleansOnly _ _ _)
  refine CleansOnly.trans moved (setQueue_cleansOnly fun e he => ?_)
  obtain ⟨x, hx, rfl⟩ := List.mem_map.mp he
  refine ⟨x, hx, ?_⟩
  split <;> rfl

theorem evalDrain_evaluates (n : Nat) (s : State) : Evaluates s (evalDrain n s) := by
  by_cases hd : (s.line n).state = .draining
  · by_cases drained : Drained n s
    · rw [evalDrain_drained hd drained]
      exact (drainMoved_evaluates (.inl hd) _ _).trans (serveReady_evaluates _)
    · rw [evalDrain_undrained hd drained]
      exact .refl _ _ s
  · by_cases hq : (s.line n).state = .queued
    · by_cases drained : Drained n s
      · rw [evalDrain_queued hq drained]
        exact .refl _ _ s
      · rw [evalDrain_unqueued hq drained]
        exact drainMoved_evaluates (.inr (.inl hq)) _ _
    · rw [evalDrain_other hd hq]
      exact .refl _ _ s

end Sys2Proof.Machine
end

section
/-! ### What the evaluation of a drain condition does to the taps (R41) -/

namespace Sys2Proof.Machine

open Sys2Proof Sys2Proof.Safety

/-- From `s` to `t` at most withheld taps have taken their entries of the active map. -/
structure TapsFreed (s t : State) : Prop where
  tap : ∀ i, t.tap i = s.tap i ∨ (s.tap i).withheld = true ∧ t.tap i = { s.tap i with route := s.activeEntry i, withheld := false }
  entry : ∀ i, t.activeEntry i = s.activeEntry i

section tapsFreed

variable {s t u : State}

theorem tapsFreed_of_pour (h : t.pour = s.pour) : TapsFreed s t :=
  ⟨fun i => .inl (State.tap_congr h i), State.activeEntry_congr h⟩

theorem TapsFreed.refl (s : State) : TapsFreed s s := tapsFreed_of_pour rfl

theorem TapsFreed.trans (h : TapsFreed s t) (k : TapsFreed t u) : TapsFreed s u := by
  refine ⟨fun i => ?_, fun i => (k.entry i).trans (h.entry i)⟩
  have entry := h.entry i
  rcases h.tap i with same | ⟨hw, freed⟩ <;> rcases k.tap i with same' | ⟨hw', freed'⟩
  · exact .inl (same'.trans same)
  · rw [same] at hw' freed'
    exact .inr ⟨hw', by rw [freed', entry]⟩
  · exact .inr ⟨hw, same'.trans freed⟩
  · rw [freed] at hw'
    exact absurd hw' Bool.false_ne_true

theorem takeRecord_tapsFreed (b : RecordBody) (s : State) : TapsFreed s (takeRecord b s) := tapsFreed_of_pour (takeRecord_pour s b)

theorem moveLine_tapsFreed (n : Nat) (st : ServiceState) (s : State) : TapsFreed s (moveLine n st s) :=
  ite_closed (P := TapsFreed s) (.refl s) (tapsFreed_of_pour rfl)

theorem resolveWithheld_tapsFreed (n : Nat) (s : State) : TapsFreed s (resolveWithheld n s) := by
  refine ⟨fun i => ?_, fun i => ?_⟩
  · by_cases hi : i < 128
    · rw [resolveWithheld_tap n s hi, freedTap]
      split
      · rename_i h
        exact .inr ⟨h.1, rfl⟩
      · exact .inl rfl
    · rw [State.tap_of_ge (Nat.not_lt.mp hi), State.tap_of_ge (Nat.not_lt.mp hi)]
      exact .inl rfl
  · have frame := resolveWithheld_frame n s
    generalize resolveWithheld n s = t at frame
    rw [frame]
    rfl

theorem tapsFreed_foldl {α : Type} {f : State → α → State} (h : ∀ x u, TapsFreed u (f u x)) (l : List α) (s : State) :
    TapsFreed s (l.foldl f s) :=
  foldl_closed (P := TapsFreed s) (fun u x hu => hu.trans (h x u)) l s (.refl s)

theorem endLine_tapsFreed (c : Circuit) (f : FaultKind) (n : Nat) (s : State) : TapsFreed s (endLine c (.fault f) n s) := by
  unfold endLine leaveCleaning
  simp only []
  rw [if_neg (by simp)]
  exact ((takeRecord_tapsFreed _ s).trans (moveLine_tapsFreed n _ _)).trans (resolveWithheld_tapsFreed n _)

theorem endBatch_tapsFreed (c : Circuit) (f : FaultKind) (s : State) : TapsFreed s (endBatch c (.fault f) s) := by
  have lines := tapsFreed_foldl (endLine_tapsFreed c f) (s.circuit c).batch s
  rw [endBatch_eq]
  generalize (s.circuit c).batch.foldl _ s = u at lines
  exact lines.trans (tapsFreed_of_pour rfl)

theorem markBatch_tapsFreed (c : Circuit) (on : Bool) (s : State) : TapsFreed s (markBatch c on s) :=
  tapsFreed_foldl (f := fun s n => s.modLine n fun l => { l with mark := on }) (fun _ _ => tapsFreed_of_pour rfl) _ s

theorem beginStep_tapsFreed (c : Circuit) (s : State) : TapsFreed s (beginStep c s).1 := by
  unfold beginStep
  split
  · exact .refl s
  · rename_i st _
    have set : TapsFreed s (s.modCircuit c fun r => r.atStep st) := tapsFreed_of_pour rfl
    simp only []
    split
    · exact set
    · split
      · exact set.trans (markBatch_tapsFreed c true _)
      · exact set.trans (tapsFreed_of_pour rfl)
      all_goals exact set

theorem takeBatch_tapsFreed {c : Circuit} (h : takeBatch c s = some t) : TapsFreed s t := by
  obtain ⟨-, e, -, rfl⟩ := takeBatch_eq_some h
  have moved := tapsFreed_foldl (fun n u => moveLine_tapsFreed n .cleaning u) (batchOf s e) (s.dequeue (batchOf s e))
  generalize (batchOf s e).foldl _ (s.dequeue (batchOf s e)) = u at moved
  have taken : TapsFreed s u := ⟨moved.tap, moved.entry⟩
  exact taken.trans (tapsFreed_of_pour rfl)

theorem serveQueue_tapsFreed (c : Circuit) (fuel : Nat) : ∀ s, TapsFreed s (serveQueue fuel c s) := by
  induction fuel with
  | zero => exact .refl
  | succ fuel ih =>
    intro s
    unfold serveQueue
    split
    · exact .refl s
    · rename_i u hu
      have begun := beginStep_tapsFreed c u
      split <;> rename_i hv <;> rw [hv] at begun
      · exact (takeBatch_tapsFreed hu).trans begun
      · exact ((takeBatch_tapsFreed hu).trans begun).trans ((endBatch_tapsFreed c _ _).trans (ih _))

theorem serveReady_tapsFreed (s : State) : TapsFreed s (serveReady s) := by
  rw [serveReady_eq]
  exact ite_closed (P := TapsFreed s) (serveQueue_tapsFreed .a _ s) (ite_closed (serveQueue_tapsFreed .b _ s) (.refl s))

theorem evalDrain_tapsFreed (n : Nat) (s : State) : TapsFreed s (evalDrain n s) := by
  unfold evalDrain
  have moved : ∀ st ready, TapsFreed s (setReady n ready (moveLine n st s)) := fun st ready =>
    (moveLine_tapsFreed n st s).trans (tapsFreed_of_pour rfl)
  split
  · exact ite_closed ((moved _ _).trans (serveReady_tapsFreed _)) (.refl s)
  · exact ite_closed (.refl s) (moved _ _)
  · exact .refl s

/-! #### A tap's change of line (R35) -/

theorem drainAt_of (line : Option Nat) (s : State) : DrainAt line s (match line with | some n => evalDrain n s | none => s) := by
  cases line with
  | none => rfl
  | some n => exact evalDrain_evaluated n s

theorem reportLineChange_changed (old new : Option Nat) (s : State) : LineChanged old new s (reportLineChange old new s) := by
  unfold reportLineChange
  refine ⟨fun h => if_pos h, fun h => ?_⟩
  rw [if_neg h]
  exact ⟨_, drainAt_of old s, drainAt_of new _⟩

/-- What evaluations of drain conditions keep, a reported change of line keeps. -/
theorem reportLineChange_of_evalDrain {P : State → State → Prop} (refl : ∀ s, P s s) (trans : ∀ {s t u}, P s t → P t u → P s u)
    (eval : ∀ n s, P s (evalDrain n s)) (old new : Option Nat) (s : State) : P s (reportLineChange old new s) := by
  have at_line : ∀ (line : Option Nat) u, P u (match line with | some n => evalDrain n u | none => u) := fun line u => by
    cases line with
    | none => exact refl u
    | some n => exact eval n u
  unfold reportLineChange
  split
  · exact refl s
  · exact trans (at_line old s) (at_line new _)

theorem reportLineChange_evaluates (old new : Option Nat) (s : State) : Evaluates s (reportLineChange old new s) :=
  reportLineChange_of_evalDrain (P := Evaluates) (fun s => .refl _ _ s) Evaluates.trans evalDrain_evaluates old new s

theorem reportLineChange_tapsFreed (old new : Option Nat) (s : State) : TapsFreed s (reportLineChange old new s) :=
  reportLineChange_of_evalDrain (P := TapsFreed) .refl TapsFreed.trans evalDrain_tapsFreed old new s

end tapsFreed

end Sys2Proof.Machine
end

section
/-! ### ROUTE WRITE and ROUTE SWAP (O26) -/

namespace Sys2Proof.Machine

open Sys2Proof Sys2Proof.Safety

/-! #### ROUTE WRITE (R36) -/

/-- An entry of a run names something: a line 0–47 or DARK, and a size set 0–3. -/
def NamesRoute (e : RouteEntry) : Prop := (e.line ≤ 47 ∨ e.line = 255) ∧ e.sizeSet ≤ 3

/-- The route an entry that names something stands for. -/
def namedRoute (e : RouteEntry) : Route :=
  { line := if e.line = 255 then none else some e.line, portionOnly := e.portionOnly, sizeSet := e.sizeSet }

theorem routeOf_named {e : RouteEntry} (h : NamesRoute e) : routeOf e = some (namedRoute e) := by
  obtain ⟨hl, hz⟩ := h
  rw [routeOf, if_neg (Nat.not_lt.mpr hz), namedRoute]
  by_cases dark : e.line = 255
  · rw [if_pos dark, if_pos dark]
  · rw [if_neg dark, if_neg dark, if_neg (by omega)]

theorem routeOf_unnamed {e : RouteEntry} (h : ¬ NamesRoute e) : routeOf e = none := by
  unfold routeOf
  by_cases hz : 3 < e.sizeSet
  · exact if_pos hz
  · have bad : e.line ≠ 255 ∧ 47 < e.line := by
      unfold NamesRoute at h
      omega
    rw [if_neg hz, if_neg bad.1, if_pos bad.2]

theorem routesOf_named : ∀ {es : List RouteEntry}, (∀ e ∈ es, NamesRoute e) → routesOf es = some (es.map namedRoute)
  | [], _ => rfl
  | e :: es, h => by
    have rest := routesOf_named fun x hx => h x (List.mem_cons_of_mem e hx)
    rw [routesOf, routeOf_named (h e List.mem_cons_self), rest]
    rfl

theorem routesOf_unnamed : ∀ {es : List RouteEntry}, (¬ ∀ e ∈ es, NamesRoute e) → routesOf es = none
  | [], h => absurd (by simp) h
  | e :: es, h => by
    by_cases he : NamesRoute e
    · have rest : routesOf es = none := routesOf_unnamed fun hr => h fun x hx => by
        rcases List.mem_cons.mp hx with rfl | hx
        · exact he
        · exact hr x hx
      rw [routesOf, routeOf_named he, rest]
    · rw [routesOf, routeOf_unnamed he]

theorem runOk_iff (first count : Nat) : runOk first count = true ↔ 1 ≤ count ∧ count ≤ 32 ∧ first + count ≤ 128 := by
  simp only [runOk, Bool.and_eq_true, decide_eq_true_eq, and_assoc]

/-- A map number and a run that name something (R36). -/
def RunNamed (m first : Nat) (es : List RouteEntry) : Prop :=
  m ≤ 1 ∧ 1 ≤ es.length ∧ es.length ≤ 32 ∧ first + es.length ≤ 128 ∧ ∀ e ∈ es, NamesRoute e

/-- The map a number names. -/
def numberedMap (m : Nat) : MapSel := if m = 0 then .a else .b

theorem mapOf_numbered {m : Nat} (h : m ≤ 1) : mapOf m = some (numberedMap m) := by
  obtain rfl | rfl := Nat.le_one_iff_eq_zero_or_eq_one.mp h
  · rfl
  · rfl

theorem mapOf_unnumbered {m : Nat} (h : ¬ m ≤ 1) : mapOf m = none := by
  match m, h with
  | 0, h => exact absurd (Nat.zero_le 1) h
  | 1, h => exact absurd (Nat.le_refl 1) h
  | _ + 2, _ => rfl

section write

variable {m first : Nat} {es : List RouteEntry} {s : State}

theorem decideRouteWrite_range (h : ¬ RunNamed m first es) : decideRouteWrite m first es s = refuse .range s := by
  unfold decideRouteWrite
  by_cases hm : m ≤ 1
  · by_cases he : ∀ e ∈ es, NamesRoute e
    · have run : ¬ runOk first es.length = true := fun hr => h (by
        obtain ⟨low, high, last⟩ := (runOk_iff _ _).mp hr
        exact ⟨hm, low, high, last, he⟩)
      rw [mapOf_numbered hm, routesOf_named he]
      exact if_pos (by simpa using run)
    · rw [mapOf_numbered hm, routesOf_unnamed he]
  · rw [mapOf_unnumbered hm]

theorem decideRouteWrite_named (h : RunNamed m first es) : decideRouteWrite m first es s =
    if numberedMap m = s.pour.active then refuse .state s
    else accept { s with pour := s.pour.setMap (numberedMap m) (writeRun (s.pour.map (numberedMap m)) first (es.map namedRoute)) } := by
  obtain ⟨hm, low, high, last, he⟩ := h
  rw [decideRouteWrite, mapOf_numbered hm, routesOf_named he]
  exact if_neg (by simpa using (runOk_iff _ _).mpr ⟨low, high, last⟩)

theorem mapEntry_writeRun (v : Vector Route 128) {i : Nat} (hi : i < 128) : mapEntry (writeRun v first (es.map namedRoute)) i
    = match (if first ≤ i then es[i - first]? else none) with
      | some e => namedRoute e
      | none => mapEntry v i := by
  have entry : mapEntry (writeRun v first (es.map namedRoute)) i
      = if first ≤ i then ((es.map namedRoute)[i - first]?).getD v[i] else v[i] := by
    simp [mapEntry, writeRun, hi]
  have old : mapEntry v i = v[i] := by simp [mapEntry, hi]
  rw [entry, old]
  split
  · rw [List.getElem?_map]
    cases es[i - first]? <;> rfl
  · rfl

end write

theorem routeWrite_spec (tag : Byte) (m first : Nat) (es : List RouteEntry) (s : State) (h : Ready s) :
    (¬ RunNamed m first es → exec (.routeWrite tag m first es) s = .next (refused .routeWrite tag .range (hunting s)))
      ∧ (RunNamed m first es → numberedMap m = s.pour.active →
          exec (.routeWrite tag m first es) s = .next (refused .routeWrite tag .state (hunting s)))
      ∧ (RunNamed m first es → numberedMap m ≠ s.pour.active → ∃ v : Vector Route 128,
          exec (.routeWrite tag m first es) s
            = .next (replied .routeWrite tag .ok .none { hunting s with pour :=
                if m = 0 then { s.pour with mapA := v } else { s.pour with mapB := v } })
          ∧ ∀ i, i < 128 → mapEntry v i = match (if first ≤ i then es[i - first]? else none) with
              | some e => namedRoute e
              | none => mapEntry (if m = 0 then s.pour.mapA else s.pour.mapB) i) := by
  refine ⟨fun ho => exec_refused h rfl (decideRouteWrite_range ho), fun ho ha => exec_refused h rfl ?_, fun ho ha => ?_⟩
  · exact (decideRouteWrite_named ho).trans (if_pos ha)
  · refine ⟨writeRun (if m = 0 then s.pour.mapA else s.pour.mapB) first (es.map namedRoute),
      exec_accepted h rfl (((decideRouteWrite_named (s := hunting s) ho).trans (if_neg ha)).trans ?_) rfl,
      fun i hi => mapEntry_writeRun _ hi⟩
    by_cases hm : m = 0
    · simp only [numberedMap, hm, if_true]
      rfl
    · simp only [numberedMap, hm, if_false]
      rfl

end Sys2Proof.Machine
end

section
/-! #### ROUTE SWAP (R38, R39) -/

namespace Sys2Proof.Machine

open Sys2Proof Sys2Proof.Safety

theorem setTap_setTap (s : State) (i : Nat) (x y : Tap) : (s.setTap i x).setTap i y = s.setTap i y := by
  simp only [State.setTap, Vector.setIfInBounds_setIfInBounds]

section swapTap

variable {i : Nat} {s : State}

/-- An IDLE tap takes its entry of the active map. -/
theorem swapTap_idle (hi : i < 128) (hp : (s.tap i).pour = none) : swapTap i s
    = reportLineChange (s.tap i).route.line (s.activeEntry i).line
        (s.setTap i { s.tap i with route := s.activeEntry i, withheld := false }) := by
  have idle : (s.tap i).pour.isNone = true := by rw [hp]; rfl
  unfold swapTap copyRoute
  rw [if_pos idle]
  simp only [State.modTap_eq, State.tap_setTap_self _ _ _ hi, setTap_setTap]

theorem swapTap_pouring (hp : (s.tap i).pour ≠ none) : swapTap i s = s.setTap i { s.tap i with deferred := true } := by
  unfold swapTap
  rw [if_neg (by simpa using hp)]
  rfl

theorem swapTap_swaps (hi : i < 128) (s : State) : TapSwaps i s (swapTap i s) := by
  refine ⟨fun hp => ?_, swapTap_pouring⟩
  rw [swapTap_idle hi hp, ← activeEntry_eq]
  exact reportLineChange_changed _ _ _

theorem swapTap_evaluates (i : Nat) (s : State) : Evaluates s (swapTap i s) := by
  unfold swapTap copyRoute
  split
  · exact ((Evaluates.trans (setTap_cleansOnly i _ s) (setTap_cleansOnly i _ _)).trans (reportLineChange_evaluates _ _ _))
  · exact setTap_cleansOnly i _ s

/-- A tap beside the one that swaps keeps all but a withheld route. -/
theorem swapTap_tap (hi : i < 128) (s : State) (j : Nat) :
    (swapTap i s).activeEntry j = s.activeEntry j ∧ ∃ y, TapsFreed (s.setTap i y) (swapTap i s)
      ∧ y = if (s.tap i).pour = none then { s.tap i with route := s.activeEntry i, withheld := false }
        else { s.tap i with deferred := true } := by
  by_cases hp : (s.tap i).pour = none
  · have freed := reportLineChange_tapsFreed (s.tap i).route.line (s.activeEntry i).line
      (s.setTap i { s.tap i with route := s.activeEntry i, withheld := false })
    rw [← swapTap_idle hi hp] at freed
    exact ⟨(freed.entry j).trans rfl, _, freed, (if_pos hp).symm⟩
  · rw [swapTap_pouring hp]
    exact ⟨rfl, _, .refl _, (if_neg hp).symm⟩

end swapTap

/-! ##### The taps along a swap -/

/-- A tap that was `x` when the map with its entry became active, before it swaps or after it, where `y` is what it is at the time. -/
def TapTurned (done : Bool) (entry : Route) (x y : Tap) : Prop :=
  let start := if done then (if x.pour = none then { x with route := entry, withheld := false } else { x with deferred := true }) else x
  y = start ∨ start.withheld = true ∧ y = { start with route := entry, withheld := false }

theorem TapTurned.free {done : Bool} {entry : Route} {x y z : Tap} (h : TapTurned done entry x y)
    (hz : z = y ∨ y.withheld = true ∧ z = { y with route := entry, withheld := false }) : TapTurned done entry x z := by
  unfold TapTurned at *
  generalize (if done then (if x.pour = none then { x with route := entry, withheld := false } else { x with deferred := true })
    else x) = start at h ⊢
  rcases h with rfl | ⟨hw, rfl⟩
  · exact hz
  · rcases hz with rfl | ⟨hw', -⟩
    · exact .inr ⟨hw, rfl⟩
    · exact absurd hw' Bool.false_ne_true

theorem TapTurned.turn {entry : Route} {x y : Tap} (h : TapTurned false entry x y) :
    TapTurned true entry x (if y.pour = none then { y with route := entry, withheld := false } else { y with deferred := true }) := by
  unfold TapTurned at *
  simp only [Bool.false_eq_true, if_false, if_true] at *
  rcases h with rfl | ⟨hw, rfl⟩
  · exact .inl rfl
  · by_cases hp : x.pour = none
    · simp [hp]
    · simp [hp, hw]

/-- The part after the first `k` taps have taken up the map a swap makes active. -/
def swapStage (s : State) (k : Nat) : State :=
  (List.range k).foldl (fun s t => swapTap t s) { s with pour := { s.pour with active := s.pour.active.other } }

theorem swapStage_succ (s : State) (k : Nat) : swapStage s (k + 1) = swapTap k (swapStage s k) := by
  unfold swapStage
  rw [List.range_succ, List.foldl_append, List.foldl_cons, List.foldl_nil]

theorem swapStage_evaluates (s : State) (k : Nat) : Evaluates (swapStage s 0) (swapStage s k) := by
  induction k with
  | zero => exact .refl _ _ _
  | succ k ih => exact swapStage_succ s k ▸ ih.trans (swapTap_evaluates k _)

/-- Tap `i`'s entry of the map a swap makes active. -/
def incomingEntry (s : State) (i : Nat) : Route := mapEntry (s.pour.map s.pour.active.other) i

theorem swapStage_tap (s : State) {k : Nat} (hk : k ≤ 128) (j : Nat) : (swapStage s k).activeEntry j = incomingEntry s j
    ∧ TapTurned (decide (j < k)) (incomingEntry s j) (s.tap j) ((swapStage s k).tap j) := by
  induction k generalizing j with
  | zero => exact ⟨rfl, by unfold TapTurned; exact .inl rfl⟩
  | succ k ih =>
    obtain ⟨entry, turned⟩ := ih (by omega) j
    rw [swapStage_succ]
    generalize swapStage s k = u at entry turned
    obtain ⟨same, y, freed, hy⟩ := swapTap_tap (show k < 128 by omega) u j
    refine ⟨same.trans entry, ?_⟩
    have own := freed.tap j
    have active : (u.setTap k y).activeEntry j = incomingEntry s j := entry
    rw [active, State.tap_setTap] at own
    by_cases hj : k = j
    · subst hj
      rw [if_pos ⟨rfl, by omega⟩] at own
      have before : decide (k < k) = false := decide_eq_false (Nat.lt_irrefl k)
      have after : decide (k < k + 1) = true := decide_eq_true (Nat.lt_succ_self k)
      rw [before] at turned
      rw [after]
      rw [entry] at hy
      exact TapTurned.free (hy ▸ turned.turn) own
    · rw [if_neg fun h => hj h.1] at own
      have same : decide (j < k + 1) = decide (j < k) := by
        rw [decide_eq_decide]
        omega
      rw [same]
      exact turned.free own

theorem swapMaps_eq (s : State) : swapMaps s = swapStage s 128 := rfl

section taps

variable {i : Nat} {s : State}

theorem swapMaps_idle (hi : i < 128) (hp : (s.tap i).pour = none) :
    (swapMaps s).tap i = { s.tap i with route := incomingEntry s i, withheld := false } := by
  have turned := (swapStage_tap s (Nat.le_refl 128) i).2
  unfold TapTurned at turned
  simp only [hi, decide_true, if_true, if_pos hp] at turned
  rcases turned with h | ⟨h, -⟩
  · exact h
  · exact absurd h Bool.false_ne_true

theorem swapMaps_pouring (hi : i < 128) (hp : (s.tap i).pour ≠ none) : (swapMaps s).tap i = { s.tap i with deferred := true }
    ∨ (s.tap i).withheld = true
      ∧ (swapMaps s).tap i = { s.tap i with deferred := true, route := incomingEntry s i, withheld := false } := by
  have turned := (swapStage_tap s (Nat.le_refl 128) i).2
  unfold TapTurned at turned
  simp only [hi, decide_true, if_true, if_neg hp] at turned
  exact turned

end taps

theorem taps_toList (s : State) : s.pour.taps.toList = (List.range 128).map s.tap := by
  apply List.ext_getElem
  · simp
  · intro i h1 h2
    have hi : i < 128 := by simpa using h1
    simp [State.tap, hi]

theorem anyDeferred_iff (s : State) : anyDeferred s = true ↔ ∃ i, i < 128 ∧ (s.tap i).deferred = true := by
  rw [anyDeferred, ← Vector.any_toList, taps_toList]
  simp

/-- Every tap that was not IDLE is deferred, and no other. -/
theorem deferredCount_swapMaps {s : State} (none_waits : ∀ i, i < 128 → (s.tap i).deferred = false) :
    deferredCount (swapMaps s) = (List.range 128).countP fun i => (s.tap i).pour.isSome := by
  rw [deferredCount, taps_toList, List.countP_map]
  refine List.countP_congr fun i hi => ?_
  have lt := List.mem_range.mp hi
  by_cases hp : (s.tap i).pour = none
  · have after := swapMaps_idle lt hp
    simp [after, hp, none_waits i lt]
  · have some : (s.tap i).pour.isSome = true := Option.isSome_iff_ne_none.mpr hp
    rcases swapMaps_pouring lt hp with after | ⟨-, after⟩
    · simp [after, some]
    · simp [after, some]

/-! ##### Where no line drains -/

/-- Without a DRAINING or QUEUED line the evaluations of a swap change nothing. -/
theorem swapStage_undrained {s : State} (h : ∀ n, (s.line n).state ≠ .draining ∧ (s.line n).state ≠ .queued) (k : Nat) :
    swapStage s k = { s with pour := (swapStage s k).pour } := by
  induction k with
  | zero => rfl
  | succ k ih =>
    rw [swapStage_succ]
    generalize swapStage s k = u at ih
    have stands : ∀ n (v : State), v = { s with pour := v.pour } → evalDrain n v = v := fun n v hv => by
      have line : v.line n = s.line n := by
        rw [hv]
        rfl
      exact evalDrain_other (by rw [line]; exact (h n).1) (by rw [line]; exact (h n).2)
    have reported : ∀ old new (v : State), v = { s with pour := v.pour } → reportLineChange old new v = v := fun old new v hv => by
      unfold reportLineChange
      cases old <;> cases new <;> simp only [stands _ v hv] <;> exact ite_self _
    have set : ∀ i x (v : State), v = { s with pour := v.pour } → v.setTap i x = { s with pour := (v.setTap i x).pour } := fun i x v hv => by
      rw [hv]
      rfl
    unfold swapTap copyRoute
    split
    · have ready := set k { (u.modTap k fun r => { r with withheld := false }).tap k with route := u.activeEntry k } _
        (set k { u.tap k with withheld := false } u ih)
      exact (congrArg (fun v : State => v = { s with pour := v.pour }) (reported _ _ _ ready)).mpr ready
    · exact set k _ u ih

/-! ##### The request -/

theorem incomingEntry_eq (s : State) (i : Nat) :
    incomingEntry s i = mapEntry (if s.pour.active = .a then s.pour.mapB else s.pour.mapA) i := by
  unfold incomingEntry
  cases s.pour.active <;> rfl

/-- Tap `i` fails the check of a swap by line `n`. -/
def FailsSwap (s : State) (i n : Nat) : Prop :=
  i < 128 ∧ (mapEntry (if s.pour.active = .a then s.pour.mapB else s.pour.mapA) i).line = some n ∧ (s.tap i).lockout = false
    ∧ ((s.line n).mark = true ∨ (s.line n).state = .draining ∨ (s.line n).state = .queued ∨ (s.line n).state = .cleaning)

theorem entryFails_iff {s : State} {i : Nat} (hi : i < 128) : entryFails s i = true ↔ ∃ n, FailsSwap s i n := by
  unfold entryFails FailsSwap
  rw [← incomingEntry_eq]
  show (match (incomingEntry s i).line with | some n => !(s.tap i).lockout && unsafeLine (s.line n) | none => false) = true ↔ _
  cases (incomingEntry s i).line with
  | none => simp
  | some n => simp [unsafeLine, or_assoc, hi]

theorem failingTap_some {s : State} {i n : Nat} (h : FailsSwap s i n) (first : ∀ j k, j < i → ¬ FailsSwap s j k) :
    failingTap s = some (i, n) := by
  obtain ⟨hi, hn, -⟩ := id h
  have found : ((List.range 128).find? fun t => entryFails s t) = some i := by
    refine List.find?_range_eq_some.mpr ⟨(entryFails_iff hi).mpr ⟨n, h⟩, List.mem_range.mpr hi, fun j hj => ?_⟩
    rw [Bool.not_eq_true', Bool.eq_false_iff]
    intro hx
    obtain ⟨k, hk⟩ := (entryFails_iff (by omega)).mp hx
    exact first j k hj hk
  rw [← incomingEntry_eq] at hn
  unfold failingTap
  rw [found]
  exact congrArg (fun o : Option Nat => some (i, o.getD 0)) hn

theorem failingTap_none {s : State} (h : ∀ i n, ¬ FailsSwap s i n) : failingTap s = none := by
  have none_found : ((List.range 128).find? fun t => entryFails s t) = none := List.find?_eq_none.mpr fun i hi hx => by
    obtain ⟨n, hn⟩ := (entryFails_iff (List.mem_range.mp hi)).mp hx
    exact h i n hn
  unfold failingTap
  rw [none_found]

theorem decideRouteSwap_busy {s : State} (h : anyDeferred s = true) : decideRouteSwap s = refuse .busy s := if_pos h

theorem decideRouteSwap_unsafe {s : State} {i n : Nat} (h : ¬ anyDeferred s = true) (hf : failingTap s = some (i, n)) :
    decideRouteSwap s = refuseWith .lineBusy (.unsafeTap i n) s := by
  unfold decideRouteSwap
  rw [if_neg h, hf]

theorem decideRouteSwap_safe {s : State} (h : ¬ anyDeferred s = true) (hf : failingTap s = none) :
    decideRouteSwap s = acceptWith (.swapped (swapMaps s).pour.active (deferredCount (swapMaps s))) (swapMaps s) := by
  unfold decideRouteSwap
  rw [if_neg h, hf]

theorem other_eq (m : MapSel) : m.other = if m = .a then .b else .a := by cases m <;> rfl

section exec

variable {tag : Byte} {s : State} (h : Ready s)
include h

theorem routeSwap_busy (hw : ∃ i, i < 128 ∧ (s.tap i).deferred = true) :
    exec (.routeSwap tag) s = .next (withReply .routeSwap tag .busy .none none (hunting s)) := by
  have replied := request_of_ready h .routeSwap tag decideRouteSwap
  have uncounted : countFurther s.acct.window.isOpen .busy (hunting s) = hunting s := if_neg (by simp)
  rw [decideRouteSwap_busy (s := hunting s) ((anyDeferred_iff _).mpr hw)] at replied
  exact congrArg _ (replied.trans (congrArg _ uncounted))

theorem routeSwap_unsafe {i n : Nat} (hw : ¬ ∃ i, i < 128 ∧ (s.tap i).deferred = true) (hf : FailsSwap s i n)
    (first : ∀ j k, j < i → ¬ FailsSwap s j k) :
    exec (.routeSwap tag) s = .next (replied .routeSwap tag .lineBusy (.unsafeTap i n) (hunting s)) := by
  have decided := decideRouteSwap_unsafe (s := hunting s) (fun x => hw ((anyDeferred_iff _).mp x)) (failingTap_some hf first)
  have replied := request_replied h .routeSwap tag decideRouteSwap
  rw [decided] at replied
  exact congrArg _ (replied (by simp [refuseWith]) rfl rfl)

theorem routeSwap_swaps (hw : ¬ ∃ i, i < 128 ∧ (s.tap i).deferred = true) (safe : ∀ i n, ¬ FailsSwap s i n) :
    exec (.routeSwap tag) s = .next (replied .routeSwap tag .ok
      (.swapped (swapMaps (hunting s)).pour.active ((List.range 128).countP fun i => (s.tap i).pour.isSome)) (swapMaps (hunting s))) := by
  have unwaited : ∀ i, i < 128 → (s.tap i).deferred = false := fun i hi => by
    by_contra hx
    exact hw ⟨i, hi, by simpa using hx⟩
  have decided := decideRouteSwap_safe (s := hunting s) (fun x => hw ((anyDeferred_iff _).mp x)) (failingTap_none safe)
  have window : (swapMaps (hunting s)).acct.window = s.acct.window := by
    have acct := (swapStage_evaluates (hunting s) 128).acct
    rw [swapMaps_eq]
    generalize swapStage (hunting s) 128 = t at acct
    rw [acct]
    rfl
  rw [deferredCount_swapMaps (s := hunting s) unwaited] at decided
  exact exec_accepted h rfl decided window

end exec

/-- Settles O26: the run of ROUTE WRITE, and the taps of ROUTE SWAP one after another. -/
theorem routeChanges : Obligations.RouteChanges := by
  refine ⟨fun tag m first es s h => routeWrite_spec tag m first es s h, fun tag s h =>
    ⟨routeSwap_busy h, fun i n hw hf first => routeSwap_unsafe h hw hf first, fun hw safe => ?_⟩⟩
  have reached := swapStage_evaluates (hunting s) 128
  have swaps := fun i (hi : i < 128) => swapStage_succ (hunting s) i ▸ swapTap_swaps hi (swapStage (hunting s) i)
  have idle := fun i (hi : i < 128) => swapMaps_idle (s := hunting s) hi
  have pouring := fun i (hi : i < 128) => swapMaps_pouring (s := hunting s) hi
  have still := fun hl => swapStage_undrained (s := hunting s) hl 128
  have took := routeSwap_swaps (tag := tag) h hw safe
  have last := swapMaps_eq (hunting s)
  rw [← last] at reached still
  generalize swapMaps (hunting s) = t at reached idle pouring still took last
  have frame := reached.frame
  refine ⟨t, _, took, ?_, fun i hi hp => ?_, fun i hi hp hw => ?_, rfl, ?_, ⟨swapStage (hunting s), ?_, swaps, last⟩, ?_,
    fun n hd hq he => ?_, reached.journal, reached.acct, ?_, reached.circuit, fun hl => ?_, ?_⟩
  · rw [← other_eq]
    exact (congrArg (·.pour.active) frame).trans rfl
  · exact (idle i hi hp).trans (congrArg (fun r => { s.tap i with route := r, withheld := false }) (incomingEntry_eq s i))
  · exact (pouring i hi hp).resolve_right fun hx => absurd (hw.symm.trans hx.1) Bool.false_ne_true
  · rw [frame]
    rfl
  · rw [← other_eq]
    rfl
  · exact (congrArg State.cellar frame).trans rfl
  · refine reached.others n fun hx => ?_
    rcases hx with hx | hx | ⟨e, he', hx⟩
    · exact hd hx
    · exact hq hx
    · exact he e he' hx
  · exact (congrArg (·.clean.programs) frame).trans rfl
  · have same := still fun n => by
      by_cases hn : n < 48
      · exact hl n hn
      · rw [State.line_of_ge (Nat.not_lt.mp hn)]
        decide
    exact ⟨(congrArg State.cellar same).trans rfl, (congrArg State.acct same).trans rfl, (congrArg State.clean same).trans rfl,
      (congrArg State.link same).trans rfl⟩
  · exact ⟨(congrArg State.bus frame).trans rfl, (congrArg State.cool frame).trans rfl, (congrArg State.store frame).trans rfl,
      (congrArg State.pins frame).trans rfl, (congrArg State.link frame).trans rfl⟩

end Sys2Proof.Machine
end

section
/-! ### The return of a tap to IDLE (O29) -/

namespace Sys2Proof.Machine

open Sys2Proof Sys2Proof.Safety

/-- The DARK route. -/
def darkRoute : Route := { line := none, portionOnly := false, sizeSet := 0 }

/-- The entry is withheld from tap `i`: it names a CLEANING line and the tap is not locked (R41). -/
abbrev Withheld (s : State) (i : Nat) : Prop :=
  (s.tap i).lockout = false ∧ ∃ n, (s.activeEntry i).line = some n ∧ (s.line n).state = .cleaning

theorem withholds_iff (s : State) (i : Nat) : withholds s i (s.activeEntry i) = true ↔ Withheld s i := by
  unfold withholds Withheld
  cases (s.activeEntry i).line with
  | none => simp
  | some n => simp [and_comm]

/-- A tap that keeps its place or, where it was withheld, takes its entry. -/
def Freed (entry : Route) (x y : Tap) : Prop := y = x ∨ x.withheld = true ∧ y = { x with route := entry, withheld := false }

section applyDeferred

variable {i : Nat} {s : State}

theorem applyDeferred_none (hd : (s.tap i).deferred = false) : applyDeferred i s = s := if_pos (by rw [hd]; rfl)

theorem applyDeferred_withheld (hi : i < 128) (hd : (s.tap i).deferred = true) (hw : Withheld s i) :
    applyDeferred i s = reportLineChange (s.tap i).route.line none
      (s.setTap i { s.tap i with deferred := false, withheld := true, route := darkRoute }) := by
  unfold applyDeferred copyRoute
  rw [if_neg (by simp [hd]), if_pos ((withholds_iff s i).mpr hw)]
  simp only [State.modTap_eq, State.tap_setTap_self _ _ _ hi, setTap_setTap]
  rfl

theorem applyDeferred_applied (hi : i < 128) (hd : (s.tap i).deferred = true) (hw : ¬ Withheld s i) :
    applyDeferred i s = reportLineChange (s.tap i).route.line (s.activeEntry i).line
      (s.setTap i { s.tap i with deferred := false, route := s.activeEntry i }) := by
  unfold applyDeferred copyRoute
  rw [if_neg (by simp [hd]), if_neg fun h => hw ((withholds_iff s i).mp h)]
  simp only [State.modTap_eq, State.tap_setTap_self _ _ _ hi, setTap_setTap]

theorem applyDeferred_route (hi : i < 128) (s : State) : RouteApplied i s (applyDeferred i s) := by
  refine ⟨applyDeferred_none, fun hd hw => ?_, fun hd hw => ?_⟩ <;> rw [← activeEntry_eq] at hw
  · rw [applyDeferred_withheld hi hd hw]
    exact reportLineChange_changed _ _ _
  · rw [applyDeferred_applied hi hd hw, ← activeEntry_eq]
    exact reportLineChange_changed _ _ _

/-- What the tap itself is after a deferred route is applied. -/
def appliedTap (s : State) (i : Nat) (x : Tap) : Prop :=
  ((s.tap i).deferred = false → x = s.tap i)
    ∧ ((s.tap i).deferred = true → Withheld s i → x = { s.tap i with deferred := false, withheld := true, route := darkRoute })
    ∧ ((s.tap i).deferred = true → ¬ Withheld s i → x = { s.tap i with deferred := false, route := s.activeEntry i })

/-- The application of a deferred route: a drain condition or two, and the taps. -/
theorem applyDeferred_spec (hi : i < 128) (s : State) : Evaluates s (applyDeferred i s)
    ∧ (∃ x, appliedTap s i x ∧ Freed (s.activeEntry i) x ((applyDeferred i s).tap i))
    ∧ ∀ j, j ≠ i → Freed (s.activeEntry j) (s.tap j) ((applyDeferred i s).tap j) := by
  have changed : ∀ (x : Tap) (old new : Option Nat), Evaluates s (reportLineChange old new (s.setTap i x))
      ∧ Freed (s.activeEntry i) x ((reportLineChange old new (s.setTap i x)).tap i)
      ∧ ∀ j, j ≠ i → Freed (s.activeEntry j) (s.tap j) ((reportLineChange old new (s.setTap i x)).tap j) := fun x old new => by
    have freed := (reportLineChange_tapsFreed old new (s.setTap i x)).tap
    refine ⟨Evaluates.trans (setTap_cleansOnly i x s) (reportLineChange_evaluates old new _), ?_, fun j hj => ?_⟩
    · have own := freed i
      rw [State.tap_setTap_self _ _ _ hi] at own
      exact own
    · have other := freed j
      rw [State.tap_setTap, if_neg fun h => hj h.1.symm] at other
      exact other
  by_cases hd : (s.tap i).deferred = true
  · by_cases hw : Withheld s i
    · rw [applyDeferred_withheld hi hd hw]
      obtain ⟨eval, own, others⟩ := changed { s.tap i with deferred := false, withheld := true, route := darkRoute }
        (s.tap i).route.line none
      exact ⟨eval, ⟨_, ⟨fun h => absurd (h.symm.trans hd) (by decide), fun _ _ => rfl, fun _ h => absurd hw h⟩, own⟩, others⟩
    · rw [applyDeferred_applied hi hd hw]
      obtain ⟨eval, own, others⟩ := changed { s.tap i with deferred := false, route := s.activeEntry i } (s.tap i).route.line
        (s.activeEntry i).line
      exact ⟨eval, ⟨_, ⟨fun h => absurd (h.symm.trans hd) (by decide), fun _ h => absurd h hw, fun _ _ => rfl⟩, own⟩, others⟩
  · have none_waits : (s.tap i).deferred = false := by simpa using hd
    rw [applyDeferred_none none_waits]
    exact ⟨.refl _ _ s, ⟨_, ⟨fun _ => rfl, fun h => absurd h hd, fun h => absurd h hd⟩, .inl rfl⟩, fun _ _ => .inl rfl⟩

end applyDeferred

/-! #### The STOP items and the record go (R48, R79) -/

/-- The part with the pour's STOP items gone and its record discarded. -/
def pourGone (i token : Nat) (s : State) : State := (dropStop i token s).setTap i { s.tap i with pour := none }

theorem idleTap_idles {i : Nat} (hi : i < 128) (token : Nat) (s : State) : TapIdles i token s (idleTap i token s) :=
  applyDeferred_route hi (pourGone i token s)

section pourGone

variable {i : Nat} (token : Nat) (s : State)

theorem pourGone_tap (hi : i < 128) : (pourGone i token s).tap i = { s.tap i with pour := none } := State.tap_setTap_self _ _ _ hi

theorem pourGone_tap_ne {j : Nat} (hj : j ≠ i) : (pourGone i token s).tap j = s.tap j := by
  unfold pourGone
  rw [State.tap_setTap, if_neg fun h => hj h.1.symm]
  rfl

theorem pourGone_stops (hi : i < 128) : StopGone i token s (pourGone i token s) := by
  refine ⟨fun b hb => ?_, rfl⟩
  have node : (pourGone i token s).node b = (s.setNode (i / 4 + 1) { s.node (i / 4 + 1) with
    items := (s.node (i / 4 + 1)).items.filter fun q => decide (q.item ≠ .stop (i % 4) token) }).node b := rfl
  rw [node]
  split
  · rename_i h
    subst h
    exact State.node_setNode_self _ _ _ (by omega)
  · rw [State.node_setNode, if_neg (by omega)]

end pourGone

end Sys2Proof.Machine
end

section
/-! ### The Line Manager's part of a measured end (O29) -/

namespace Sys2Proof.Machine

open Sys2Proof Sys2Proof.Safety

/-! #### One line after another figure, with a notice or none -/

/-- Line `n` is `l`, and its notice, where there is one, has the cause `c`. -/
def lineTurned (n : Nat) (l : Line) (c : Option NoticeCause) (s : State) : State :=
  match c with
  | none => s.setLine n l
  | some c => post (.line n) c (s.setLine n l)

theorem State.setLine_self (n : Nat) (s : State) : s.setLine n (s.line n) = s := by
  have same : s.cellar.lines.setIfInBounds n (s.line n) = s.cellar.lines := by
    refine Vector.ext fun i hi => ?_
    rw [Vector.getElem_setIfInBounds]
    split
    · rename_i h
      subst h
      simp [State.line, hi]
    · rfl
  rw [State.setLine, same]

section lineTurned

variable {n : Nat} (hn : n < 48) (l : Line) (c : Option NoticeCause) (s : State)

theorem lineTurned_self : lineTurned n (s.line n) none s = s := State.setLine_self n s

include hn in
theorem lineTurned_line : (lineTurned n l c s).line n = l := by
  cases c <;> exact State.line_setLine_self s n l hn

theorem lineTurned_line_ne {m : Nat} (h : m ≠ n) : (lineTurned n l c s).line m = s.line m := by
  cases c <;> exact State.line_setLine_ne s n m l (Ne.symm h)

theorem lineTurned_frame : lineTurned n l c s = { s with
    cellar := { s.cellar with lines := (lineTurned n l c s).cellar.lines }
    link := { s.link with notices := (lineTurned n l c s).link.notices } } := by
  cases c <;> rfl

theorem lineTurned_notices : (lineTurned n l c s).link.notices
    = match c with
      | none => s.link.notices
      | some c => mergeNotice (.line n) c s.link.notices := by
  cases c <;> rfl

theorem lineTurned_setLine (l' : Line) : (lineTurned n l c s).setLine n l' = lineTurned n l' c s := by
  cases c with
  | none => exact setLine_setLine s n l l'
  | some c =>
    show State.setLine n l' (post (.line n) c (s.setLine n l)) = post (.line n) c (s.setLine n l')
    rw [← setLine_setLine s n l l']
    rfl

theorem lineTurned_lineTurned (l' : Line) (c' : Option NoticeCause) :
    lineTurned n l' c' (lineTurned n l c s) = lineTurned n l' (c'.or c) s := by
  cases c' with
  | none => exact lineTurned_setLine l c s l'
  | some c' =>
    show post (.line n) c' ((lineTurned n l c s).setLine n l') = post (.line n) c' (s.setLine n l')
    rw [lineTurned_setLine]
    cases c with
    | none => rfl
    | some c => exact post_post _ _ _ _

end lineTurned

/-! #### The parts of a finished pour, each a turn of its line -/

/-- The line with a pour of volume `v` credited (R23). -/
def Line.credited (v : Nat) (l : Line) : Line := { l with
  chain := creditHead v l.chain, volumeSinceClean := min 4294967295 (l.volumeSinceClean + v)
  tapPoured := min 281474976710655 (l.tapPoured + v) }

/-- The line's foam alert after a pour (R25). -/
def alertAfter (foamy : Bool) (l : Line) : Bool := foamy && (l.foamAlert || decide (min 3 (l.foamCount + 1) = 3))

/-- The line with a pour's foam counted (R25). -/
def Line.foamed (foamy : Bool) (l : Line) : Line :=
  { l with foamCount := if foamy then min 3 (l.foamCount + 1) else 0, foamAlert := alertAfter foamy l }

/-- The temperature exceeds the hard limit (R14). -/
def tooWarm (temperature : Option Int) (l : Line) : Bool := temperature.any fun y => decide (l.config.hardLimit < y)

/-- The line with TEMP decided (R14). -/
def Line.tempDecided (temperature : Option Int) (l : Line) : Line :=
  { l with holds := { l.holds with temp := l.holds.temp || tooWarm temperature l } }

/-- The line with one pour fewer in flight (R17). -/
def Line.pourLess (l : Line) : Line := { l with inFlight := l.inFlight - 1 }

/-- The line's volume has reached its soft limit (R26). -/
def softReached (l : Line) : Bool := decide (l.config.softVolume ≠ 0 ∧ l.config.softVolume ≤ l.volumeSinceClean)

/-- The line's volume has reached its hard limit (R26). -/
def hardReached (l : Line) : Bool := decide (l.config.hardVolume ≠ 0 ∧ l.config.hardVolume ≤ l.volumeSinceClean)

/-- The line with the volume part of the cleaning-due check made (R26). -/
def Line.dueDecided (l : Line) : Line :=
  if l.state = .offline then l
  else { l with
    softVolumeNoted := l.softVolumeNoted || softReached l, holds := { l.holds with overdue := l.holds.overdue || hardReached l } }

/-- The notice cause where a condition is new. -/
def causeIf (b : Bool) (c : NoticeCause) : Option NoticeCause := if b then some c else none

/-- The cause of the cleaning-due check: OVERDUE's HOLD comes after DUE (R26). -/
def dueCause (l : Line) : Option NoticeCause :=
  if l.state = .offline then none
  else (causeIf (hardReached l && !l.holds.overdue) .lineHold).or (causeIf (softReached l && !l.softVolumeNoted) .lineDue)

/-- The line with a pour of volume `v` counted, an orphan's foam left as it is, its TEMP decided and the pour gone (R23). -/
def pouredBefore (v : Nat) (foamy lost : Bool) (temperature : Option Int) (l : Line) : Line :=
  let counted := if lost then l.credited v else (l.credited v).foamed foamy
  (counted.tempDecided temperature).pourLess

/-- The line after the Line Manager's part of a finished pour but for the drain condition (R23). -/
def pouredLine (v : Nat) (foamy lost : Bool) (temperature : Option Int) (l : Line) : Line :=
  (pouredBefore v foamy lost temperature l).dueDecided

/-- The cause of the line's notice after a finished pour: the last of FOAM, HOLD for TEMP, and the due check's (R14, R25, R26). -/
def pouredCause (v : Nat) (foamy lost : Bool) (temperature : Option Int) (l : Line) : Option NoticeCause :=
  (dueCause (pouredBefore v foamy lost temperature l)).or
    ((causeIf (tooWarm temperature l && !l.holds.temp) .lineHold).or
      (causeIf (!lost && (alertAfter foamy l != l.foamAlert)) .lineFoam))

theorem temp_set (h : HoldSet) : { h with temp := true } = h ↔ h.temp = true := by
  cases h
  simp [eq_comm]

theorem overdue_set (h : HoldSet) : { h with overdue := true } = h ↔ h.overdue = true := by
  cases h
  simp [eq_comm]

section stages

variable {n : Nat} (s : State)

theorem changeHolds_turned (h : HoldSet) :
    changeHolds n h s = lineTurned n { s.line n with holds := h } (causeIf (!decide (h = (s.line n).holds)) .lineHold) s := by
  unfold changeHolds causeIf
  by_cases same : h = (s.line n).holds
  · subst same
    simpa using (lineTurned_self s).symm
  · simp only [same, if_false, decide_false, Bool.not_false, if_true]
    rfl

theorem lineTurned_causeIf (l : Line) (b : Bool) (c : NoticeCause) :
    lineTurned n l (causeIf b c) s = if b then post (.line n) c (s.setLine n l) else s.setLine n l := by
  cases b <;> rfl

theorem clearFoam_turned : clearFoam n s = lineTurned n ((s.line n).foamed false) (causeIf (s.line n).foamAlert .lineFoam) s :=
  (lineTurned_causeIf s _ _ _).symm

theorem countFoam_turned (foamy : Bool) : countFoam n foamy s = lineTurned n ((s.line n).foamed foamy)
    (causeIf (alertAfter foamy (s.line n) != (s.line n).foamAlert) .lineFoam) s := by
  cases foamy with
  | false =>
    have cause : (alertAfter false (s.line n) != (s.line n).foamAlert) = (s.line n).foamAlert := by
      cases (s.line n).foamAlert <;> rfl
    rw [cause]
    exact clearFoam_turned s
  | true =>
    have cause : (alertAfter true (s.line n) != (s.line n).foamAlert)
        = (decide (min 3 ((s.line n).foamCount + 1) = 3) && !(s.line n).foamAlert) := by
      unfold alertAfter
      cases (s.line n).foamAlert <;> simp
    rw [cause]
    rw [lineTurned_causeIf]
    rfl

theorem decideTempHold_turned (temperature : Option Int) : decideTempHold n temperature s
    = lineTurned n ((s.line n).tempDecided temperature) (causeIf (tooWarm temperature (s.line n) && !(s.line n).holds.temp) .lineHold) s := by
  have stands : tooWarm temperature (s.line n) = false →
      s = lineTurned n ((s.line n).tempDecided temperature) (causeIf (tooWarm temperature (s.line n) && !(s.line n).holds.temp) .lineHold) s := by
    intro h
    rw [Line.tempDecided, h, Bool.or_false]
    exact (lineTurned_self s).symm
  unfold decideTempHold
  cases temperature with
  | none => exact stands rfl
  | some v =>
    by_cases hot : (s.line n).config.hardLimit < v
    · have warm : tooWarm (some v) (s.line n) = true := decide_eq_true hot
      simp only [hot, if_true]
      rw [changeHolds_turned, Line.tempDecided, warm, Bool.or_true, Bool.true_and]
      simp only [temp_set, Bool.decide_eq_true]
    · simp only [hot, if_false]
      exact stands (decide_eq_false hot)

/-- The line with its soft limit noted where it is reached (R26). -/
def Line.softDecided (l : Line) : Line := { l with softVolumeNoted := l.softVolumeNoted || softReached l }

/-- The line with OVERDUE added where its hard limit is reached (R26). -/
def Line.overdueDecided (l : Line) : Line := { l with holds := { l.holds with overdue := l.holds.overdue || hardReached l } }

theorem softNoted_turned : (if (s.line n).config.softVolume ≠ 0 && (s.line n).config.softVolume ≤ (s.line n).volumeSinceClean
      && !(s.line n).softVolumeNoted then post (.line n) .lineDue (s.setLine n { s.line n with softVolumeNoted := true }) else s)
    = lineTurned n (s.line n).softDecided (causeIf (softReached (s.line n) && !(s.line n).softVolumeNoted) .lineDue) s := by
  have reached : (decide ((s.line n).config.softVolume ≠ 0) && decide ((s.line n).config.softVolume ≤ (s.line n).volumeSinceClean))
      = softReached (s.line n) := (Bool.decide_and _ _).symm
  rw [reached, lineTurned_causeIf, Line.softDecided]
  cases softReached (s.line n) <;> cases h : (s.line n).softVolumeNoted
  all_goals simp only [Bool.true_and, Bool.false_and, Bool.not_true, Bool.not_false, Bool.or_true, Bool.or_false, if_true, if_false,
    Bool.false_eq_true]
  · rw [← h]
    exact (State.setLine_self n s).symm
  · rw [← h]
    exact (State.setLine_self n s).symm
  · rw [← h]
    exact (State.setLine_self n s).symm

theorem overdue_turned : (if (s.line n).config.hardVolume ≠ 0 && (s.line n).config.hardVolume ≤ (s.line n).volumeSinceClean
      then changeHolds n { (s.line n).holds with overdue := true } s else s)
    = lineTurned n (s.line n).overdueDecided (causeIf (hardReached (s.line n) && !(s.line n).holds.overdue) .lineHold) s := by
  have reached : (decide ((s.line n).config.hardVolume ≠ 0) && decide ((s.line n).config.hardVolume ≤ (s.line n).volumeSinceClean))
      = hardReached (s.line n) := (Bool.decide_and _ _).symm
  rw [reached, Line.overdueDecided]
  cases hardReached (s.line n) with
  | false =>
    rw [Bool.or_false]
    exact (lineTurned_self s).symm
  | true =>
    rw [if_pos rfl, changeHolds_turned, Bool.or_true, Bool.true_and]
    simp only [overdue_set, Bool.decide_eq_true]

theorem checkDueVolume_turned (hn : n < 48) :
    checkDueVolume n s = lineTurned n (s.line n).dueDecided (dueCause (s.line n)) s := by
  unfold checkDueVolume Line.dueDecided dueCause
  by_cases ho : (s.line n).state = .offline
  · simp only [ho, if_true]
    exact (lineTurned_self s).symm
  · simp only [ho, if_false]
    rw [softNoted_turned]
    have turned := lineTurned_line hn (s.line n).softDecided (causeIf (softReached (s.line n) && !(s.line n).softVolumeNoted) .lineDue) s
    have second := overdue_turned (n := n) (lineTurned n (s.line n).softDecided
      (causeIf (softReached (s.line n) && !(s.line n).softVolumeNoted) .lineDue) s)
    rw [lineTurned_lineTurned, turned] at second
    rw [turned]
    exact second

theorem applyPour_turned (hn : n < 48) (v : Nat) (foamy lost : Bool) (temperature : Option Int) : applyPour n v foamy lost temperature s
    = evalDrain n (lineTurned n (pouredLine v foamy lost temperature (s.line n)) (pouredCause v foamy lost temperature (s.line n)) s) := by
  have line := fun l c => lineTurned_line hn l c s
  have credited : (s.modLine n fun l => { l with
      chain := creditHead v l.chain
      volumeSinceClean := satAdd Config.max32 l.volumeSinceClean v
      tapPoured := satAdd Config.max48 l.tapPoured v }) = lineTurned n ((s.line n).credited v) none s := rfl
  have foamed : (if lost then lineTurned n ((s.line n).credited v) none s else countFoam n foamy (lineTurned n ((s.line n).credited v) none s))
      = lineTurned n (if lost then (s.line n).credited v else ((s.line n).credited v).foamed foamy)
          (causeIf (!lost && (alertAfter foamy (s.line n) != (s.line n).foamAlert)) .lineFoam) s := by
    cases lost with
    | true => rfl
    | false =>
      rw [if_neg (by simp), if_neg (by simp), countFoam_turned, line, lineTurned_lineTurned, Option.or_none]
      rfl
  have kept : ∀ l : Line, (tooWarm temperature (if lost then l.credited v else (l.credited v).foamed foamy)
      && !(if lost then l.credited v else (l.credited v).foamed foamy).holds.temp) = (tooWarm temperature l && !l.holds.temp) := fun l => by
    cases lost <;> rfl
  have left : ∀ l c, pourLeft n (lineTurned n l c s) = lineTurned n l.pourLess c s := fun l c => by
    rw [pourLeft, State.modLine_eq, line, lineTurned_setLine]
    rfl
  unfold applyPour
  simp only [credited, foamed]
  rw [decideTempHold_turned, line, lineTurned_lineTurned, left, checkDueVolume_turned _ hn, line, lineTurned_lineTurned, kept]
  rfl

end stages

end Sys2Proof.Machine
end

section
/-! ### The accounts told of a measured end (O29) -/

namespace Sys2Proof.Machine

open Sys2Proof Sys2Proof.Safety

/-! #### What the watches do (R114 to R116) -/

/-- From `s` to `t` at most watch bars, WATCH causes, bars' open flags, the accounts and notices change. -/
structure WatchesOnly (s t : State) : Prop where
  tap : ∀ i, t.tap i = { s.tap i with watchBarred := (t.tap i).watchBarred }
  line : ∀ n, t.line n = { s.line n with holds := { (s.line n).holds with watch := (t.line n).holds.watch } }
  journal : s.acct.journal <+: t.acct.journal
  frame : t = { s with
    cellar := { s.cellar with lines := t.cellar.lines }, pour := { s.pour with taps := t.pour.taps, barOpen := t.pour.barOpen }
    acct := t.acct, link := { s.link with notices := t.link.notices } }

section watches

variable {s t u : State}

theorem WatchesOnly.refl (s : State) : WatchesOnly s s := ⟨fun _ => rfl, fun _ => rfl, List.prefix_refl _, rfl⟩

theorem WatchesOnly.trans (h : WatchesOnly s t) (k : WatchesOnly t u) : WatchesOnly s u where
  tap i := by rw [k.tap i, h.tap i]
  line n := by rw [k.line n, h.line n]
  journal := h.journal.trans k.journal
  frame := by rw [k.frame, h.frame]

theorem watchesOnly_of_acct (h : t = { s with acct := t.acct, link := { s.link with notices := t.link.notices } })
    (journal : s.acct.journal <+: t.acct.journal) : WatchesOnly s t := by
  have pour : t.pour = s.pour := (congrArg State.pour h).trans rfl
  have cellar : t.cellar = s.cellar := (congrArg State.cellar h).trans rfl
  refine ⟨fun i => ?_, fun n => ?_, journal, ?_⟩
  · rw [State.tap_congr pour]
  · rw [State.line_congr cellar]
  · rw [h]

theorem WatchEffect.only {bar on : Nat → Bool} (h : WatchEffect bar on s t) : WatchesOnly s t := by
  refine ⟨fun i => ?_, fun n => ?_, h.acct ▸ List.prefix_refl _, ?_⟩
  · by_cases hi : i < 128
    · rw [h.tap i hi]
    · rw [State.tap_of_ge (Nat.not_lt.mp hi), State.tap_of_ge (Nat.not_lt.mp hi)]
  · by_cases hn : n < 48
    · rw [h.line n hn]
    · rw [State.line_of_ge (Nat.not_lt.mp hn), State.line_of_ge (Nat.not_lt.mp hn)]
  · have pour : t.pour = { s.pour with taps := t.pour.taps, barOpen := t.pour.barOpen } :=
      congrArg (fun p : PourBlock => { p with taps := t.pour.taps, barOpen := t.pour.barOpen }) h.pour
    have frame := h.frame
    rw [pour] at frame
    rw [h.acct]
    exact frame

theorem visitWatch_only (r : PourRecord) (seq : Option Nat) (w : Nat) (s : State) : WatchesOnly s (visitWatch r seq w s) := by
  have counted : ∀ e, WatchesOnly s (s.setWatch w e) := fun e => watchesOnly_of_acct rfl (List.prefix_refl _)
  by_cases h : WatchHits r w s
  · obtain ⟨off, armed, tripped⟩ := visitWatch_hit (seq := seq) h
    cases hs : (s.watch w).state with
    | off => exact (off hs).symm ▸ .refl s
    | armed =>
      have noted : WatchesOnly s (watchNoted w seq s) :=
        watchesOnly_of_acct watchNoted_frame (takeRecord_prefix _ (s.setWatch w { s.watch w with state := .tripped, count := 1 }))
      exact (armed hs).symm ▸ noted.trans tripWatch_effect.1.only
    | tripped => exact (tripped hs).symm ▸ counted _
  · exact (visitWatch_missed h).symm ▸ .refl s

theorem evaluateWatches_only (r : PourRecord) (seq : Option Nat) (s : State) : WatchesOnly s (evaluateWatches r seq s) :=
  foldl_closed (P := WatchesOnly s) (fun u w hu => hu.trans (visitWatch_only r seq w u)) _ s (.refl s)

end watches

/-! #### The record and the totals (R99, R102, R103) -/

/-- A tally with one more pour of volume `v`, saturating (R104). -/
def tallied (v : Nat) (y : Tally) : Tally := { count := min 4294967295 (y.count + 1), volume := min 281474976710655 (y.volume + v) }

/-- A tap with a POUR record of class `c` and volume `v` in its totals, and in its unjournalled tally where the journal had no room. -/
def Tap.sold (room : Bool) (c : PourClass) (v : Nat) (x : Tap) : Tap := { x with
  portion := if c = .portion then tallied v x.portion else x.portion
  free := if c = .free then tallied v x.free else x.free
  prime := if c = .prime then tallied v x.prime else x.prime
  unjournalled := if room then x.unjournalled else tallied v x.unjournalled }

/-- A product with a sale of volume `v` (R103). -/
def Product.sold (v : Nat) (q : Product) : Product := { q with
  sales := tallied v q.sales
  histogram := q.histogram.mapIdx fun b n => if b = bucketOf v then min 4294967295 (n + 1) else n }

theorem bucketOf_lt (v : Nat) : bucketOf v < 8 := by
  unfold bucketOf
  split
  · omega
  · split <;> omega

theorem product_sell (v : Nat) (q : Product) : q.sell v = q.sold v := by
  have bucket : q.histogram.setIfInBounds (bucketOf v) (satAdd Config.max32 ((q.histogram[bucketOf v]?).getD 0) 1)
      = q.histogram.mapIdx fun b n => if b = bucketOf v then min 4294967295 (n + 1) else n := by
    refine Vector.ext fun b hb => ?_
    rw [Vector.getElem_setIfInBounds, Vector.getElem_mapIdx]
    by_cases h : b = bucketOf v
    · subst h
      simp [bucketOf_lt, satAdd, Config.max32]
    · rw [if_neg (Ne.symm h), if_neg h]
  unfold Product.sell Product.sold
  rw [bucket]
  rfl

/-- A POUR record that the journal has no room for is folded. -/
def pourStored (p : PourRecord) (s : State) : State :=
  if s.acct.stores (.pour p) then takeRecord (.pour p) s else foldPour p (takeRecord (.pour p) s)

theorem takePour_eq (p : PourRecord) (s : State) : takePour p s
    = evaluateWatches p (s.acct.seqIfStored (.pour p)) (addTotals p (pourStored p s)) := by
  unfold takePour pourStored Accounts.seqIfStored
  cases s.acct.stores (.pour p) <;> rfl

section totals

variable {p : PourRecord} {s : State}

theorem pourStored_frame : pourStored p s = { s with
    pour := { s.pour with taps := (pourStored p s).pour.taps }, acct := (takeRecord (.pour p) s).acct
    link := { s.link with notices := (takeRecord (.pour p) s).link.notices } } := by
  have frame := takeRecord_frame (.pour p) s
  have pour := takeRecord_pour s (.pour p)
  unfold pourStored
  generalize takeRecord (.pour p) s = v at frame pour
  split
  · rw [frame]
  · unfold foldPour State.modTap State.setTap
    rw [frame]

theorem pourStored_tap (hp : p.tap < 128) (i : Nat) : (pourStored p s).tap i = if i = p.tap
    then { s.tap i with unjournalled := if s.acct.stores (.pour p) then (s.tap i).unjournalled else tallied p.volume (s.tap i).unjournalled }
    else s.tap i := by
  have tap : ∀ j, (takeRecord (.pour p) s).tap j = s.tap j := State.tap_congr (takeRecord_pour s _)
  unfold pourStored
  by_cases room : s.acct.stores (.pour p) = true
  · simp only [room, if_true, tap, ite_self]
  · simp only [room, foldPour, State.modTap_eq, State.tap_setTap, tap, Bool.false_eq_true, if_false]
    by_cases h : i = p.tap
    · subst h
      rw [if_pos ⟨rfl, hp⟩, if_pos rfl]
      rfl
    · rw [if_neg fun hx => h hx.1.symm, if_neg h]

theorem addTotals_frame : addTotals p s = { s with
    pour := { s.pour with taps := (addTotals p s).pour.taps }
    cellar := { s.cellar with products := (addTotals p s).cellar.products } } := by
  unfold addTotals sellProduct
  split <;> rfl

theorem addTotals_products : (addTotals p s).cellar.products = if p.cls = .prime then s.cellar.products
    else s.cellar.products.map fun q => if q.code = p.product then q.sold p.volume else q := by
  unfold addTotals sellProduct
  simp only [product_sell]
  split <;> rfl

theorem addTotals_tap (hp : p.tap < 128) (i : Nat) : (addTotals p s).tap i = if i = p.tap
    then (s.tap i).sold true p.cls p.volume else s.tap i := by
  have pour : (addTotals p s).pour = (s.modTap p.tap fun t => t.addClass p.cls p.volume).pour := by
    unfold addTotals sellProduct
    split <;> rfl
  have classed : ∀ x : Tap, x.addClass p.cls p.volume = x.sold true p.cls p.volume := fun x => by
    cases p.cls <;> rfl
  rw [State.tap_congr pour, State.modTap_eq, State.tap_setTap, classed]
  by_cases h : i = p.tap
  · subst h
    rw [if_pos ⟨rfl, hp⟩, if_pos rfl]
  · rw [if_neg fun hx => h hx.1.symm, if_neg h]

/-- What the taking of a POUR record leaves. -/
theorem takePour_spec (hp : p.tap < 128) : let t := takePour p s
    (∀ i, i ≠ p.tap → t.tap i = { s.tap i with watchBarred := (t.tap i).watchBarred })
      ∧ t.tap p.tap
        = { (s.tap p.tap).sold (s.acct.stores (.pour p)) p.cls p.volume with watchBarred := (t.tap p.tap).watchBarred }
      ∧ (∀ n, t.line n = { s.line n with holds := { (s.line n).holds with watch := (t.line n).holds.watch } })
      ∧ (takeRecord (.pour p) s).acct.journal <+: t.acct.journal
      ∧ t.cellar.products = (if p.cls = .prime then s.cellar.products
          else s.cellar.products.map fun q => if q.code = p.product then q.sold p.volume else q)
      ∧ t = { s with
          cellar := { s.cellar with lines := t.cellar.lines, products := t.cellar.products }
          pour := { s.pour with taps := t.pour.taps, barOpen := t.pour.barOpen }
          acct := t.acct, link := { s.link with notices := t.link.notices } } := by
  have stored := pourStored_frame (p := p) (s := s)
  have storedTap := pourStored_tap (s := s) hp
  have totals := addTotals_frame (p := p) (s := pourStored p s)
  have totalTap := addTotals_tap (s := pourStored p s) hp
  have products := addTotals_products (p := p) (s := pourStored p s)
  have only := evaluateWatches_only p (s.acct.seqIfStored (.pour p)) (addTotals p (pourStored p s))
  have before : (pourStored p s).cellar = s.cellar := (congrArg State.cellar stored).trans rfl
  have acct : (addTotals p (pourStored p s)).acct = (takeRecord (.pour p) s).acct :=
    ((congrArg State.acct totals).trans rfl).trans ((congrArg State.acct stored).trans rfl)
  have lines : ∀ n, (addTotals p (pourStored p s)).line n = s.line n := fun n =>
    (congrArg (fun u : State => u.line n) totals).trans ((congrArg (fun u : State => u.line n) stored).trans rfl)
  rw [takePour_eq]
  generalize pourStored p s = v at *
  generalize addTotals p v = z at *
  generalize evaluateWatches p _ z = t at only
  refine ⟨fun i hi => ?_, ?_, fun n => ?_, acct ▸ only.journal, ?_, ?_⟩
  · rw [only.tap i, totalTap, if_neg hi, storedTap, if_neg hi]
  · rw [only.tap p.tap, totalTap, if_pos rfl, storedTap, if_pos rfl]
    rfl
  · rw [only.line n, lines]
  · rw [only.frame]
    exact products.trans (by rw [before])
  · rw [only.frame, totals, stored]

end totals

end Sys2Proof.Machine
end

section
/-! ### What every end of a pour does (O29) -/

namespace Sys2Proof.Machine

open Sys2Proof Sys2Proof.Safety

theorem Freed.kept {entry : Route} {x y : Tap} (h : Freed entry x y) : y = { x with route := y.route, withheld := y.withheld } := by
  rcases h with rfl | ⟨-, h⟩
  · rfl
  · rw [h]

theorem Freed.same {entry : Route} {x y : Tap} (h : Freed entry x y) (hw : x.withheld = false) : y = x :=
  h.resolve_right fun hx => absurd (hw.symm.trans hx.1) Bool.false_ne_true

/-- From `s` to `x` at most the lines and the notices change, with one pour fewer in flight on line `n`, whose state stands. -/
structure PourCounted (n : Nat) (s x : State) : Prop where
  inFlight : (x.line n).inFlight = (s.line n).inFlight - 1
  state : (x.line n).state = (s.line n).state
  others : ∀ m, m ≠ n → x.line m = s.line m
  frame : x = { s with cellar := { s.cellar with lines := x.cellar.lines }, link := { s.link with notices := x.link.notices } }

/-- From `u` to `y` accounts, watches and cooling are told of the pour that ends at tap `i`. -/
structure PourTold (i : Nat) (u y : State) : Prop where
  others : ∀ j, j ≠ i → y.tap j = { u.tap j with watchBarred := (y.tap j).watchBarred }
  own : (y.tap i).route = (u.tap i).route ∧ (y.tap i).deferred = (u.tap i).deferred ∧ (y.tap i).withheld = (u.tap i).withheld
    ∧ (y.tap i).lockout = (u.tap i).lockout
  line : ∀ n, y.line n = { u.line n with holds := { (u.line n).holds with watch := (y.line n).holds.watch } }
  journal : u.acct.journal <+: y.acct.journal
  frame : y = { u with
    cellar := { u.cellar with lines := y.cellar.lines, products := y.cellar.products }
    pour := { u.pour with taps := y.pour.taps, barOpen := y.pour.barOpen }
    acct := y.acct, cool := { u.cool with trunks := y.cool.trunks }
    link := { u.link with notices := y.link.notices } }

theorem PourTold.refl (i : Nat) (u : State) : PourTold i u u :=
  ⟨fun _ _ => rfl, ⟨rfl, rfl, rfl, rfl⟩, fun _ => rfl, List.prefix_refl _, rfl⟩

theorem PourTold.routing {i : Nat} {u y : State} (h : PourTold i u y) (j : Nat) : (y.tap j).route = (u.tap j).route
    ∧ (y.tap j).deferred = (u.tap j).deferred ∧ (y.tap j).withheld = (u.tap j).withheld ∧ (y.tap j).lockout = (u.tap j).lockout := by
  by_cases hj : j = i
  · rw [hj]
    exact h.own
  · rw [h.others j hj]
    exact ⟨rfl, rfl, rfl, rfl⟩

/-- The pour of `token` on line `n` ends at tap `i` from `s` to `t`: by the Line Manager's part to `x`, the drain condition to `u`, and the
accounts to `y`. -/
structure PourEnding (i n token : Nat) (s x u y t : State) : Prop where
  lt : i < 128
  counted : PourCounted n s x
  drained : u = evalDrain n x
  told : PourTold i u y
  idled : t = applyDeferred i (pourGone i token y)

namespace PourEnding

variable {i n token : Nat} {s x u y t : State} (h : PourEnding i n token s x u y t)
include h

theorem evaluates : Evaluates x u := h.drained ▸ evalDrain_evaluates n x

theorem applies : Evaluates (pourGone i token y) t := h.idled ▸ (applyDeferred_spec h.lt _).1

theorem line (m : Nat) : t.line m = { x.line m with
    state := (t.line m).state, mark := (t.line m).mark, holds := { (x.line m).holds with watch := (t.line m).holds.watch } } := by
  have last := h.applies.line m
  have same : (pourGone i token y).line m = y.line m := rfl
  rw [last, same, h.told.line m, h.evaluates.line m]

theorem entry (j : Nat) : y.activeEntry j = s.activeEntry j := by
  have drained : u.activeEntry j = x.activeEntry j := h.drained ▸ (evalDrain_tapsFreed n x).entry j
  have first : x.activeEntry j = s.activeEntry j := by rw [h.counted.frame]; rfl
  rw [← first, ← drained, h.told.frame]
  rfl

/-- What the evaluation of the line's drain condition does to a tap. -/
theorem freed (j : Nat) : Freed (s.activeEntry j) (s.tap j) (u.tap j) := by
  have freed := (evalDrain_tapsFreed n x).tap j
  have tap : x.tap j = s.tap j := by rw [h.counted.frame]; rfl
  have entry : x.activeEntry j = s.activeEntry j := by rw [h.counted.frame]; rfl
  rw [← h.drained, tap, entry] at freed
  exact freed

theorem tap_other {j : Nat} (hj : j ≠ i) : t.tap j = { s.tap j with
    route := (t.tap j).route, withheld := (t.tap j).withheld, watchBarred := (t.tap j).watchBarred } := by
  have last := (applyDeferred_spec h.lt (pourGone i token y)).2.2 j hj
  rw [← h.idled, pourGone_tap_ne token y hj] at last
  rw [last.kept, h.told.others j hj, (h.freed j).kept]

/-- The tap itself: its deferred route is applied to what the accounts leave of it. -/
theorem applied : ∃ z, Freed (s.activeEntry i) z (t.tap i)
    ∧ ((y.tap i).deferred = false → z = { y.tap i with pour := none })
    ∧ ((y.tap i).deferred = true → z = { y.tap i with pour := none, deferred := false, route := s.activeEntry i }
      ∨ z = { y.tap i with pour := none, deferred := false, withheld := true, route := darkRoute }
        ∧ (y.tap i).lockout = false ∧ (s.activeEntry i).line ≠ none) := by
  obtain ⟨-, ⟨z, ⟨still, held, taken⟩, freed⟩, -⟩ := applyDeferred_spec h.lt (pourGone i token y)
  have entry : (pourGone i token y).activeEntry i = s.activeEntry i := h.entry i
  have gone := pourGone_tap token y h.lt
  rw [← h.idled, entry] at freed
  refine ⟨z, freed, fun hd => ?_, fun hd => ?_⟩
  · rw [gone] at still
    exact still hd
  · by_cases hw : Withheld (pourGone i token y) i
    · refine .inr ⟨?_, ?_⟩
      · rw [gone] at held
        exact held hd hw
      · obtain ⟨lockout, m, hm, -⟩ := hw
        rw [gone] at lockout
        rw [entry] at hm
        exact ⟨lockout, by rw [hm]; exact Option.some_ne_none m⟩
    · rw [gone, entry] at taken
      exact .inl (taken hd hw)

theorem tap_own : t.tap i = { y.tap i with
    pour := none, deferred := false, route := (t.tap i).route, withheld := (t.tap i).withheld } := by
  obtain ⟨z, freed, still, taken⟩ := h.applied
  have kept := freed.kept
  by_cases hd : (y.tap i).deferred = true
  · rcases taken hd with hz | ⟨hz, -⟩ <;> rw [hz] at kept <;> exact kept
  · have idle : (y.tap i).deferred = false := by simpa using hd
    rw [still idle] at kept
    exact kept.trans (congrArg (fun b : Bool => { y.tap i with
      pour := none, deferred := b, route := (t.tap i).route, withheld := (t.tap i).withheld }) idle)

theorem route_kept (hd : (s.tap i).deferred = false) (hw : (s.tap i).withheld = false) :
    (t.tap i).route = (s.tap i).route ∧ (t.tap i).withheld = false := by
  obtain ⟨z, freed, still, -⟩ := h.applied
  obtain ⟨route, deferred, withheld, -⟩ := h.told.own
  rw [(h.freed i).same hw] at route deferred withheld
  have hz := still (deferred.trans hd)
  rw [freed.same (by rw [hz]; exact withheld.trans hw), hz]
  exact ⟨route, withheld.trans hw⟩

theorem route_applied (hd : (s.tap i).deferred = true) (hw : (s.tap i).withheld = false) :
    ((t.tap i).route = s.activeEntry i ∧ (t.tap i).withheld = false)
      ∨ ((t.tap i).route = darkRoute ∧ (t.tap i).withheld = true ∧ (s.tap i).lockout = false ∧ (s.activeEntry i).line ≠ none) := by
  obtain ⟨z, freed, -, taken⟩ := h.applied
  obtain ⟨-, deferred, withheld, lockout⟩ := h.told.own
  rw [(h.freed i).same hw] at deferred withheld lockout
  rcases taken (deferred.trans hd) with hz | ⟨hz, open_lock, named⟩
  · rw [freed.same (by rw [hz]; exact withheld.trans hw), hz]
    exact .inl ⟨rfl, withheld.trans hw⟩
  · rw [hz] at freed
    rcases freed with ht | ⟨-, ht⟩
    · rw [ht]
      exact .inr ⟨rfl, rfl, lockout.symm.trans open_lock, named⟩
    · rw [ht]
      exact .inl ⟨rfl, rfl⟩

theorem stops : StopGone i token s t := by
  obtain ⟨nodes, bus⟩ := pourGone_stops token y h.lt
  have last : t.bus = (pourGone i token y).bus := (congrArg State.bus h.applies.frame).trans rfl
  have first : y.bus = s.bus := ((congrArg State.bus h.told.frame).trans rfl).trans
    (((congrArg State.bus h.evaluates.frame).trans rfl).trans ((congrArg State.bus h.counted.frame).trans rfl))
  have node : ∀ b, y.node b = s.node b := fun b => by rw [State.node, first]; rfl
  refine ⟨fun b hb => ?_, ?_⟩
  · have ended : t.node b = (pourGone i token y).node b := by rw [State.node, last]; rfl
    rw [ended, nodes b hb, node]
  · rw [last, bus, first]

theorem journal : s.acct.journal <+: t.acct.journal := by
  have first : x.acct = s.acct := (congrArg State.acct h.counted.frame).trans rfl
  exact first ▸ (h.evaluates.journal.trans h.told.journal).trans h.applies.journal

theorem store : t.store = s.store :=
  ((congrArg State.store h.applies.frame).trans rfl).trans (((congrArg State.store h.told.frame).trans rfl).trans
    (((congrArg State.store h.evaluates.frame).trans rfl).trans ((congrArg State.store h.counted.frame).trans rfl)))

theorem pins : t.pins = s.pins :=
  ((congrArg State.pins h.applies.frame).trans rfl).trans (((congrArg State.pins h.told.frame).trans rfl).trans
    (((congrArg State.pins h.evaluates.frame).trans rfl).trans ((congrArg State.pins h.counted.frame).trans rfl)))

theorem cool : t.cool = y.cool := (congrArg State.cool h.applies.frame).trans rfl

theorem products : t.cellar.products = y.cellar.products := (congrArg (·.cellar.products) h.applies.frame).trans rfl

/-- While no circuit is IDLE and no route waits, a DRAINING line goes by its drain condition (R6). -/
theorem drains (hd : (s.tap i).deferred = false) (hs : (s.line n).state = .draining) (ha : (s.circuit .a).state ≠ .idle)
    (hb : (s.circuit .b).state ≠ .idle) :
    let drained := (s.line n).inFlight ≤ 1 ∧ ∀ j, j < 128 → (s.tap j).route.line = some n → (s.tap j).lockout = true
    (drained → (t.line n).state = .queued) ∧ (¬ drained → (t.line n).state = .draining) := by
  have tap : ∀ j, x.tap j = s.tap j := fun j => by rw [h.counted.frame]; rfl
  have circuit : ∀ c, (drainMoved n .queued true x).circuit c = s.circuit c := fun c => by
    rw [h.counted.frame]
    cases c <;> rfl
  have state : (x.line n).state = .draining := h.counted.state.trans hs
  have condition : Drained n x ↔ (s.line n).inFlight ≤ 1
      ∧ ∀ j, j < 128 → (s.tap j).route.line = some n → (s.tap j).lockout = true := by
    simp only [Drained, h.counted.inFlight, tap, Nat.sub_eq_zero_iff_le]
  have lt : n < 48 := by
    by_contra hn
    rw [State.line_of_ge (Nat.not_lt.mp hn)] at hs
    exact absurd hs (by decide)
  have last : (t.line n).state = (u.line n).state := by
    have waits : (y.tap i).deferred = false := by
      rw [h.told.own.2.1]
      rcases h.freed i with same | ⟨-, same⟩ <;> rw [same] <;> exact hd
    have gone : ((pourGone i token y).tap i).deferred = false := by
      rw [pourGone_tap token y h.lt]
      exact waits
    have line : (pourGone i token y).line n = y.line n := rfl
    rw [h.idled, applyDeferred_none gone, line, h.told.line n]
  rw [last, h.drained]
  refine ⟨fun hx => ?_, fun hx => ?_⟩
  · rw [evalDrain_drained state (condition.mpr hx), serveReady_eq, circuit, circuit, if_neg ha, if_neg hb]
    exact congrArg Line.state (State.line_setLine_self x n _ lt)
  · rw [evalDrain_undrained state fun hd => hx (condition.mp hd), state]

theorem inFlight : (t.line n).inFlight = (s.line n).inFlight - 1 := by rw [h.line n, ← h.counted.inFlight]

theorem line_other {m : Nat} (hm : m ≠ n) : t.line m = { s.line m with
    state := (t.line m).state, mark := (t.line m).mark, holds := { (s.line m).holds with watch := (t.line m).holds.watch } } := by
  have line := h.line m
  rw [h.counted.others m hm] at line
  exact line

end PourEnding

/-- Every end of a pour leaves what `PourLeaves` says. -/
theorem PourEnding.leaves {i : Nat} {r : InFlight} {s x u y t : State} (h : PourEnding i r.line r.token s x u y t) :
    PourLeaves i r s t := by
  refine ⟨h.inFlight, fun m hm => ?_, fun j hj => h.tap_other hj, h.journal, h.store, h.pins, h.route_kept, fun hd hw => ?_, h.drains⟩
  · rw [h.line_other hm]
    exact ⟨rfl, rfl, rfl, rfl, rfl, rfl⟩
  · have applied := h.route_applied hd hw
    rw [activeEntry_eq] at applied
    exact applied

end Sys2Proof.Machine
end

section
/-! ### Silent and measured ends (O29) -/

namespace Sys2Proof.Machine

open Sys2Proof Sys2Proof.Safety

theorem PourEnding.tap_drained {i n token : Nat} {s x u y t : State} (h : PourEnding i n token s x u y t) :
    u.tap i = { s.tap i with route := (u.tap i).route, withheld := (u.tap i).withheld } := (h.freed i).kept

/-! #### A silent end (R58) -/

theorem pourLeft_counted {n : Nat} (hn : n < 48) (s : State) : PourCounted n s (pourLeft n s) := by
  have line : (pourLeft n s).line n = (s.line n).pourLess := State.line_setLine_self s n _ hn
  exact ⟨by rw [line]; rfl, by rw [line]; rfl, fun m hm => State.line_setLine_ne s n m _ (Ne.symm hm), rfl⟩

section silent

variable {i : Nat} {r : InFlight} {s : State}

theorem zeroEnd_ending (hi : i < 128) (hn : r.line < 48) : PourEnding i r.line r.token s (pourLeft r.line s)
    (evalDrain r.line (pourLeft r.line s)) (evalDrain r.line (pourLeft r.line s)) (zeroEnd i r s) :=
  ⟨hi, pourLeft_counted hn s, rfl, .refl i _, rfl⟩

theorem zeroEnd_silent (hi : i < 128) (hn : r.line < 48) : SilentEnd i r s (zeroEnd i r s) := by
  have h := zeroEnd_ending (s := s) hi hn
  have line := h.line r.line
  have left : (pourLeft r.line s).line r.line = (s.line r.line).pourLess := State.line_setLine_self s _ _ hn
  rw [left] at line
  have products := h.products.trans (congrArg (·.cellar.products) h.evaluates.frame)
  have cool := h.cool.trans (congrArg State.cool h.evaluates.frame)
  refine ⟨h.leaves, ?_, ?_, ?_, ?_, ?_, ?_, products.trans rfl, cool.trans rfl, _, evalDrain_evaluated _ _, idleTap_idles hi _ _⟩
  · have own := h.tap_own
    rw [h.tap_drained] at own
    exact own
  all_goals rw [line]; rfl

end silent

/-! #### A measured end (R23, R59 to R66) -/

theorem isShort_eq (size : Option AskedSize) (v : Nat) : isShort size v = size.any fun z => decide (v + z.tolerance < z.target) := by
  cases size <;> rfl

theorem isOver_eq (size : Option AskedSize) (v : Nat) : isOver size v = size.any fun z => decide (z.target + z.tolerance < v) := by
  cases size <;> rfl

theorem isAbove_eq (limit : Int) (temperature : Option Int) : isAbove limit temperature = temperature.any fun x => decide (limit < x) := by
  cases temperature <;> rfl

/-- The POUR record of a measured end is the one of R66. -/
theorem pourRecord_eq (i : Nat) (r : InFlight) (e : PourEnd) (s : State) :
    pourRecord i r e (pulseVolume (s.tap i).gain (s.tap i).offset e.pulses) (creditedKeg (s.line r.line))
      (pourFlags r e (pulseVolume (s.tap i).gain (s.tap i).offset e.pulses) s.pour.foamThreshold (s.line r.line).config.serveLimit
        (creditedKeg (s.line r.line)).1) = measuredRecord i r e s := by
  unfold pourRecord pourFlags measuredRecord
  rw [isShort_eq, isOver_eq, isAbove_eq]
  rfl

end Sys2Proof.Machine
end

section
/-! #### The accounts of a measured end -/

namespace Sys2Proof.Machine

open Sys2Proof Sys2Proof.Safety

section told

variable (i : Nat) (r : InFlight) (e : PourEnd) (s : State)

/-- The part with the Line Manager's part of a measured end done, the drain condition evaluated. -/
def pourApplied : State := applyPour r.line (measuredRecord i r e s).volume (measuredRecord i r e s).flags.foamy e.lost e.temperature s

/-- The warm counter of trunk `n`, told of a pour that was WARM or was not (R61). -/
def warmTold (warm : Bool) (n : Nat) (z : State) : State := if warm then countWarm n z else z

/-- The part with the POUR record taken and the warm counter told. -/
def pourWarmed : State :=
  let z := takePour (measuredRecord i r e s) (pourApplied i r e s)
  warmTold (measuredRecord i r e s).flags.warm (s.line r.line).config.trunk z

/-- The part with the accounts and the cooling told of a measured end, and the overrun learned. -/
def pourTold : State :=
  if learns r e (measuredRecord i r e s).flags.foamy then
    (pourWarmed i r e s).modTap i fun x => x.learn (measuredRecord i r e s).volume r.budget
  else pourWarmed i r e s

theorem measuredEnd_eq : measuredEnd i r e s = applyDeferred i (pourGone i r.token (pourTold i r e s)) := by
  unfold measuredEnd pourTold pourWarmed pourApplied
  rw [← pourRecord_eq]
  rfl

variable {i r e s}

theorem countWarm_trunk (n : Nat) (z : State) {m : Nat} (hm : m < 12) : (countWarm n z).trunk m
    = { z.trunk m with warm := if m = n then min 255 ((z.trunk m).warm + 1) else (z.trunk m).warm } := by
  unfold countWarm State.modTrunk
  rw [State.trunk_setTrunk]
  by_cases h : m = n
  · subst h
    rw [if_pos ⟨rfl, hm⟩, if_pos rfl]
    rfl
  · rw [if_neg fun hx => h hx.1.symm, if_neg h]

/-- The warm counter told: nothing but the trunks' counts changes. -/
theorem warmTold_spec (warm : Bool) (n : Nat) (z : State) :
    warmTold warm n z = { z with cool := { z.cool with trunks := (warmTold warm n z).cool.trunks } }
      ∧ ∀ m, m < 12 → (warmTold warm n z).trunk m
        = { z.trunk m with warm := if warm ∧ m = n then min 255 ((z.trunk m).warm + 1) else (z.trunk m).warm } := by
  cases warm with
  | true =>
    refine ⟨rfl, fun m hm => (countWarm_trunk n z hm).trans ?_⟩
    simp only [true_and]
  | false => exact ⟨rfl, fun m _ => by rw [if_neg fun h => absurd h.1 Bool.false_ne_true]; rfl⟩

theorem learns_iff (foamy : Bool) : learns r e foamy = true
    ↔ r.cls = .portion ∧ e.cause = some .budget ∧ foamy = false ∧ e.lost = false := by
  simp only [learns, Bool.and_eq_true, decide_eq_true_eq, Bool.not_eq_true', and_assoc]

/-- The overrun learned from a measured end (R65). -/
def learnedOverrun (r : InFlight) (e : PourEnd) (p : PourRecord) (x : Tap) : Nat :=
  if r.cls = .portion ∧ e.cause = some .budget ∧ p.flags.foamy = false ∧ e.lost = false
    then learnOverrun x.overrun ((p.volume : Int) - pulseVolume x.gain x.offset r.budget) else x.overrun

/-- The overrun learned: nothing else changes. -/
theorem pourTold_learned (hi : i < 128) :
    (∀ j, j ≠ i → (pourTold i r e s).tap j = (pourWarmed i r e s).tap j)
      ∧ (pourTold i r e s).tap i = { (pourWarmed i r e s).tap i with
        overrun := learnedOverrun r e (measuredRecord i r e s) ((pourWarmed i r e s).tap i) }
      ∧ pourTold i r e s = { pourWarmed i r e s with
        pour := { (pourWarmed i r e s).pour with taps := (pourTold i r e s).pour.taps } } := by
  unfold pourTold learnedOverrun
  simp only [learns_iff]
  generalize pourWarmed i r e s = w
  split
  · exact ⟨fun j hj => State.tap_setTap_ne _ _ _ _ (Ne.symm hj), State.tap_setTap_self _ _ _ hi, rfl⟩
  · exact ⟨fun _ _ => rfl, rfl, rfl⟩

/-- The accounts, the cooling and the overrun after a measured end, from the part with its line's drain condition evaluated. -/
theorem pourTold_spec (hi : i < 128) : let p := measuredRecord i r e s
    let u := pourApplied i r e s
    let y := pourTold i r e s
    PourTold i u y
      ∧ (∃ barred, y.tap i = { (u.tap i).sold (u.acct.stores (.pour p)) p.cls p.volume with
          watchBarred := barred, overrun := learnedOverrun r e p (u.tap i) })
      ∧ (takeRecord (.pour p) u).acct.journal <+: y.acct.journal
      ∧ y.cellar.products = (if p.cls = .prime then u.cellar.products
          else u.cellar.products.map fun q => if q.code = p.product then q.sold p.volume else q)
      ∧ ∀ n, n < 12 → y.trunk n = { u.trunk n with
          warm := if p.flags.warm ∧ n = (s.line r.line).config.trunk then min 255 ((u.trunk n).warm + 1) else (u.trunk n).warm } := by
  have own : (measuredRecord i r e s).tap = i := rfl
  obtain ⟨others, sold, lines, journal, products, taken⟩ := takePour_spec (p := measuredRecord i r e s) (s := pourApplied i r e s)
    (by rw [own]; exact hi)
  obtain ⟨warmed, trunks⟩ := warmTold_spec (measuredRecord i r e s).flags.warm (s.line r.line).config.trunk
    (takePour (measuredRecord i r e s) (pourApplied i r e s))
  have isWarmed : warmTold (measuredRecord i r e s).flags.warm (s.line r.line).config.trunk
    (takePour (measuredRecord i r e s) (pourApplied i r e s)) = pourWarmed i r e s := rfl
  rw [isWarmed] at warmed trunks
  clear isWarmed
  obtain ⟨kept, learned, told⟩ := pourTold_learned (r := r) (e := e) (s := s) hi
  rw [own] at others sold
  intro p u y
  show PourTold i u y ∧ _
  generalize takePour (measuredRecord i r e s) (pourApplied i r e s) = z at *
  generalize pourWarmed i r e s = w at *
  have hy : pourTold i r e s = y := rfl
  rw [hy] at kept learned told
  have tap : ∀ j, w.tap j = z.tap j := fun j => by rw [warmed]; rfl
  have line : ∀ n, y.line n = z.line n := fun n => by rw [told, warmed]; rfl
  have ownTap : ∃ barred, y.tap i = { (u.tap i).sold (u.acct.stores (.pour p)) p.cls p.volume with
      watchBarred := barred, overrun := learnedOverrun r e p (u.tap i) } :=
    ⟨(z.tap i).watchBarred, by rw [learned, tap, sold]; rfl⟩
  refine ⟨⟨fun j hj => ?_, ?_, fun n => ?_, ?_, ?_⟩, ownTap, ?_, ?_, fun n hn => ?_⟩
  · rw [kept j hj, tap, others j hj]
  · obtain ⟨barred, own⟩ := ownTap
    rw [own]
    exact ⟨rfl, rfl, rfl, rfl⟩
  · rw [line, lines n]
  · have acct : y.acct = z.acct := by rw [told, warmed]
    rw [acct]
    exact (takeRecord_prefix _ _).trans journal
  · rw [told, warmed, taken]
  · have acct : y.acct = z.acct := by rw [told, warmed]
    rw [acct]
    exact journal
  · have cellar : y.cellar = z.cellar := by rw [told, warmed]
    rw [cellar, products]
  · have trunk : y.trunk n = w.trunk n := by rw [told]; rfl
    have before : z.trunk n = u.trunk n := by rw [taken]; rfl
    rw [trunk, trunks n hn, before]

end told

/-! #### The line's figures and the cause of its notice -/

theorem dueDecided_eq (l : Line) : l.dueDecided = { l with
    softVolumeNoted := l.dueDecided.softVolumeNoted, holds := { l.holds with overdue := l.dueDecided.holds.overdue } } := by
  unfold Line.dueDecided
  split <;> rfl

section poured

variable (v : Nat) (foamy lost : Bool) (temperature : Option Int) (l : Line)

/-- The foam count after a pour (R25). -/
def foamAfter : Nat := if lost then l.foamCount else if foamy then min 3 (l.foamCount + 1) else 0

/-- The foam alert after a pour, an orphan's left as it is (R25, R73). -/
def foamAlertAfter : Bool := if lost then l.foamAlert else foamy && (l.foamAlert || decide (foamAfter foamy lost l = 3))

theorem foamAlertAfter_counted : foamAlertAfter foamy false l = alertAfter foamy l := by
  cases foamy <;> rfl

theorem pouredBefore_eq : pouredBefore v foamy lost temperature l = { l with
    chain := creditHead v l.chain, volumeSinceClean := min 4294967295 (l.volumeSinceClean + v)
    tapPoured := min 281474976710655 (l.tapPoured + v), foamCount := foamAfter foamy lost l, foamAlert := foamAlertAfter foamy lost l
    holds := { l.holds with temp := l.holds.temp || tooWarm temperature l }, inFlight := l.inFlight - 1 } := by
  cases lost with
  | true => rfl
  | false =>
    rw [foamAlertAfter_counted]
    rfl

/-- The line after the Line Manager's part of a finished pour. -/
theorem pouredLine_spec : let x := pouredLine v foamy lost temperature l
    x.chain = creditHead v l.chain
      ∧ x.tapPoured = min 281474976710655 (l.tapPoured + v) ∧ x.volumeSinceClean = min 4294967295 (l.volumeSinceClean + v)
      ∧ x.foamCount = foamAfter foamy lost l ∧ x.foamAlert = foamAlertAfter foamy lost l
      ∧ x.holds.temp = (l.holds.temp || tooWarm temperature l)
      ∧ x.inFlight = l.inFlight - 1 ∧ x.state = l.state
      ∧ (l.state ≠ .offline →
          x.softVolumeNoted = (l.softVolumeNoted
            || decide (l.config.softVolume ≠ 0 ∧ l.config.softVolume ≤ min 4294967295 (l.volumeSinceClean + v)))
          ∧ x.holds.overdue = (l.holds.overdue
            || decide (l.config.hardVolume ≠ 0 ∧ l.config.hardVolume ≤ min 4294967295 (l.volumeSinceClean + v)))) := by
  have before := pouredBefore_eq v foamy lost temperature l
  have decided := dueDecided_eq (pouredBefore v foamy lost temperature l)
  intro x
  have hx : (pouredBefore v foamy lost temperature l).dueDecided = x := rfl
  rw [hx, before] at decided
  have online : l.state ≠ .offline → x = { pouredBefore v foamy lost temperature l with
      softVolumeNoted := (pouredBefore v foamy lost temperature l).softVolumeNoted || softReached (pouredBefore v foamy lost temperature l)
      holds := { (pouredBefore v foamy lost temperature l).holds with
        overdue := (pouredBefore v foamy lost temperature l).holds.overdue || hardReached (pouredBefore v foamy lost temperature l) } } :=
    fun h => if_neg (by rw [before]; exact h)
  refine ⟨?_, ?_, ?_, ?_, ?_, ?_, ?_, ?_, fun h => ?_⟩
  on_goal 9 => rw [online h, before]; exact ⟨rfl, rfl⟩
  all_goals rw [decided]

/-- The cause of the line's notice after a finished pour: the last of FOAM, HOLD for TEMP, DUE and HOLD for OVERDUE. -/
theorem pouredCause_spec :
    let since := min 4294967295 (l.volumeSinceClean + v)
    let newTemp := l.holds.temp = false ∧ tooWarm temperature l = true
    let newDue := l.state ≠ .offline ∧ l.softVolumeNoted = false ∧ l.config.softVolume ≠ 0 ∧ l.config.softVolume ≤ since
    let newOver := l.state ≠ .offline ∧ l.holds.overdue = false ∧ l.config.hardVolume ≠ 0 ∧ l.config.hardVolume ≤ since
    let c := pouredCause v foamy lost temperature l
    (newOver → c = some .lineHold) ∧ (¬ newOver → newDue → c = some .lineDue) ∧ (¬ newOver → ¬ newDue → newTemp → c = some .lineHold)
      ∧ (¬ newOver → ¬ newDue → ¬ newTemp → c = if foamAlertAfter foamy lost l = l.foamAlert then none else some .lineFoam) := by
  intro since newTemp newDue newOver c
  have before := pouredBefore_eq v foamy lost temperature l
  have due : dueCause (pouredBefore v foamy lost temperature l) = (causeIf (decide newOver) .lineHold).or (causeIf (decide newDue) .lineDue) := by
    rw [before]
    by_cases online : l.state = .offline
    · have hard : ¬ newOver := fun h => h.1 online
      have soft : ¬ newDue := fun h => h.1 online
      rw [decide_eq_false hard, decide_eq_false soft]
      exact if_pos online
    · have hard : decide newOver = (decide (l.config.hardVolume ≠ 0 ∧ l.config.hardVolume ≤ since) && !l.holds.overdue) := by
        rw [Bool.eq_iff_iff]
        simp only [newOver, decide_eq_true_eq, Bool.and_eq_true, Bool.not_eq_true', ne_eq, online, not_false_eq_true, true_and]
        exact and_comm
      have soft : decide newDue = (decide (l.config.softVolume ≠ 0 ∧ l.config.softVolume ≤ since) && !l.softVolumeNoted) := by
        rw [Bool.eq_iff_iff]
        simp only [newDue, decide_eq_true_eq, Bool.and_eq_true, Bool.not_eq_true', ne_eq, online, not_false_eq_true, true_and]
        exact and_comm
      rw [hard, soft]
      exact if_neg online
  have temp : (tooWarm temperature l && !l.holds.temp) = decide newTemp := by
    rw [Bool.eq_iff_iff]
    simp only [newTemp, decide_eq_true_eq, Bool.and_eq_true, Bool.not_eq_true']
    exact and_comm
  have foam : causeIf (!lost && (alertAfter foamy l != l.foamAlert)) .lineFoam
      = if foamAlertAfter foamy lost l = l.foamAlert then none else some .lineFoam := by
    cases lost with
    | true => exact (if_pos rfl).symm
    | false =>
      rw [foamAlertAfter_counted]
      by_cases h : alertAfter foamy l = l.foamAlert
      · simp [h, causeIf]
      · simp [h, causeIf]
  have cause : c = ((causeIf (decide newOver) .lineHold).or (causeIf (decide newDue) .lineDue)).or ((causeIf (decide newTemp) .lineHold).or
      (if foamAlertAfter foamy lost l = l.foamAlert then none else some .lineFoam)) := by
    rw [← due, ← temp, ← foam]
    rfl
  rw [cause]
  refine ⟨fun ho => ?_, fun ho hd => ?_, fun ho hd ht => ?_, fun ho hd ht => ?_⟩
  · rw [decide_eq_true ho]
    rfl
  · rw [decide_eq_false ho, decide_eq_true hd]
    rfl
  · rw [decide_eq_false ho, decide_eq_false hd, decide_eq_true ht]
    rfl
  · rw [decide_eq_false ho, decide_eq_false hd, decide_eq_false ht]
    rfl

end poured

end Sys2Proof.Machine
end

section
/-! #### The measured end put together -/

namespace Sys2Proof.Machine

open Sys2Proof Sys2Proof.Safety

section measured

variable {i : Nat} {r : InFlight} (e : PourEnd) {s : State}

/-- The part with the Line Manager's part of a measured end done, but for the drain condition. -/
def pourLined (i : Nat) (r : InFlight) (e : PourEnd) (s : State) : State :=
  let p := measuredRecord i r e s
  lineTurned r.line (pouredLine p.volume p.flags.foamy e.lost e.temperature (s.line r.line))
    (pouredCause p.volume p.flags.foamy e.lost e.temperature (s.line r.line)) s

theorem pourApplied_eq (hn : r.line < 48) : pourApplied i r e s = evalDrain r.line (pourLined i r e s) := applyPour_turned s hn _ _ _ _

theorem pourLined_line (hn : r.line < 48) : (pourLined i r e s).line r.line
    = pouredLine (measuredRecord i r e s).volume (measuredRecord i r e s).flags.foamy e.lost e.temperature (s.line r.line) :=
  lineTurned_line hn _ _ _

theorem pourLined_counted (hn : r.line < 48) : PourCounted r.line s (pourLined i r e s) := by
  obtain ⟨-, -, -, -, -, -, flight, state, -⟩ := pouredLine_spec (measuredRecord i r e s).volume
    (measuredRecord i r e s).flags.foamy e.lost e.temperature (s.line r.line)
  rw [← pourLined_line e hn] at flight state
  exact ⟨flight, state, fun m hm => lineTurned_line_ne _ _ _ hm, lineTurned_frame _ _ _⟩

theorem measuredEnd_ending (hi : i < 128) (hn : r.line < 48) : PourEnding i r.line r.token s (pourLined i r e s) (pourApplied i r e s)
    (pourTold i r e s) (measuredEnd i r e s) :=
  ⟨hi, pourLined_counted e hn, pourApplied_eq e hn, (pourTold_spec hi).1, measuredEnd_eq i r e s⟩

/-- The journal has room for a POUR record (R92, R93). -/
abbrev PourRoom (s : State) : Prop := s.acct.journal.length < 4096 ∧ s.acct.nextSeq ≤ 4294967295 ∧ s.acct.pourPurge < 4032

theorem stores_pour (p : PourRecord) : s.acct.stores (.pour p) = decide (PourRoom s) := by
  rw [Bool.eq_iff_iff]
  simp only [Accounts.stores, RecordBody.isPourPurge, Bool.not_true, Bool.false_or, Bool.and_eq_true, decide_eq_true_eq, and_assoc]
  exact Iff.rfl

theorem creditHead_eq (v : Nat) (ks : List Keg) : creditHead v ks = match ks with
    | [] => []
    | k :: rest => { k with poured := min 281474976710655 (k.poured + v) } :: rest := by
  cases ks <;> rfl

theorem measured_notices : (pourLined i r e s).link.notices
    = match pouredCause (measuredRecord i r e s).volume (measuredRecord i r e s).flags.foamy e.lost e.temperature (s.line r.line) with
      | none => s.link.notices
      | some c => mergeNotice (.line r.line) c s.link.notices := lineTurned_notices _ _ _

/-- Every figure of the tap after a measured end. -/
theorem measured_tap (hi : i < 128) (hn : r.line < 48) : ∃ barred, (measuredEnd i r e s).tap i
    = { (s.tap i).sold (decide (PourRoom (pourApplied i r e s))) r.cls (measuredRecord i r e s).volume with
        pour := none, deferred := false, overrun := learnedOverrun r e (measuredRecord i r e s) (s.tap i)
        route := ((measuredEnd i r e s).tap i).route, withheld := ((measuredEnd i r e s).tap i).withheld, watchBarred := barred } := by
  have h := measuredEnd_ending e (s := s) hi hn
  have own := h.tap_own
  obtain ⟨-, ⟨barred, told⟩, -⟩ := pourTold_spec (r := r) (e := e) (s := s) hi
  rw [told, stores_pour, h.tap_drained] at own
  exact ⟨barred, own⟩

theorem measured_record (hi : i < 128) (hn : r.line < 48) (room : PourRoom (pourApplied i r e s)) :
    { seq := (pourApplied i r e s).acct.nextSeq, time := if s.store.unset then none else some s.store.clock,
      body := .pour (measuredRecord i r e s) } ∈ (measuredEnd i r e s).acct.journal := by
  have h := measuredEnd_ending e (s := s) hi hn
  obtain ⟨-, -, journal, -⟩ := pourTold_spec (r := r) (e := e) (s := s) hi
  have stored := takeRecord_stored (b := .pour (measuredRecord i r e s)) (s := pourApplied i r e s)
    ((stores_pour _).trans (decide_eq_true room))
  have store : (pourApplied i r e s).store = s.store :=
    ((congrArg State.store h.evaluates.frame).trans rfl).trans ((congrArg State.store h.counted.frame).trans rfl)
  have record : (pourApplied i r e s).recordOf (.pour (measuredRecord i r e s)) =
      { seq := (pourApplied i r e s).acct.nextSeq, time := if s.store.unset then none else some s.store.clock,
        body := .pour (measuredRecord i r e s) } := by
    rw [State.recordOf, State.time, store]
  refine (journal.trans h.applies.journal).subset ?_
  rw [stored, ← record]
  exact List.mem_append_right _ List.mem_cons_self

theorem measured_products (hi : i < 128) (hn : r.line < 48) : (measuredEnd i r e s).cellar.products = if r.cls = .prime
    then s.cellar.products
    else s.cellar.products.map fun q => if q.code = (measuredRecord i r e s).product then q.sold (measuredRecord i r e s).volume else q := by
  have h := measuredEnd_ending e (s := s) hi hn
  obtain ⟨-, -, -, products, -⟩ := pourTold_spec (r := r) (e := e) (s := s) hi
  have before : (pourApplied i r e s).cellar.products = s.cellar.products :=
    ((congrArg (·.cellar.products) h.evaluates.frame).trans rfl).trans ((congrArg (·.cellar.products) h.counted.frame).trans rfl)
  rw [h.products, products, before]
  rfl

theorem measured_cool (hi : i < 128) (hn : r.line < 48) :
    (measuredEnd i r e s).cool = { s.cool with trunks := (measuredEnd i r e s).cool.trunks }
      ∧ ∀ n, n < 12 → (measuredEnd i r e s).trunk n = { s.trunk n with
        warm := if (measuredRecord i r e s).flags.warm ∧ n = (s.line r.line).config.trunk then min 255 ((s.trunk n).warm + 1)
          else (s.trunk n).warm } := by
  have h := measuredEnd_ending e (s := s) hi hn
  obtain ⟨told, -, -, -, trunks⟩ := pourTold_spec (r := r) (e := e) (s := s) hi
  have before : (pourApplied i r e s).cool = s.cool :=
    ((congrArg State.cool h.evaluates.frame).trans rfl).trans ((congrArg State.cool h.counted.frame).trans rfl)
  refine ⟨?_, fun n hn => ?_⟩
  · rw [h.cool]
    exact ((congrArg State.cool told.frame).trans rfl).trans (by rw [before])
  · have trunk : (measuredEnd i r e s).trunk n = (pourTold i r e s).trunk n := by rw [State.trunk, h.cool]; rfl
    have start : (pourApplied i r e s).trunk n = s.trunk n := by rw [State.trunk, before]; rfl
    rw [trunk, trunks n hn, start]

theorem tooWarm_iff (temperature : Option Int) (l : Line) :
    tooWarm temperature l = true ↔ ∃ y, temperature = some y ∧ l.config.hardLimit < y := by
  cases temperature <;> simp [tooWarm]

theorem sold_decide (room : Prop) [Decidable room] (c : PourClass) (v : Nat) (x : Tap) : x.sold (decide room) c v = { x with
    portion := if c = .portion then tallied v x.portion else x.portion
    free := if c = .free then tallied v x.free else x.free
    prime := if c = .prime then tallied v x.prime else x.prime
    unjournalled := if room then x.unjournalled else tallied v x.unjournalled } := by
  unfold Tap.sold
  simp only [decide_eq_true_eq]

/-- A measured end is what `MeasuredEnd` says. -/
theorem measuredEnd_measured (hi : i < 128) (hn : r.line < 48) : MeasuredEnd i r e s (measuredEnd i r e s) := by
  have h := measuredEnd_ending e (s := s) hi hn
  obtain ⟨chain, poured, since, count, alert, temp, -, -, online⟩ := pouredLine_spec (measuredRecord i r e s).volume
    (measuredRecord i r e s).flags.foamy e.lost e.temperature (s.line r.line)
  obtain ⟨causeOver, causeDue, causeTemp, causeFoam⟩ := pouredCause_spec (measuredRecord i r e s).volume
    (measuredRecord i r e s).flags.foamy e.lost e.temperature (s.line r.line)
  have line := h.line r.line
  have lined := pourLined_line (i := i) (s := s) e hn
  rw [← lined] at chain poured since count alert temp online
  have notices := measured_notices (i := i) (r := r) e (s := s)
  obtain ⟨cool, trunks⟩ := measured_cool e (s := s) hi hn
  obtain ⟨barred, tap⟩ := measured_tap e (s := s) hi hn
  refine ⟨h.leaves, ?_, ?_, ?_, ?_, ?_, ?_, fun ho => ?_, ?_, measured_record e hi hn, measured_products e hi hn, trunks, cool,
    ⟨pourLined i r e s, ?_, h.counted.state, h.counted.inFlight, h.counted.others, fun ho => ?_, fun ho hd => ?_, fun ho hd ht => ?_,
      fun ho hd ht => ?_, h.counted.frame⟩, ⟨pourTold i r e s, ?_, h.told.routing, fun m => ?_, h.told.frame⟩⟩
  · exact (congrArg Line.chain line).trans (chain.trans (creditHead_eq _ _))
  · exact (congrArg Line.tapPoured line).trans poured
  · exact (congrArg Line.volumeSinceClean line).trans since
  · exact (congrArg Line.foamCount line).trans count
  · exact (congrArg Line.foamAlert line).trans alert
  · exact (congrArg (·.holds.temp) line).trans temp
  · rw [line]
    exact online ho
  · have own : barred = ((measuredEnd i r e s).tap i).watchBarred := (congrArg Tap.watchBarred tap).symm
    rw [own, sold_decide] at tap
    exact tap
  · have evaluated := evalDrain_evaluated r.line (pourLined i r e s)
    rw [← pourApplied_eq e hn] at evaluated
    exact evaluated
  · rw [causeOver ho] at notices
    exact notices
  · rw [causeDue ho hd] at notices
    exact notices
  · rw [causeTemp ho hd (ht.imp_right (tooWarm_iff _ _).mpr)] at notices
    exact notices
  · rw [causeFoam ho hd fun h => ht (h.imp_right (tooWarm_iff _ _).mp)] at notices
    by_cases same : foamAlertAfter (measuredRecord i r e s).flags.foamy e.lost (s.line r.line) = (s.line r.line).foamAlert
    · rw [if_pos same] at notices
      exact notices.trans (if_pos same).symm
    · rw [if_neg same] at notices
      exact notices.trans (if_neg same).symm
  · exact (measuredEnd_eq i r e s) ▸ idleTap_idles hi r.token (pourTold i r e s)
  · rw [h.told.line m]
    exact ⟨rfl, rfl⟩

end measured

/-! #### An accepted DONE (R57) -/

theorem adjustTemperature_eq (temperature : Option Int) :
    adjustTemperature temperature = temperature.bind fun v => if -300 ≤ v ∧ v ≤ 700 then some v else none := by
  cases temperature with
  | none => rfl
  | some v =>
    show (if v < -300 || 700 < v then none else some v) = if -300 ≤ v ∧ v ≤ 700 then some v else none
    by_cases h : -300 ≤ v ∧ v ≤ 700
    · rw [if_pos h, if_neg (by simp; omega)]
    · rw [if_neg h, if_pos (by simp; omega)]

theorem adjustCause_eq (pulses : Nat) (c : EndCause) :
    adjustCause pulses c = if c = .expired ∧ pulses ≠ 0 then .handle else c := by
  unfold adjustCause
  simp only [Bool.and_eq_true, decide_eq_true_eq]

section finish

variable {i token pulses fast : Nat} {temp : Option Int} {cause : EndCause} {s : State}

theorem finishPour_idle (hp : (s.tap i).pour = none) : finishPour i token pulses fast temp cause s = s := by
  unfold finishPour
  rw [hp]

theorem finishPour_stale {p : Pour} (hp : (s.tap i).pour = some p) (ht : p.record.token ≠ token) :
    finishPour i token pulses fast temp cause s = s := by
  unfold finishPour
  rw [hp]
  exact if_pos ht

theorem finishPour_ends {p : Pour} (hp : (s.tap i).pour = some p) (ht : p.record.token = token) :
    finishPour i token pulses fast temp cause s = endPour i p.record (doneEnd p.phase pulses fast temp cause) s := by
  unfold finishPour doneEnd
  rw [hp, ← adjustTemperature_eq, ← adjustCause_eq]
  exact if_neg (not_not_intro ht)

end finish

theorem endPour_silent {i : Nat} {r : InFlight} {e : PourEnd} {s : State} (h : e.pulses = 0) : endPour i r e s = zeroEnd i r s := if_pos h

theorem endPour_measured {i : Nat} {r : InFlight} {e : PourEnd} {s : State} (h : e.pulses ≠ 0) : endPour i r e s = measuredEnd i r e s :=
  if_neg h

/-- The pour that ends is the only one that does, and the count of its line the only one that goes down. -/
theorem PourEnding.only {i n token : Nat} {s x u y t : State} (h : PourEnding i n token s x u y t) :
    StopGone i token s t ∧ (t.tap i).pour = none ∧ (∀ j, j ≠ i → (t.tap j).pour = (s.tap j).pour)
      ∧ (t.line n).inFlight = (s.line n).inFlight - 1 ∧ ∀ m, m ≠ n → (t.line m).inFlight = (s.line m).inFlight :=
  ⟨h.stops, congrArg Tap.pour h.tap_own, fun _ hj => (congrArg Tap.pour (h.tap_other hj)).trans rfl, h.inFlight,
    fun _ hm => (congrArg Line.inFlight (h.line_other hm)).trans rfl⟩

/-- Settles O29: a DONE without its pour changes nothing; a silent and a measured end by the lemmas of each. -/
theorem pourEnds : Obligations.PourEnds := by
  intro i token pulses fast temp cause s hi
  refine ⟨finishPour_idle, fun p hp ht => finishPour_stale hp ht, fun p hp ht hn => ?_⟩
  have ends := finishPour_ends (pulses := pulses) (fast := fast) (temp := temp) (cause := cause) hp ht
  rw [ends]
  subst ht
  by_cases silent : pulses = 0
  · rw [endPour_silent silent]
    have h := zeroEnd_ending (r := p.record) (s := s) hi hn
    obtain ⟨stops, idle, others, flight, flights⟩ := h.only
    have whole := zeroEnd_silent (r := p.record) (s := s) hi hn
    obtain ⟨-, tap, -, poured, -⟩ := id whole
    have uncounted : ∀ c, ¬ (pulses ≠ 0 ∧ p.record.cls = c) := fun c hx => hx.1 silent
    exact ⟨fun hx => absurd silent hx, fun _ => whole, stops, idle, others, flight, flights,
      (congrArg Tap.portion tap).trans (if_neg (uncounted _)).symm, (congrArg Tap.free tap).trans (if_neg (uncounted _)).symm,
      (congrArg Tap.prime tap).trans (if_neg (uncounted _)).symm, poured.trans (if_pos silent).symm⟩
  · rw [endPour_measured silent]
    have h := measuredEnd_ending (doneEnd p.phase pulses fast temp cause) (r := p.record) (s := s) hi hn
    obtain ⟨stops, idle, others, flight, flights⟩ := h.only
    have whole := measuredEnd_measured (doneEnd p.phase pulses fast temp cause) (r := p.record) (s := s) hi hn
    obtain ⟨-, -, poured, -⟩ := id whole
    obtain ⟨barred, tap⟩ := measured_tap (doneEnd p.phase pulses fast temp cause) (r := p.record) (s := s) hi hn
    have counted : ∀ (c : PourClass) (x y : Tally), (if p.record.cls = c then x else y)
        = if pulses ≠ 0 ∧ p.record.cls = c then x else y := fun c x y => by simp only [ne_eq, silent, not_false_eq_true, true_and]
    exact ⟨fun _ => whole, fun hx => absurd hx silent, stops, idle, others, flight, flights,
      (congrArg Tap.portion tap).trans (counted _ _ _), (congrArg Tap.free tap).trans (counted _ _ _),
      (congrArg Tap.prime tap).trans (counted _ _ _), poured.trans (if_neg silent).symm⟩

end Sys2Proof.Machine
end

section
/-! ### Taps, maps, sizes, limits and bars (O22, O24, O25) -/

namespace Sys2Proof.Machine

open Sys2Proof Sys2Proof.Safety

/-! #### The reads (R31, R37, R42, R45, R50) -/

/-- The map a selector names, by the selector. -/
theorem map_eq (p : PourBlock) (m : MapSel) : p.map m = if m = .a then p.mapA else p.mapB := by cases m <;> rfl

theorem map_other_eq (p : PourBlock) (m : MapSel) : p.map m.other = if m = .a then p.mapB else p.mapA := by cases m <;> rfl

theorem map_numbered (p : PourBlock) (m : Nat) : p.map (numberedMap m) = if m = 0 then p.mapA else p.mapB := by
  unfold numberedMap
  split <;> rfl

theorem sizeSetOf_place (s : State) (n : Fin 4) : sizeSetOf s n.val = s.pour.sizes[n] := by simp [sizeSetOf]

section reads

variable {m first count : Nat} {s : State}

theorem decideRouteRead_range (h : ¬ (m ≤ 1 ∧ 1 ≤ count ∧ count ≤ 32 ∧ first + count ≤ 128)) :
    decideRouteRead m first count s = refuse .range s := by
  unfold decideRouteRead
  by_cases hm : m ≤ 1
  · have run : ¬ runOk first count = true := fun hr => h ⟨hm, (runOk_iff first count).mp hr⟩
    rw [mapOf_numbered hm]
    exact if_pos (by simpa using run)
  · rw [mapOf_unnumbered hm]

theorem decideRouteRead_run (hm : m ≤ 1) (hr : 1 ≤ count ∧ count ≤ 32 ∧ first + count ≤ 128) :
    decideRouteRead m first count s = acceptWith (.routes s.pour.active ((List.range count).map fun i =>
      mapEntry (if m = 0 then s.pour.mapA else s.pour.mapB) (first + i))) s := by
  unfold decideRouteRead
  rw [mapOf_numbered hm, ← map_numbered]
  exact if_neg (by simpa using (runOk_iff first count).mpr hr)

theorem decideRouteCheck_tap {i : Nat} (hi : i ≤ 127) : decideRouteCheck i s = acceptWith
    (.routing (mapEntry (if s.pour.active = .a then s.pour.mapA else s.pour.mapB) i)
      (mapEntry (if s.pour.active = .a then s.pour.mapB else s.pour.mapA) i) (s.tap i).route (s.tap i).deferred
      (s.tap i).withheld s.pour.active) s := by
  rw [← map_eq, ← map_other_eq]
  exact if_neg (Nat.not_lt.mpr hi)

end reads

/-- Settles O22: each owner's decision leaves the part as it is. -/
theorem tapReads : Obligations.TapReads := by
  intro tag s h
  refine ⟨fun i hi => ?_, fun i hi => ?_, fun m first count hm h1 h32 h128 => ?_, fun m first count hr => ?_, fun i hi => ?_,
    fun n => ?_, ?_⟩
  · exact exec_accepted h rfl (if_neg (Nat.not_lt.mpr hi)) rfl
  · exact exec_refused h rfl (if_pos hi)
  · exact exec_accepted h rfl (decideRouteRead_run hm ⟨h1, h32, h128⟩) rfl
  · exact exec_refused h rfl (decideRouteRead_range hr)
  · exact exec_accepted h rfl (decideRouteCheck_tap hi) rfl
  · have place := sizeSetOf_place (hunting s) n
    exact exec_accepted h rfl ((if_neg (by omega)).trans (by rw [place]; rfl)) rfl
  · exact exec_accepted h rfl rfl rfl

/-! #### The writes (R45, R50) -/

theorem size_ok_iff (z : Size) : Size.ok z = true ↔ (z.target = 0 ∨ (100 ≤ z.target ∧ z.target ≤ 20000)) ∧ z.tolerance ≤ 500 := by
  simp only [Size.ok, Bool.and_eq_true, Bool.or_eq_true, decide_eq_true_eq]

theorem sizes_ok_iff (z : SizeSet) : z.all Size.ok = true
    ↔ ∀ x ∈ z.toList, (x.target = 0 ∨ (100 ≤ x.target ∧ x.target ≤ 20000)) ∧ x.tolerance ≤ 500 := by
  simp only [Vector.all_eq_true_iff_forall_mem, Vector.mem_toList_iff, size_ok_iff]

theorem limitsOk_iff (v t f : Nat) : limitsOk v t f = true ↔ 1000 ≤ v ∧ v ≤ 50000 ∧ 1 ≤ t ∧ t ≤ 120 ∧ f ≤ 256 := by
  simp only [limitsOk, Bool.and_eq_true, decide_eq_true_eq, and_assoc]

/-- The check of SIZE SET WRITE. -/
theorem sizeSetWrite_refuses_iff (n : Nat) (z : SizeSet) : (decide (3 < n) || !z.all Size.ok) = true
    ↔ ¬ (n ≤ 3 ∧ ∀ x ∈ z.toList, (x.target = 0 ∨ (100 ≤ x.target ∧ x.target ≤ 20000)) ∧ x.tolerance ≤ 500) := by
  rw [← sizes_ok_iff, Bool.or_eq_true, decide_eq_true_eq, Bool.not_eq_true', ← Bool.not_eq_true, not_and_or, Nat.not_le]

/-- Settles O24: each owner's check is that of its rule. -/
theorem sizesAndLimits : Obligations.SizesAndLimits := by
  intro tag s h
  refine ⟨fun n z => ⟨fun hok => ?_, fun hok => ?_⟩, fun v t f => ⟨fun hok => ?_, fun hok => ?_⟩⟩
  · exact exec_accepted h rfl (if_neg fun hr => (sizeSetWrite_refuses_iff n z).mp hr hok) rfl
  · exact exec_refused h rfl (if_pos ((sizeSetWrite_refuses_iff n z).mpr hok))
  · exact exec_accepted h rfl (if_neg (by simpa using (limitsOk_iff v t f).mpr hok)) rfl
  · have refused : decideFreeLimitsWrite v t f (hunting s) = refuseWith .range (limitsBody (hunting s)) (hunting s) :=
      if_pos (by simpa using mt (limitsOk_iff v t f).mp hok)
    have replied := request_replied h .freeLimits tag (decideFreeLimitsWrite v t f)
    rw [refused] at replied
    exact congrArg _ (replied (by simp [refuseWith]) rfl rfl)

/-! #### BAR STATE (R44) -/

/-- A body of BAR STATE whose operation is not defined spells no request. -/
theorem readBarState_undefined {op : Byte} (h : 3 ≤ op.toNat) (tag hi lo : Byte) : readBarState tag [op, hi, lo] = some none := by
  obtain ⟨k, hk⟩ := Nat.exists_eq_add_of_le' h
  simp [readBarState, readField, atEnd, hk]

theorem barState_undefined {s : State} (h : Ready s) {op : Byte} (ho : 3 ≤ op.toNat) (tag hi lo : Byte) :
    exec (.unknownRequest 0x28#8 tag [op, hi, lo]) s = .next (refused .barState tag .range (hunting s)) := by
  have dispatched : dispatchFrame 0x28#8 tag [op, hi, lo] = refuse .range := by
    funext u
    have kind : kindOfCode 0x28#8 = some .barState := by decide
    have body : readRequest .barState tag [op, hi, lo] = some none := readBarState_undefined ho tag hi lo
    simp only [dispatchFrame, kind, body]
    rfl
  have whole : receiveWhole 0x28#8 tag [op, hi, lo] = receiveFrame 0x28#8 tag (refuse .range) := by
    funext u
    rw [receiveWhole_of_fits (by simp), dispatched]
  show Host.Outcome.next (event (receiveWhole 0x28#8 tag [op, hi, lo]) s) = _
  rw [whole]
  exact congrArg _ (request_refused h .barState tag (refuse .range) .range (by decide) rfl)

/-- Settles O25: the masks bit by bit, the undefined operation, and what a watch does to a bar. -/
theorem barState : Obligations.BarState := by
  refine ⟨fun tag mask s h => ⟨⟨_, exec_accepted h rfl rfl rfl, fun b hb => ?_⟩, ⟨_, exec_accepted h rfl rfl rfl, fun b hb => ?_⟩,
      ⟨_, exec_accepted h rfl rfl rfl, fun b hb => ?_⟩⟩,
    fun tag op hi lo s ho h => barState_undefined h ho tag hi lo, fun n s => rfl, fun n s hn => ⟨_, rfl, fun b hb => ?_⟩⟩
  · exact BitVec.getLsbD_or
  · rw [BitVec.getLsbD_and, BitVec.getLsbD_not, decide_eq_true hb, Bool.true_and]
    rfl
  · exact BitVec.getLsbD_xor
  · have after : (s.pour.barOpen &&& ~~~ barBit n).getLsbD b = _ := barsAfter_getLsbD (.bar n) s.pour.barOpen hb
    simpa only [WatchTarget.bar.injEq, eq_comm, decide_not] using after

end Sys2Proof.Machine
end

section
/-! ### Nodes, thresholds and polls (O23, O31) -/

namespace Sys2Proof.Machine

open Sys2Proof Sys2Proof.Safety

/-! #### The node records -/

theorem State.node_setNode_ne {a b : Nat} (ha : 1 ≤ a) (hb : 1 ≤ b) (h : b ≠ a) (s : State) (n : Node) :
    (s.setNode a n).node b = s.node b := by
  rw [State.node_setNode, if_neg (by omega)]

theorem State.node_setNode_at {a : Nat} (ha : 1 ≤ a) (h32 : a ≤ 32) (s : State) (n : Node) : (s.setNode a n).node a = n :=
  State.node_setNode_self s a n (by omega)

theorem setNode_setNode (s : State) (a : Nat) (m n : Node) : (s.setNode a m).setNode a n = s.setNode a n := by
  simp only [State.setNode, Vector.setIfInBounds_setIfInBounds]

/-- From `s` to `t` the conditions of the nodes stand: their states, misses and reported tap counts. -/
def NodesStand (s t : State) : Prop := ∀ b, 1 ≤ b →
  (t.node b).state = (s.node b).state ∧ (t.node b).misses = (s.node b).misses ∧ (t.node b).tapCount = (s.node b).tapCount

theorem nodesStand_of_bus {s t : State} (h : t.bus = s.bus) : NodesStand s t := fun b _ => by
  rw [State.node_congr h]
  exact ⟨rfl, rfl, rfl⟩

theorem NodesStand.refl (s : State) : NodesStand s s := nodesStand_of_bus rfl

theorem NodesStand.trans {s t u : State} (h : NodesStand s t) (k : NodesStand t u) : NodesStand s u := fun b hb => by
  obtain ⟨h1, h2, h3⟩ := h b hb
  obtain ⟨k1, k2, k3⟩ := k b hb
  exact ⟨k1.trans h1, k2.trans h2, k3.trans h3⟩

/-- A node that takes another list or another last-taken number. -/
theorem setNode_stands (a : Nat) {n : Node} {s : State}
    (h : n.state = (s.node a).state ∧ n.misses = (s.node a).misses ∧ n.tapCount = (s.node a).tapCount) :
    NodesStand s (s.setNode a n) := fun b _ => by
  rw [State.node_setNode]
  split
  · rename_i hb
    have same : s.node b = s.node a := by simp only [State.node, hb.1]
    rw [same]
    exact h
  · exact ⟨rfl, rfl, rfl⟩

theorem stopGone_stands {i token : Nat} {s t : State} (h : StopGone i token s t) : NodesStand s t := fun b hb => by
  rw [h.1 b hb]
  split <;> exact ⟨rfl, rfl, rfl⟩

theorem foldl_stands {α : Type} {f : State → α → State} (h : ∀ s x, NodesStand s (f s x)) (l : List α) (s : State) :
    NodesStand s (l.foldl f s) :=
  foldl_closed (P := NodesStand s) (fun t x ht => ht.trans (h t x)) l s (.refl s)

/-! #### The fast threshold (R80) -/

section threshold

variable {a : Nat} {s : State}

theorem recomputeThreshold_frame (a : Nat) (s : State) :
    recomputeThreshold a s = { s with bus := { s.bus with nodes := (recomputeThreshold a s).bus.nodes } } := by
  unfold recomputeThreshold
  split
  · rfl
  · split <;> rfl

theorem recomputeThreshold_tap (a i : Nat) (s : State) : (recomputeThreshold a s).tap i = s.tap i := by
  rw [recomputeThreshold_frame]
  rfl

theorem recomputeThreshold_node_ne {b : Nat} (ha : 1 ≤ a) (hb : 1 ≤ b) (h : b ≠ a) : (recomputeThreshold a s).node b = s.node b := by
  unfold recomputeThreshold
  split
  · rfl
  · split
    · rfl
    · exact State.node_setNode_ne ha hb h _ _

/-- The threshold computed again, where the taps give one. -/
theorem recomputeThreshold_node {th : Nat} (ha : 1 ≤ a) (h32 : a ≤ 32) (h : thresholdOf s a = some th) :
    (recomputeThreshold a s).node a
      = { s.node a with threshold := th, setupDue := (s.node a).setupDue || decide (th ≠ (s.node a).threshold) } := by
  unfold recomputeThreshold
  simp only [h]
  by_cases same : th = (s.node a).threshold
  · simp [same]
  · rw [if_neg same, State.modNode_eq, State.node_setNode_at ha h32]
    simp [same]

/-- A recomputation is the one of R80. -/
theorem recomputeThreshold_rethresholded (ha : 1 ≤ a) (h32 : a ≤ 32) : Rethresholded a (s.node a) (recomputeThreshold a s) := by
  unfold Rethresholded
  simp only [recomputeThreshold_tap]
  refine ⟨fun h => ?_, fun i hi hc least => ?_⟩
  · unfold recomputeThreshold
    rw [thresholdOf_eq_none h]
  · exact recomputeThreshold_node ha h32 (thresholdOf_of_min hi hc least)

end threshold

/-! #### Rounds and polls (R76, R77) -/

theorem listPlaces_eq (n : Node) : listPlaces n = if n.setupDue then 3 else 4 := rfl

/-- The part in a round of a number, no exchange abandoned. -/
def inRound (round : Nat) (s : State) : State := { s with bus := { s.bus with round := round, abandoned := none } }

theorem startPoll_polls {b : Nat} (hb : 1 ≤ b) (h32 : b ≤ 32) (round : Nat) (s : State) : Polls round b s (startPoll b (inRound round s)) := by
  have marked := State.node_setNode_at hb h32 s { s.node b with items := markCarried (listPlaces (s.node b)) (s.node b).items }
  refine ⟨marked.trans ?_, fun c hc hne => State.node_setNode_ne hb hc hne s _, rfl⟩
  rw [markCarried_eq _ _ 0, Nat.add_zero, listPlaces_eq]

theorem startRound_of_due {round b : Nat} {s : State} (h : FirstDue round 1 s b) :
    startRound (inRound round s) = startPoll b (inRound round s) := by
  rw [startRound, nextDue_eq_some (s := inRound round s) h]

theorem startRound_of_none {round : Nat} {s : State} (h : ∀ b, 1 ≤ b → b ≤ 32 → ¬ DueIn round s b) :
    startRound (inRound round s) = { s with bus := { s.bus with round := round, phase := .emptyRound, abandoned := none } } := by
  rw [startRound, nextDue_eq_none (s := inRound round s) h]
  rfl

theorem endRound_eq (s : State) : endRound { s with bus := { s.bus with abandoned := none } }
    = startRound (inRound ((s.bus.round + 1) % 8) s) := rfl

/-- The end of a round with no exchange abandoned is the one of R76. -/
theorem endRound_next (s : State) : NextRound s (endRound { s with bus := { s.bus with abandoned := none } }) := by
  rw [endRound_eq]
  refine ⟨fun b hb => ?_, startRound_of_none⟩
  obtain ⟨h1, h32, -⟩ := id hb
  rw [startRound_of_due hb]
  exact startPoll_polls h1 h32 _ s

theorem nextPoll_of_due {a b : Nat} {s : State} (h : FirstDue s.bus.round (a + 1) s b) :
    nextPoll a s = startPoll b (inRound s.bus.round s) := by
  have next := nextDue_eq_some (s := { s with bus := { s.bus with abandoned := none } }) h
  unfold nextPoll
  simp only [next]
  rfl

theorem nextPoll_of_none {a : Nat} {s : State} (h : ∀ b, a < b → b ≤ 32 → ¬ DueIn s.bus.round s b) :
    nextPoll a s = endRound { s with bus := { s.bus with abandoned := none } } := by
  have next := nextDue_eq_none (s := { s with bus := { s.bus with abandoned := none } }) (first := a + 1) h
  unfold nextPoll
  simp only [next]

/-- The poll after an exchange with address `a`: the next due address of the round, or the next round. -/
theorem nextPoll_spec (a : Nat) (s : State) : (∀ b, FirstDue s.bus.round (a + 1) s b → Polls s.bus.round b s (nextPoll a s))
    ∧ ((∀ b, a < b → b ≤ 32 → ¬ DueIn s.bus.round s b) → NextRound s (nextPoll a s)) := by
  refine ⟨fun b hb => ?_, fun none_due => ?_⟩
  · obtain ⟨low, high, -⟩ := id hb
    rw [nextPoll_of_due hb]
    exact startPoll_polls (by omega) high s.bus.round s
  · rw [nextPoll_of_none none_due]
    exact endRound_next s

/-- A round from `first` on has a first due address or none. -/
theorem firstDue_or_none (round first : Nat) (s : State) :
    (∃ b, FirstDue round first s b) ∨ ∀ b, first ≤ b → b ≤ 32 → ¬ DueIn round s b := by
  classical
  by_cases h : ∃ b, first ≤ b ∧ b ≤ 32 ∧ DueIn round s b
  · obtain ⟨low, high, due⟩ := Nat.find_spec h
    exact .inl ⟨Nat.find h, low, high, due, fun c hc hcb hd => Nat.find_min h hcb ⟨hc, by omega, hd⟩⟩
  · exact .inr fun b h1 h2 hd => h ⟨b, h1, h2, hd⟩

/-- The part goes on: it polls a configured node, or lets an empty round run. -/
theorem nextPoll_cases (a : Nat) (s : State) : (∃ round b, 1 ≤ b ∧ b ≤ 32 ∧ DueIn round s b ∧ Polls round b s (nextPoll a s))
    ∨ ∃ round, nextPoll a s = { s with bus := { s.bus with round := round, phase := .emptyRound, abandoned := none } } := by
  obtain ⟨this_round, next_round⟩ := nextPoll_spec a s
  rcases firstDue_or_none s.bus.round (a + 1) s with ⟨b, hb⟩ | none_due
  · obtain ⟨low, high, due, -⟩ := id hb
    exact .inl ⟨_, b, by omega, high, due, this_round b hb⟩
  · obtain ⟨polls, empty⟩ := next_round none_due
    rcases firstDue_or_none ((s.bus.round + 1) % 8) 1 s with ⟨b, hb⟩ | none_due
    · obtain ⟨low, high, due, -⟩ := id hb
      exact .inl ⟨_, b, low, high, due, polls b hb⟩
    · exact .inr ⟨_, empty none_due⟩

theorem polls_stands {round b : Nat} {s t : State} (h : Polls round b s t) : NodesStand s t := fun c hc => by
  obtain ⟨own, others, -⟩ := h
  by_cases hcb : c = b
  · subst hcb
    rw [own]
    exact ⟨rfl, rfl, rfl⟩
  · rw [others c hc hcb]
    exact ⟨rfl, rfl, rfl⟩

theorem nextPoll_stands (a : Nat) (s : State) : NodesStand s (nextPoll a s) := by
  rcases nextPoll_cases a s with ⟨_, _, -, -, -, polls⟩ | ⟨_, empty⟩
  · exact polls_stands polls
  · rw [empty]
    exact fun _ _ => ⟨rfl, rfl, rfl⟩

/-- A node that is not configured is not polled. -/
theorem nextPoll_node_unconfigured {a b : Nat} {s : State} (hb : 1 ≤ b) (h : nodeConfigured s b = false) :
    (nextPoll a s).node b = s.node b := by
  rcases nextPoll_cases a s with ⟨_, c, -, -, due, polls⟩ | ⟨_, empty⟩
  · obtain ⟨-, others, -⟩ := polls
    refine others b hb fun hbc => ?_
    rw [← hbc] at due
    exact absurd (h.symm.trans due.1) Bool.false_ne_true
  · rw [empty]
    rfl

/-- The next poll changes the bus alone. -/
theorem nextPoll_frame (a : Nat) (s : State) : nextPoll a s = { s with bus := (nextPoll a s).bus } := by
  rcases nextPoll_cases a s with ⟨_, _, -, -, -, -, -, frame⟩ | ⟨_, empty⟩
  · rw [frame]
  · rw [empty]

end Sys2Proof.Machine
end

section
/-! ### Every end of a pour, and the orphan closed LOST (O23, O31) -/

namespace Sys2Proof.Machine

open Sys2Proof Sys2Proof.Safety

/-! #### What no rule of the plant reaches -/

/-- From `s` to `t` clock, supplies, inputs and calibration window stand, and of the link at most the notices change. -/
structure PlantKept (s t : State) : Prop where
  store : t.store = s.store
  pins : t.pins = s.pins
  window : t.acct.window = s.acct.window
  link : t.link = { s.link with notices := t.link.notices }

theorem PlantKept.refl (s : State) : PlantKept s s := ⟨rfl, rfl, rfl, rfl⟩

theorem plantKept_closed (s : State) : PlantClosed (PlantKept s) where
  cellar _ _ h := ⟨h.store, h.pins, h.window, h.link⟩
  pour _ _ h := ⟨h.store, h.pins, h.window, h.link⟩
  bus _ _ h := ⟨h.store, h.pins, h.window, h.link⟩
  clean _ _ h := ⟨h.store, h.pins, h.window, h.link⟩
  watch _ _ _ h := ⟨h.store, h.pins, h.window, h.link⟩
  warm _ _ h := ⟨h.store, h.pins, h.window, h.link⟩
  post t _ _ h := ⟨h.store, h.pins, h.window, by rw [post, h.link]⟩
  record t b h := by
    obtain ⟨-, -, -, -, -, store, pins, -, link⟩ := takeRecord_lineEvent 0 t b
    exact ⟨store.trans h.store, pins.trans h.pins, (takeRecord_window t b).trans h.window, by rw [link, h.link]⟩

/-! #### The end of a pour whatever line it names (R57) -/

section ends

variable {i n : Nat} {s : State}

theorem countFoam_onlyLine (n : Nat) (foamy : Bool) (s : State) : OnlyLine n s (countFoam n foamy s) := by
  unfold countFoam
  split
  · exact clearFoam_onlyLine n s
  · simp only []
    split
    · exact onlyLine_set_post _ _ _
    · exact setLine_onlyLine _ _ _

theorem decideTempHold_onlyLine (n : Nat) (temperature : Option Int) (s : State) : OnlyLine n s (decideTempHold n temperature s) := by
  unfold decideTempHold
  split
  · exact onlyLine_refl n s
  · split
    · exact changeHolds_onlyLine n s _
    · exact onlyLine_refl n s

theorem checkDueVolume_onlyLine (n : Nat) (s : State) : OnlyLine n s (checkDueVolume n s) := by
  have noted : ∀ (c : Prop) [Decidable c], OnlyLine n s
      (if c then post (.line n) .lineDue (s.setLine n { s.line n with softVolumeNoted := true }) else s) := fun _ _ =>
    ite_closed (P := OnlyLine n s) (onlyLine_set_post _ _ _) (onlyLine_refl n s)
  exact ite_closed (onlyLine_refl n s) (ite_closed (onlyLine_trans (noted _) (changeHolds_onlyLine n _ _)) (noted _))

/-- The Line Manager's part of a finished pour: its line and the notices, then the drain condition. -/
theorem applyPour_evaluates (n v : Nat) (foamy lost : Bool) (temperature : Option Int) (s : State) :
    ∃ x, OnlyLine n s x ∧ applyPour n v foamy lost temperature s = evalDrain n x := by
  have credited := modLine_onlyLine n s fun l => { l with
    chain := creditHead v l.chain
    volumeSinceClean := satAdd Config.max32 l.volumeSinceClean v
    tapPoured := satAdd Config.max48 l.tapPoured v }
  refine ⟨_, ?_, rfl⟩
  refine onlyLine_trans (onlyLine_trans (onlyLine_trans (t := if lost then _ else _) ?_ (decideTempHold_onlyLine n _ _))
    (modLine_onlyLine n _ _)) (checkDueVolume_onlyLine n _)
  split
  · exact credited
  · exact onlyLine_trans credited (countFoam_onlyLine n _ _)

/-- A number above 47 names no line, so that there is no count to go down. -/
theorem pourCounted_of_ge (hn : 48 ≤ n) {x : State} (h : OnlyLine n s x) : PourCounted n s x := by
  have none_there : ∀ u : State, u.line n = coldLine := fun u => State.line_of_ge hn
  refine ⟨?_, ?_, h.1.1, linesOnly_of_onlyLine h⟩ <;> rw [none_there, none_there]
  rfl

/-- What an end of a pour leaves of a tap's configuration. -/
theorem PourEnding.settings {token : Nat} {x u y t : State} (h : PourEnding i n token s x u y t)
    (own : (y.tap i).configured = (u.tap i).configured ∧ (y.tap i).bar = (u.tap i).bar) (j : Nat) :
    (t.tap j).configured = (s.tap j).configured ∧ (t.tap j).bar = (s.tap j).bar := by
  by_cases hj : j = i
  · subst hj
    rw [h.tap_own, h.tap_drained] at *
    exact own
  · rw [h.tap_other hj]
    exact ⟨rfl, rfl⟩

/-- Every end of a pour passes through the stages of `PourEnding`, and the accounts leave the tap's configuration. -/
theorem endPour_ending (hi : i < 128) (r : InFlight) (e : PourEnd) (s : State) : ∃ x u y,
    PourEnding i r.line r.token s x u y (endPour i r e s)
      ∧ (y.tap i).configured = (u.tap i).configured ∧ (y.tap i).bar = (u.tap i).bar := by
  by_cases silent : e.pulses = 0
  · rw [endPour_silent silent]
    refine ⟨_, _, _, ⟨hi, ?_, rfl, .refl i _, rfl⟩, rfl, rfl⟩
    by_cases hn : r.line < 48
    · exact pourLeft_counted hn s
    · exact pourCounted_of_ge (Nat.not_lt.mp hn) (modLine_onlyLine _ _ _)
  · rw [endPour_measured silent]
    obtain ⟨told, ⟨barred, own⟩, -⟩ := pourTold_spec (r := r) (e := e) (s := s) hi
    have kept : ((pourTold i r e s).tap i).configured = ((pourApplied i r e s).tap i).configured
        ∧ ((pourTold i r e s).tap i).bar = ((pourApplied i r e s).tap i).bar := by
      rw [own]
      exact ⟨rfl, rfl⟩
    by_cases hn : r.line < 48
    · exact ⟨_, _, _, measuredEnd_ending e hi hn, kept⟩
    · obtain ⟨x, only, applied⟩ := applyPour_evaluates r.line (measuredRecord i r e s).volume (measuredRecord i r e s).flags.foamy e.lost
        e.temperature s
      exact ⟨x, _, _, ⟨hi, pourCounted_of_ge (Nat.not_lt.mp hn) only, applied, told, measuredEnd_eq i r e s⟩, kept⟩

/-- The end of a pour on a line of the part is measured or silent. -/
theorem endPour_spec (hi : i < 128) {r : InFlight} (hn : r.line < 48) (e : PourEnd) (s : State) :
    (e.pulses ≠ 0 → MeasuredEnd i r e s (endPour i r e s)) ∧ (e.pulses = 0 → SilentEnd i r s (endPour i r e s)) := by
  refine ⟨fun h => ?_, fun h => ?_⟩
  · rw [endPour_measured h]
    exact measuredEnd_measured e hi hn
  · rw [endPour_silent h]
    exact zeroEnd_silent hi hn

theorem endPour_stops (hi : i < 128) (r : InFlight) (e : PourEnd) (s : State) : StopGone i r.token s (endPour i r e s) := by
  obtain ⟨_, _, _, h, -⟩ := endPour_ending hi r e s
  exact h.stops

end ends

/-! #### The orphan closed LOST (R73) -/

section lost

variable {i : Nat} {s : State} {p : Pour}

theorem closeLost_ends (hp : (s.tap i).pour = some p) (ho : p.phase = .orphaned) :
    closeLost i s = endPour i p.record (lostEnd p.record) s := by
  unfold closeLost
  rw [hp]
  exact if_pos ho

theorem closeLost_still (h : ∀ q, (s.tap i).pour = some q → q.phase ≠ .orphaned) : closeLost i s = s := by
  unfold closeLost
  split
  · rfl
  · exact if_neg (h _ ‹_›)

/-- A pour in flight is at a tap of the part. -/
theorem lt_of_pour (hp : (s.tap i).pour = some p) : i < 128 := by
  by_contra hi
  rw [State.tap_of_ge (Nat.not_lt.mp hi)] at hp
  exact absurd hp (by simp [coldTap])

theorem closeLost_stands (i : Nat) (s : State) : NodesStand s (closeLost i s) := by
  by_cases h : ∃ q, (s.tap i).pour = some q ∧ q.phase = .orphaned
  · obtain ⟨q, hq, ho⟩ := h
    rw [closeLost_ends hq ho]
    exact stopGone_stands (endPour_stops (lt_of_pour hq) _ _ s)
  · rw [closeLost_still fun q hq ho => h ⟨q, hq, ho⟩]
    exact .refl s

theorem finishPour_stands (i token pulses fast : Nat) (temp : Option Int) (cause : EndCause) (s : State) :
    NodesStand s (finishPour i token pulses fast temp cause s) := by
  cases hp : (s.tap i).pour with
  | none =>
    rw [finishPour_idle hp]
    exact .refl s
  | some p =>
    by_cases ht : p.record.token = token
    · rw [finishPour_ends hp ht]
      exact stopGone_stands (endPour_stops (lt_of_pour hp) _ _ s)
    · rw [finishPour_stale hp ht]
      exact .refl s

end lost

end Sys2Proof.Machine
end

section
/-! ### TAP SET (O23) -/

namespace Sys2Proof.Machine

open Sys2Proof Sys2Proof.Safety

theorem nodeConfigured_iff (s : State) (a : Nat) :
    nodeConfigured s a = true ↔ ∃ j, j < 4 ∧ (s.tap (4 * (a - 1) + j)).configured = true := by
  simp [nodeConfigured, tapOf]

theorem nodeConfigured_congr {s t : State} (h : ∀ i, t.tap i = s.tap i) (a : Nat) : nodeConfigured t a = nodeConfigured s a := by
  simp only [nodeConfigured, h]

/-- The address and the local index of a tap name it. -/
theorem tap_of_place (i : Nat) : 4 * (i / 4 + 1 - 1) + i % 4 = i := by omega

theorem address_le {i : Nat} (hi : i < 128) : i / 4 + 1 ≤ 32 := by omega

theorem setTap_tap_ne {i j : Nat} (h : j ≠ i) (s : State) (x : Tap) : (s.setTap i x).tap j = s.tap j :=
  State.tap_setTap_ne s i j x (Ne.symm h)

/-! #### ASSIGN (R30, R75, R80) -/

section assign

variable {i bar : Nat} {s : State}

/-- The tap with its configured flag set and its bar. -/
def assigned (i bar : Nat) (s : State) : State := s.setTap i { s.tap i with configured := true, bar := bar }

theorem assignTap_of_configured (h : nodeConfigured s (i / 4 + 1) = true) :
    assignTap i bar s = recomputeThreshold (i / 4 + 1) (assigned i bar s) := if_pos h

theorem assignTap_of_unconfigured (hi : i < 128) (h : nodeConfigured s (i / 4 + 1) = false) :
    assignTap i bar s = (assigned i bar s).setNode (i / 4 + 1) (freshNode ((s.tap i).gain * 5 / 3)) := by
  have own : (assigned i bar s).tap i = { s.tap i with configured := true, bar := bar } := State.tap_setTap_self _ _ _ hi
  have alone : ∀ j, j < 4 → ((assigned i bar s).tap (4 * (i / 4 + 1 - 1) + j)).configured = true →
      4 * (i / 4 + 1 - 1) + j = i := fun j hj hc => by
    by_contra hne
    rw [assigned, setTap_tap_ne hne] at hc
    exact absurd (h.symm.trans ((nodeConfigured_iff _ _).mpr ⟨j, hj, hc⟩)) Bool.false_ne_true
  have threshold : thresholdOf (assigned i bar s) (i / 4 + 1) = some ((s.tap i).gain * 5 / 3) := by
    have first := thresholdOf_of_min (s := assigned i bar s) (a := i / 4 + 1) (i := i % 4) (Nat.mod_lt _ (by decide))
      (by rw [tap_of_place, own]) fun j hj hc => by rw [alone j hj hc, tap_of_place]
    rw [tap_of_place, own] at first
    exact first
  have joined : assignTap i bar s = resetNode (i / 4 + 1) (assigned i bar s) :=
    if_neg (fun hx : nodeConfigured s (i / 4 + 1) = true => absurd (h.symm.trans hx) Bool.false_ne_true)
  rw [joined, resetNode, threshold]
  rfl

theorem assignTap_spec (hi : i < 128) (bar : Nat) (s : State) : let t := assignTap i bar s
    t.tap i = { s.tap i with configured := true, bar := bar }
      ∧ (∀ j, j ≠ i → t.tap j = s.tap j) ∧ (∀ b, 1 ≤ b → b ≠ i / 4 + 1 → t.node b = s.node b)
      ∧ (nodeConfigured s (i / 4 + 1) = false → t.node (i / 4 + 1) = freshNode ((s.tap i).gain * 5 / 3))
      ∧ (nodeConfigured s (i / 4 + 1) = true → Rethresholded (i / 4 + 1) (s.node (i / 4 + 1)) t)
      ∧ t = { s with pour := { s.pour with taps := t.pour.taps }, bus := { s.bus with nodes := t.bus.nodes } } := by
  have h1 : 1 ≤ i / 4 + 1 := Nat.le_add_left 1 _
  have h32 := address_le hi
  have own : (assigned i bar s).tap i = { s.tap i with configured := true, bar := bar } := State.tap_setTap_self _ _ _ hi
  have others : ∀ j, j ≠ i → (assigned i bar s).tap j = s.tap j := fun j hj => setTap_tap_ne hj s _
  by_cases h : nodeConfigured s (i / 4 + 1) = true
  · have frame := recomputeThreshold_frame (i / 4 + 1) (assigned i bar s)
    rw [assignTap_of_configured h]
    refine ⟨?_, fun j hj => ?_, fun b hb hne => recomputeThreshold_node_ne h1 hb hne, fun hx => absurd (hx.symm.trans h) Bool.false_ne_true,
      fun _ => recomputeThreshold_rethresholded h1 h32, ?_⟩
    · rw [recomputeThreshold_tap, own]
    · rw [recomputeThreshold_tap, others j hj]
    · generalize recomputeThreshold (i / 4 + 1) (assigned i bar s) = t at frame
      rw [frame]
      rfl
  · have none_before : nodeConfigured s (i / 4 + 1) = false := by simpa using h
    rw [assignTap_of_unconfigured hi none_before]
    exact ⟨own, others, fun b hb hne => State.node_setNode_ne h1 hb hne _ _, fun _ => State.node_setNode_at h1 h32 _ _,
      fun hx => absurd hx h, rfl⟩

end assign

/-! #### UNASSIGN (R30, R75) -/

section unassign

variable {i : Nat} {s : State}

/-- The tap with its configured flag cleared. -/
def unassigned (i : Nat) (s : State) : State := s.setTap i { s.tap i with configured := false }

/-- The node of address `a` has left the table: ABSENT, its list empty, and noticed where it was not ABSENT already (R75). -/
def nodeLeft (a : Nat) (s : State) : State :=
  let n := s.node a
  { s with
    bus := { s.bus with nodes := s.bus.nodes.setIfInBounds (a - 1) { n with
      state := .absent, items := [], lastTaken := none, tapCount := none, freshDue := true, setupDue := true } }
    link := { s.link with
      notices := if n.state = .absent then s.link.notices else mergeNotice (.node a) .nodeAbsent s.link.notices } }

theorem dropNode_eq (a : Nat) (s : State) : dropNode a s = abandonExchange a (nodeLeft a s) := by
  unfold dropNode nodeLeft
  by_cases h : (s.node a).state = .absent
  · simp only [h, if_true]
    rfl
  · simp only [h, if_false]
    rfl

theorem abandonExchange_other {a : Nat} (h : ∀ p, s.bus.phase = .exchange p → p.address ≠ a) : abandonExchange a s = s := by
  refine if_neg fun hp => ?_
  unfold BusBlock.polled at hp
  split at hp
  · exact h _ ‹_› (Option.some.inj hp)
  · exact absurd hp (by simp)
  · exact absurd hp (by simp)

theorem abandonExchange_polled {a : Nat} {p : Poll} (hp : s.bus.phase = .exchange p) (ha : p.address = a) :
    abandonExchange a s = { nextPoll a s with bus := { (nextPoll a s).bus with abandoned := some a } } := by
  refine if_pos ?_
  rw [BusBlock.polled, hp, ← ha]

theorem abandonExchange_pour (a : Nat) (s : State) : (abandonExchange a s).pour = s.pour := by
  unfold abandonExchange
  split
  · show (nextPoll a s).pour = s.pour
    rw [nextPoll_frame]
  · rfl

/-- The node keeps a configured tap, or had none before. -/
theorem unassignTap_stays (h : nodeConfigured (unassigned i s) (i / 4 + 1) = true ∨ nodeConfigured s (i / 4 + 1) = false) :
    unassignTap i s = recomputeThreshold (i / 4 + 1) (unassigned i s) := by
  refine if_neg fun hx : (nodeConfigured s (i / 4 + 1) && !nodeConfigured (unassigned i s) (i / 4 + 1)) = true => ?_
  rw [Bool.and_eq_true, Bool.not_eq_true'] at hx
  rcases h with h | h
  · exact absurd (hx.2.symm.trans h) Bool.false_ne_true
  · exact absurd (h.symm.trans hx.1) Bool.false_ne_true

/-- The node loses its last configured tap. -/
theorem unassignTap_leaves (ht : nodeConfigured (unassigned i s) (i / 4 + 1) = false) (hs : nodeConfigured s (i / 4 + 1) = true) :
    unassignTap i s = abandonExchange (i / 4 + 1) (nodeLeft (i / 4 + 1) (unassigned i s)) := by
  rw [← dropNode_eq]
  refine if_pos (?_ : (nodeConfigured s (i / 4 + 1) && !nodeConfigured (unassigned i s) (i / 4 + 1)) = true)
  rw [ht, hs]
  rfl

theorem unassignTap_pour (i : Nat) (s : State) : (unassignTap i s).pour = (unassigned i s).pour := by
  by_cases h : nodeConfigured (unassigned i s) (i / 4 + 1) = true ∨ nodeConfigured s (i / 4 + 1) = false
  · rw [unassignTap_stays h, recomputeThreshold_frame]
  · rw [not_or, Bool.not_eq_true, Bool.not_eq_false] at h
    rw [unassignTap_leaves h.1 h.2, abandonExchange_pour]
    rfl

theorem unassignTap_kept (i : Nat) (s : State) : PlantKept s (unassignTap i s) := by
  have cleared : PlantKept s (unassigned i s) := ⟨rfl, rfl, rfl, rfl⟩
  exact ite_closed (dropNode_closed (plantKept_closed s) _ _ cleared) (recomputeThreshold_closed (plantKept_closed s) _ _ cleared)

theorem unassignTap_spec (hi : i < 128) (s : State) : let t := unassignTap i s
    let a := i / 4 + 1
    let u : State := nodeLeft a { s with pour := { s.pour with taps := t.pour.taps } }
    t.tap i = { s.tap i with configured := false } ∧ (∀ j, j ≠ i → t.tap j = s.tap j)
      ∧ (nodeConfigured t a = true ∨ nodeConfigured s a = false →
          Rethresholded a (s.node a) t ∧ (∀ b, 1 ≤ b → b ≠ a → t.node b = s.node b)
          ∧ t = { s with pour := { s.pour with taps := t.pour.taps }, bus := { s.bus with nodes := t.bus.nodes } })
      ∧ (nodeConfigured t a = false → nodeConfigured s a = true →
          ((∀ p, s.bus.phase = .exchange p → p.address ≠ a) → t = u)
          ∧ ∀ p, s.bus.phase = .exchange p → p.address = a →
              t = { nextPoll a u with bus := { (nextPoll a u).bus with abandoned := some a } } ∧ t.node a = u.node a) := by
  intro t a u
  have h1 : 1 ≤ a := Nat.le_add_left 1 _
  have pour : t.pour = (unassigned i s).pour := unassignTap_pour i s
  have taps : ∀ j, t.tap j = (unassigned i s).tap j := State.tap_congr pour
  have configured := nodeConfigured_congr taps a
  refine ⟨(taps i).trans (State.tap_setTap_self _ _ _ hi), fun j hj => (taps j).trans (setTap_tap_ne hj s _), fun h => ?_,
    fun ht hs => ?_⟩
  · rw [configured] at h
    have stays : t = recomputeThreshold a (unassigned i s) := unassignTap_stays h
    have frame := recomputeThreshold_frame a (unassigned i s)
    rw [← stays] at frame
    refine ⟨stays ▸ recomputeThreshold_rethresholded h1 (address_le hi), fun b hb hne => ?_, ?_⟩
    · rw [stays]
      exact recomputeThreshold_node_ne h1 hb hne
    · rw [pour]
      exact frame
  · have whole : nodeLeft a (unassigned i s) = u := by
      show _ = nodeLeft a { s with pour := { s.pour with taps := t.pour.taps } }
      rw [pour]
      rfl
    rw [configured] at ht
    have leaves : t = abandonExchange a u := whole ▸ unassignTap_leaves ht hs
    refine ⟨fun h => leaves.trans (abandonExchange_other h), fun p hp ha => ?_⟩
    have abandoned := leaves.trans (abandonExchange_polled (s := u) hp ha)
    have unconfigured : nodeConfigured u a = false := (nodeConfigured_congr (fun j => by rw [← whole]; rfl) a).trans ht
    refine ⟨abandoned, ?_⟩
    rw [abandoned]
    exact nextPoll_node_unconfigured h1 unconfigured

end unassign

/-! #### CLOSE ORPHAN (R30, R73, R80) -/

section closeOrphan

variable {i : Nat} {s : State}

theorem isOrphaned_iff (x : Tap) : isOrphaned x = true ↔ ∃ p, x.pour = some p ∧ p.phase = .orphaned := by
  simp [isOrphaned, Option.any_eq_true]

/-- The part with an orphan closed LOST and the threshold of its node computed again. -/
def orphanClosed (i : Nat) (s : State) : State := recomputeThreshold (i / 4 + 1) (closeLost i s)

theorem orphanClosed_kept (i : Nat) (s : State) : PlantKept s (orphanClosed i s) :=
  recomputeThreshold_closed (plantKept_closed s) _ _ (closeLost_closed (plantKept_closed s) _ _ (.refl s))

theorem orphanClosed_tap (i j : Nat) (s : State) : (orphanClosed i s).tap j = (closeLost i s).tap j := recomputeThreshold_tap _ _ _

/-- What the closing of an orphan does, whatever line its pour names. -/
theorem orphanClosed_spec {p : Pour} (hp : (s.tap i).pour = some p) (ho : p.phase = .orphaned) : let t := orphanClosed i s
    (t.tap i).pour = none ∧ (t.tap i).configured = (s.tap i).configured ∧ (t.tap i).bar = (s.tap i).bar
      ∧ (∀ j, j ≠ i → (t.tap j).pour = (s.tap j).pour)
      ∧ Rethresholded (i / 4 + 1) { s.node (i / 4 + 1) with
          items := (s.node (i / 4 + 1)).items.filter fun q => decide (q.item ≠ .stop (i % 4) p.record.token) } t
      ∧ (∀ b, 1 ≤ b → b ≠ i / 4 + 1 → t.node b = s.node b) ∧ t.bus = { s.bus with nodes := t.bus.nodes } := by
  intro t
  have hi := lt_of_pour hp
  have h1 : 1 ≤ i / 4 + 1 := Nat.le_add_left 1 _
  obtain ⟨_, _, _, h, own⟩ := endPour_ending hi p.record (lostEnd p.record) s
  rw [← closeLost_ends hp ho] at h
  obtain ⟨⟨nodes, bus⟩, idle, others, -⟩ := h.only
  obtain ⟨configured, bar⟩ := h.settings own i
  have tap := fun j => orphanClosed_tap i j s
  have node := nodes _ h1
  rw [if_pos rfl] at node
  refine ⟨by rw [tap, idle], by rw [tap, configured], by rw [tap, bar], fun j hj => by rw [tap, others j hj], ?_, fun b hb hne => ?_, ?_⟩
  · rw [← node]
    exact recomputeThreshold_rethresholded h1 (address_le hi)
  · have other := nodes b hb
    rw [if_neg hne] at other
    exact (recomputeThreshold_node_ne h1 hb hne).trans other
  · have frame : t.bus = { (closeLost i s).bus with nodes := t.bus.nodes } := congrArg State.bus (recomputeThreshold_frame _ _)
    rw [frame, bus]

/-- The end of an orphan closed LOST on a line of the part. -/
theorem closeLost_ended {p : Pour} (hp : (s.tap i).pour = some p) (ho : p.phase = .orphaned) (hn : p.record.line < 48) :
    (p.record.lastRunning ≠ 0 → MeasuredEnd i p.record (lostEnd p.record) s (closeLost i s))
      ∧ (p.record.lastRunning = 0 → SilentEnd i p.record s (closeLost i s)) := by
  rw [closeLost_ends hp ho]
  exact endPour_spec (lt_of_pour hp) hn (lostEnd p.record) s

end closeOrphan

/-! #### The request -/

section exec

variable {tag : Byte} {i bar : Nat} {s : State} (h : Ready s)
include h

theorem tapSet_range (hr : ¬ (i ≤ 127 ∧ bar ≤ 15)) :
    exec (.tapSetAssign tag i bar) s = .next (refused .tapSet tag .range (hunting s))
      ∧ exec (.tapSetUnassign tag i bar) s = .next (refused .tapSet tag .range (hunting s))
      ∧ exec (.tapSetCloseOrphan tag i bar) s = .next (refused .tapSet tag .range (hunting s)) := by
  have range : tapSetRange i bar = true := by
    simp only [tapSetRange, Bool.or_eq_true, decide_eq_true_eq]
    omega
  exact ⟨exec_refused h rfl (if_pos range), exec_refused h rfl (if_pos range), exec_refused h rfl (if_pos range)⟩

variable (hi : i ≤ 127) (hb : bar ≤ 15)
include hi hb

omit h in
theorem tapSetRange_named : ¬ tapSetRange i bar = true := by
  simp only [tapSetRange, Bool.or_eq_true, decide_eq_true_eq]
  omega

theorem tapSetAssign_exec : exec (.tapSetAssign tag i bar) s = .next (replied .tapSet tag .ok
    (.tap (presence (assignTap i bar (hunting s)) i) ((assignTap i bar (hunting s)).tap i)) (assignTap i bar (hunting s))) := by
  obtain ⟨-, -, -, -, -, frame⟩ := assignTap_spec (Nat.lt_succ_of_le hi) bar (hunting s)
  exact exec_accepted h rfl (if_neg (tapSetRange_named hi hb)) ((congrArg (·.acct.window) frame).trans rfl)

theorem tapSetUnassign_busy (hp : (s.tap i).pour ≠ none) :
    exec (.tapSetUnassign tag i bar) s = .next (refused .tapSet tag .tapBusy (hunting s)) :=
  exec_refused h rfl ((if_neg (tapSetRange_named hi hb)).trans (if_pos (Option.isSome_iff_ne_none.mpr hp)))

theorem tapSetUnassign_exec (hp : (s.tap i).pour = none) : exec (.tapSetUnassign tag i bar) s = .next (replied .tapSet tag .ok
    (.tap (presence (unassignTap i (hunting s)) i) ((unassignTap i (hunting s)).tap i)) (unassignTap i (hunting s))) := by
  have idle : ¬ ((hunting s).tap i).pour.isSome = true := by
    rw [hunting_tap, hp]
    exact Bool.false_ne_true
  exact exec_accepted h rfl ((if_neg (tapSetRange_named hi hb)).trans (if_neg idle)) (unassignTap_kept i (hunting s)).window

theorem tapSetCloseOrphan_state (ho : ¬ ((∃ p, (s.tap i).pour = some p ∧ p.phase = .orphaned) ∧ presence s i ≠ .present)) :
    exec (.tapSetCloseOrphan tag i bar) s = .next (refused .tapSet tag .state (hunting s)) := by
  refine exec_refused h rfl ((if_neg (tapSetRange_named hi hb)).trans (if_pos ?_))
  rw [← isOrphaned_iff, not_and_or, not_not, Bool.not_eq_true] at ho
  rw [Bool.or_eq_true, Bool.not_eq_true', decide_eq_true_eq]
  exact ho

theorem tapSetCloseOrphan_exec {p : Pour} (hp : (s.tap i).pour = some p) (ho : p.phase = .orphaned) (away : presence s i ≠ .present) :
    exec (.tapSetCloseOrphan tag i bar) s = .next (replied .tapSet tag .ok
      (.tap (presence (orphanClosed i (hunting s)) i) ((orphanClosed i (hunting s)).tap i)) (orphanClosed i (hunting s))) := by
  refine exec_accepted h rfl ((if_neg (tapSetRange_named hi hb)).trans (if_neg ?_)) (orphanClosed_kept i (hunting s)).window
  rw [Bool.or_eq_true, Bool.not_eq_true', decide_eq_true_eq, ← Bool.not_eq_true, isOrphaned_iff]
  exact fun hx => hx.elim (fun hx => hx ⟨p, hp, ho⟩) away

end exec

/-- Settles O23: the refusals, and what each accepted operation leaves. -/
theorem tapSet : Obligations.TapSet := by
  intro tag i bar s h
  refine ⟨tapSet_range h, fun hi hb => ⟨?_, tapSetUnassign_busy h hi hb, fun hp => ?_, tapSetCloseOrphan_state h hi hb,
    fun ⟨p, hp, ho⟩ away => ?_⟩⟩
  · exact ⟨_, tapSetAssign_exec h hi hb, assignTap_spec (Nat.lt_succ_of_le hi) bar (hunting s)⟩
  · exact ⟨_, tapSetUnassign_exec h hi hb hp, unassignTap_spec (Nat.lt_succ_of_le hi) (hunting s)⟩
  · obtain ⟨idle, configured, bar_kept, others, threshold, nodes, bus⟩ := orphanClosed_spec (s := hunting s) hp ho
    have kept := orphanClosed_kept i (hunting s)
    refine ⟨_, tapSetCloseOrphan_exec h hi hb hp ho away, idle, configured, bar_kept, others, fun q hq hn => ?_, nodes, bus, kept.store,
      kept.pins, kept.link⟩
    obtain rfl := Option.some.inj (hp.symm.trans hq)
    obtain ⟨measured, silent⟩ := closeLost_ended (s := hunting s) hp ho hn
    exact ⟨⟨_, measured, silent, recomputeThreshold_frame _ _⟩, threshold⟩

end Sys2Proof.Machine
end

section
/-! ### A reply and its handling (O31) -/

namespace Sys2Proof.Machine

open Sys2Proof Sys2Proof.Safety

/-! #### The bytes (R194) -/

theorem bytesOf_two (x : Nat) : bytesOf 2 x = [BitVec.ofNat 8 (x / 256), BitVec.ofNat 8 x] := by
  simp [bytesOf]

/-- Two bytes are the field of the value they spell. -/
theorem bytesOf_two_eq_iff (hi lo : Byte) (c : BitVec 16) : bytesOf 2 c.toNat = [hi, lo] ↔ hi.toNat * 256 + lo.toNat = c.toNat := by
  have := hi.isLt
  have := lo.isLt
  have := c.isLt
  simp only [bytesOf_two, List.cons.injEq, and_true, ← BitVec.toNat_inj, BitVec.toNat_ofNat]
  omega

/-- The bytes of a complete reply with its CRC, and they alone, are read. -/
theorem readReply_eq_some_iff (b : List Byte) (r : BusReply) : readReply b = some r ↔
    ∃ front rest, ReplySpelled front r ∧ b = front ++ bytesOf 2 (crc16 front).toNat ++ rest := by
  have front_of : ∀ front rest : List Byte, (front ++ rest).take ((front ++ rest).length - rest.length) = front := fun front rest => by
    simp
  constructor
  · intro h
    unfold readReply at h
    split at h
    · rename_i x rest hx
      split at h
      · rename_i hi lo tail
        split at h
        · rename_i hc
          obtain rfl := Option.some.inj h
          obtain ⟨front, spelled, rfl⟩ := readReplyBody_eq_ok_iff.mp hx
          rw [front_of, ← bytesOf_two_eq_iff] at hc
          exact ⟨front, tail, spelled, by rw [hc]; simp⟩
        · exact absurd h (by simp)
      · exact absurd h (by simp)
    · exact absurd h (by simp)
    · exact absurd h (by simp)
  · rintro ⟨front, tail, spelled, rfl⟩
    obtain ⟨hi, lo, crc⟩ : ∃ hi lo, bytesOf 2 (crc16 front).toNat = [hi, lo] := ⟨_, _, bytesOf_two _⟩
    have body : readReplyBody (front ++ hi :: lo :: tail) = .ok r (hi :: lo :: tail) := readReplyBody_eq_ok_iff.mpr ⟨front, spelled, rfl⟩
    have value : hi.toNat * 256 + lo.toNat = (crc16 front).toNat := (bytesOf_two_eq_iff hi lo _).mp crc
    rw [crc, List.append_assoc]
    simp only [List.cons_append, List.nil_append]
    unfold readReply
    simp only [body, front_of, value, if_true]

/-! #### The tap count (R82) -/

section tapCount

variable {a k : Nat} {s : State}

theorem foldl_orphan_tap {f : State → Nat → State} (hf : ∀ u j, f u j = if k ≤ j then u.modTap (tapOf a j) Tap.orphan else u)
    (ha : 1 ≤ a) (h32 : a ≤ 32) {i : Nat} (hi : i < 128) : ∀ m, m ≤ 4 → ((List.range m).foldl f s).tap i
      = if i / 4 + 1 = a ∧ k ≤ i % 4 ∧ i % 4 < m then (s.tap i).orphan else s.tap i
  | 0, _ => by simp
  | m + 1, hm => by
    have before := foldl_orphan_tap hf ha h32 hi m (by omega)
    rw [List.range_succ, List.foldl_append, List.foldl_cons, List.foldl_nil, hf]
    by_cases at_tap : tapOf a m = i ∧ k ≤ m
    · obtain ⟨rfl, hk⟩ := at_tap
      have place : tapOf a m / 4 + 1 = a ∧ tapOf a m % 4 = m := by simp only [tapOf]; omega
      rw [if_pos hk, State.modTap_eq, State.tap_setTap_self _ _ _ hi, before, place.2, if_neg (by omega), if_pos ⟨place.1, hk, by omega⟩]
    · have same : (i / 4 + 1 = a ∧ k ≤ i % 4 ∧ i % 4 < m + 1) ↔ (i / 4 + 1 = a ∧ k ≤ i % 4 ∧ i % 4 < m) := by
        simp only [tapOf] at at_tap
        omega
      simp only [same, ← before]
      split
      · exact setTap_tap_ne (fun h => at_tap ⟨h.symm, ‹_›⟩) _ _
      · rfl

/-- The pours of the node's taps from local index `k` on are ORPHANED, and no others. -/
theorem orphanTaps_tap (ha : 1 ≤ a) (h32 : a ≤ 32) {i : Nat} (hi : i < 128) :
    (orphanTaps a k s).tap i = if i / 4 + 1 = a ∧ k ≤ i % 4 then (s.tap i).orphan else s.tap i := by
  have fold := foldl_orphan_tap (s := s) (a := a) (k := k) (f := fun s i => if k ≤ i then s.modTap (tapOf a i) Tap.orphan else s)
    (fun _ _ => rfl) ha h32 hi 4 (Nat.le_refl 4)
  simp only [Nat.mod_lt i (by decide : 0 < 4), and_true] at fold
  exact fold

theorem orphanTaps_frame (a k : Nat) (s : State) :
    orphanTaps a k s = { s with pour := { s.pour with taps := (orphanTaps a k s).pour.taps } } := by
  refine foldl_closed (P := fun t => t = { s with pour := { s.pour with taps := t.pour.taps } }) (fun t j ht => ?_) _ _ rfl
  split
  · rw [ht]
    rfl
  · exact ht

/-- The node with its new tap count. -/
def recounted (a count : Nat) (s : State) : State := s.setNode a { s.node a with tapCount := some count }

theorem takeTapCount_kept {count : Nat} (h : (s.node a).tapCount = none ∨ (s.node a).tapCount = some count) :
    takeTapCount a count s = recounted a count s := by
  unfold takeTapCount
  rcases h with h | h
  · simp only [h]
    rfl
  · simp only [h, Nat.lt_irrefl, if_false, if_true]
    rfl

theorem takeTapCount_more {old count : Nat} (h : (s.node a).tapCount = some old) (hc : old < count) :
    takeTapCount a count s = post (.node a) .nodeTaps (recounted a count s) := by
  unfold takeTapCount
  simp only [h, if_neg (Nat.lt_asymm hc), if_neg (Nat.ne_of_gt hc)]
  rfl

theorem takeTapCount_fewer {old count : Nat} (ha : 1 ≤ a) (h32 : a ≤ 32) (h : (s.node a).tapCount = some old) (hc : count < old) :
    takeTapCount a count s = post (.node a) .nodeTaps (orphanTaps a count (s.setNode a { s.node a with
      tapCount := some count, items := (s.node a).items.filter fun q => q.item.loc < count })) := by
  unfold takeTapCount
  simp only [h, if_pos hc, if_neg (Nat.ne_of_lt hc), State.modNode_eq, State.node_setNode_at ha h32, setNode_setNode]

theorem takeTapCount_fewer_spec {old count : Nat} (ha : 1 ≤ a) (h32 : a ≤ 32) (h : (s.node a).tapCount = some old) (hc : count < old) :
    let u := takeTapCount a count s
    u.node a = { s.node a with tapCount := some count, items := (s.node a).items.filter fun q => q.item.loc < count }
      ∧ (∀ b, 1 ≤ b → b ≠ a → u.node b = s.node b)
      ∧ (∀ i, i < 128 → u.tap i = if i / 4 + 1 = a ∧ count ≤ i % 4 then (s.tap i).orphan else s.tap i)
      ∧ { key := .node a, cause := .nodeTaps } ∈ u.link.notices
      ∧ u = { s with pour := { s.pour with taps := u.pour.taps }, bus := { s.bus with nodes := u.bus.nodes }
                     link := { s.link with notices := u.link.notices } } := by
  rw [takeTapCount_fewer ha h32 h hc]
  have frame := orphanTaps_frame a count (s.setNode a { s.node a with
    tapCount := some count, items := (s.node a).items.filter fun q => q.item.loc < count })
  have taps := fun i (hi : i < 128) => orphanTaps_tap (k := count) (s := s.setNode a { s.node a with
    tapCount := some count, items := (s.node a).items.filter fun q => q.item.loc < count }) ha h32 hi
  generalize orphanTaps a count _ = o at frame taps
  have node : ∀ b, o.node b = _ := State.node_congr (congrArg State.bus frame)
  exact ⟨(node a).trans (State.node_setNode_at ha h32 _ _), fun b hb hne => (node b).trans (State.node_setNode_ne ha hb hne _ _), taps,
    mem_mergeNotice_self _ _ _, by rw [frame]; rfl⟩

/-- The node's condition after its tap count is taken. -/
theorem takeTapCount_node {count : Nat} (ha : 1 ≤ a) (h32 : a ≤ 32) (s : State) :
    ((takeTapCount a count s).node a).state = (s.node a).state ∧ ((takeTapCount a count s).node a).misses = (s.node a).misses
      ∧ ((takeTapCount a count s).node a).tapCount = some count := by
  have own : (recounted a count s).node a = { s.node a with tapCount := some count } := State.node_setNode_at ha h32 _ _
  have cases : (s.node a).tapCount = none ∨ (s.node a).tapCount = some count
      ∨ ∃ old, (s.node a).tapCount = some old ∧ (old < count ∨ count < old) := by
    cases (s.node a).tapCount with
    | none => exact .inl rfl
    | some old =>
      rcases Nat.lt_trichotomy old count with h | h | h
      · exact .inr (.inr ⟨old, rfl, .inl h⟩)
      · exact .inr (.inl (congrArg some h))
      · exact .inr (.inr ⟨old, rfl, .inr h⟩)
  rcases cases with h | h | ⟨old, h, hc | hc⟩
  · rw [takeTapCount_kept (.inl h), own]
    exact ⟨rfl, rfl, rfl⟩
  · rw [takeTapCount_kept (.inr h), own]
    exact ⟨rfl, rfl, rfl⟩
  · rw [takeTapCount_more h hc, State.node_post, own]
    exact ⟨rfl, rfl, rfl⟩
  · obtain ⟨node, -⟩ := takeTapCount_fewer_spec ha h32 h hc
    rw [node]
    exact ⟨rfl, rfl, rfl⟩

end tapCount

end Sys2Proof.Machine
end

section
/-! ### The steps of a reply's handling (O31) -/

namespace Sys2Proof.Machine

open Sys2Proof Sys2Proof.Safety

/-! #### Lockouts (R33, R41, R168) -/

section lockout

variable {i : Nat} {on : Bool} {s : State}

theorem lockoutFault_tapsFreed (n : Nat) (s : State) : TapsFreed s (lockoutFault n s) := by
  have finished : ∀ c, TapsFreed s (finishBatch c (.fault .lockout) s) := fun c =>
    (endBatch_tapsFreed c .lockout s).trans (serveQueue_tapsFreed c _ _)
  exact ite_closed (P := TapsFreed s) (finished .a) (ite_closed (finished .b) (.refl s))

/-- The tap with its lockout as reported. -/
def lockoutStored (i : Nat) (on : Bool) (s : State) : State := s.setTap i { s.tap i with lockout := on }

/-- The part with a lockout stored and the drain condition of the tap's line, if any, evaluated. -/
def lockoutDrained (i : Nat) (on : Bool) (s : State) : State :=
  match (s.tap i).route.line with
  | none => lockoutStored i on s
  | some m => evalDrain m (lockoutStored i on s)

theorem lockoutDrained_tapsFreed (i : Nat) (on : Bool) (s : State) : TapsFreed (lockoutStored i on s) (lockoutDrained i on s) := by
  unfold lockoutDrained
  split
  · exact .refl _
  · exact evalDrain_tapsFreed _ _

theorem reportLockout_same (h : (s.tap i).lockout = on) : reportLockout i on s = s := if_pos h

theorem reportLockout_set (h : (s.tap i).lockout = false) : reportLockout i true s
    = if ((lockoutDrained i true s).tap i).withheld then resolveRoute i (lockoutDrained i true s) else lockoutDrained i true s := by
  unfold reportLockout lockoutDrained
  rw [h]
  cases (s.tap i).route.line <;> rfl

theorem reportLockout_cleared (h : (s.tap i).lockout = true) : reportLockout i false s
    = match (s.tap i).route.line with
      | none => lockoutDrained i false s
      | some m => lockoutFault m (lockoutDrained i false s) := by
  unfold reportLockout lockoutDrained
  rw [h]
  cases (s.tap i).route.line <;> rfl

/-- A withheld route is resolved: the tap takes its entry of the active map, and its change of line is reported (R41). -/
theorem resolveRoute_eq (hi : i < 128) : resolveRoute i s = reportLineChange (s.tap i).route.line (s.activeEntry i).line
    (s.setTap i { s.tap i with withheld := false, route := s.activeEntry i }) := by
  simp only [resolveRoute, copyRoute, State.modTap_eq, State.tap_setTap_self _ _ _ hi, setTap_setTap]

/-- A tap that is freed keeps its lockout and its pour. -/
theorem TapsFreed.locked {t : State} (h : TapsFreed s t) (j : Nat) : (t.tap j).lockout = (s.tap j).lockout ∧ (t.tap j).pour = (s.tap j).pour := by
  rcases h.tap j with same | ⟨-, freed⟩
  · rw [same]
    exact ⟨rfl, rfl⟩
  · rw [freed]
    exact ⟨rfl, rfl⟩

theorem resolveRoute_locked (hi : i < 128) (s : State) (j : Nat) :
    ((resolveRoute i s).tap j).lockout = (s.tap j).lockout ∧ ((resolveRoute i s).tap j).pour = (s.tap j).pour := by
  obtain ⟨lockout, pour⟩ := (reportLineChange_tapsFreed (s.tap i).route.line (s.activeEntry i).line
    (s.setTap i { s.tap i with withheld := false, route := s.activeEntry i })).locked j
  rw [resolveRoute_eq hi, lockout, pour, State.tap_setTap]
  split
  · rename_i hj
    rw [hj.1]
    exact ⟨rfl, rfl⟩
  · exact ⟨rfl, rfl⟩

/-- A reported lockout changes the lockout of its tap, no other and no pour. -/
theorem reportLockout_locked (hi : i < 128) (on : Bool) (s : State) :
    ((reportLockout i on s).tap i).lockout = on ∧ (∀ j, j ≠ i → ((reportLockout i on s).tap j).lockout = (s.tap j).lockout)
      ∧ ∀ j, ((reportLockout i on s).tap j).pour = (s.tap j).pour := by
  by_cases same : (s.tap i).lockout = on
  · rw [reportLockout_same same]
    exact ⟨same, fun _ _ => rfl, fun _ => rfl⟩
  · have drained := (lockoutDrained_tapsFreed i on s).locked
    have kept : ∀ j, ((reportLockout i on s).tap j).lockout = ((lockoutStored i on s).tap j).lockout
        ∧ ((reportLockout i on s).tap j).pour = ((lockoutStored i on s).tap j).pour := fun j => by
      rw [← (drained j).1, ← (drained j).2]
      cases on with
      | true =>
        rw [reportLockout_set (by simpa using same)]
        split
        · exact resolveRoute_locked hi _ j
        · exact ⟨rfl, rfl⟩
      | false =>
        rw [reportLockout_cleared (by simpa using same)]
        split
        · exact ⟨rfl, rfl⟩
        · exact (lockoutFault_tapsFreed _ _).locked j
    have own : (lockoutStored i on s).tap i = { s.tap i with lockout := on } := State.tap_setTap_self _ _ _ hi
    have others : ∀ j, j ≠ i → (lockoutStored i on s).tap j = s.tap j := fun j hj => setTap_tap_ne hj s _
    refine ⟨by rw [(kept i).1, own], fun j hj => by rw [(kept j).1, others j hj], fun j => ?_⟩
    by_cases hj : j = i
    · rw [hj, (kept i).2, own]
    · rw [(kept j).2, others j hj]

theorem bus_cleaningClosed (s : State) : CleaningClosed fun t => t.bus = s.bus where
  line _ _ _ _ _ _ _ _ _ hs := hs
  route _ _ _ hs := hs
  queue _ _ hs := hs
  circuit _ c _ hs := by cases c <;> exact hs
  post _ _ _ hs := hs
  record _ b hs := (takeRecord_bus _ b).trans hs

theorem reportLockout_bus (i : Nat) (on : Bool) (s : State) : (reportLockout i on s).bus = s.bus := by
  have eval : ∀ n u, (evalDrain n u).bus = u.bus := fun n u => evalDrain_closed (bus_cleaningClosed u) n u rfl
  have drained : (lockoutDrained i on s).bus = s.bus := by
    unfold lockoutDrained
    split
    · rfl
    · exact eval _ _
  by_cases same : (s.tap i).lockout = on
  · rw [reportLockout_same same]
  · cases on with
    | true =>
      rw [reportLockout_set (by simpa using same)]
      split
      · exact (reportLineChange_of_evalDrain (P := fun u v => v.bus = u.bus) (fun _ => rfl) (fun h k => k.trans h) eval _ _ _).trans drained
      · exact drained
    | false =>
      rw [reportLockout_cleared (by simpa using same)]
      split
      · exact drained
      · exact (lockoutFault_closed (bus_cleaningClosed _) _ _ rfl).trans drained

/-- A lockout newly reported: the drain condition is evaluated, and then a route that is still withheld is resolved (R33, R41). -/
theorem reportLockout_told (i : Nat) (on : Bool) (s : State) :
    ((s.tap i).lockout = false → on = true → ((lockoutDrained i on s).tap i).withheld = false → reportLockout i on s = lockoutDrained i on s)
      ∧ ((s.tap i).lockout = false → on = true → ((lockoutDrained i on s).tap i).withheld = true → i < 128 →
        LineChanged ((lockoutDrained i on s).tap i).route.line ((lockoutDrained i on s).activeEntry i).line
          ((lockoutDrained i on s).setTap i { (lockoutDrained i on s).tap i with
            withheld := false, route := (lockoutDrained i on s).activeEntry i }) (reportLockout i on s)) := by
  refine ⟨fun h hon hw => ?_, fun h hon hw hi => ?_⟩
  · subst hon
    rw [reportLockout_set h, hw, if_neg Bool.false_ne_true]
  · subst hon
    rw [reportLockout_set h, hw, if_pos rfl, resolveRoute_eq hi]
    exact reportLineChange_changed _ _ _

end lockout

/-! #### Statuses and events (R56, R73, R83, R84) -/

section parts

variable {i : Nat} {s : State}

theorem takeStatus_eq (i : Nat) (st : TapStatus) (s : State) : takeStatus i st s = match st.running with
    | none => reportLockout i st.lockout s
    | some k => reportRunning i k (reportLockout i st.lockout s) := by
  unfold takeStatus
  cases st.running <;> rfl

theorem reportRunning_idle {k : Nat} (h : (s.tap i).pour = none) : reportRunning i k s = s := by
  unfold reportRunning
  rw [h]

theorem reportRunning_pour {k : Nat} {q : Pour} (h : (s.tap i).pour = some q) : reportRunning i k s = s.setTap i { s.tap i with
    pour := some { phase := if q.phase = .granted then .pouring else q.phase, record := { q.record with lastRunning := k } } } := by
  unfold reportRunning
  rw [h]
  rfl

theorem takeStatus_stands (i : Nat) (st : TapStatus) (s : State) : NodesStand s (takeStatus i st s) := by
  have running : ∀ k u, (reportRunning i k u).bus = u.bus := fun k u => by
    unfold reportRunning
    split <;> rfl
  rw [takeStatus_eq]
  refine nodesStand_of_bus ?_
  split
  · exact reportLockout_bus _ _ _
  · exact (running _ _).trans (reportLockout_bus _ _ _)

theorem closeIfSilent_eq (i : Nat) (st : TapStatus) (s : State) [Decidable (presence s i = .present ∧ st.running = none)] :
    closeIfSilent i st s = if presence s i = .present ∧ st.running = none then closeLost i s else s := by
  unfold closeIfSilent
  simp only [Bool.and_eq_true, decide_eq_true_eq, Option.isNone_iff_eq_none]

theorem closeIfSilent_stands (i : Nat) (st : TapStatus) (s : State) : NodesStand s (closeIfSilent i st s) :=
  ite_closed (P := NodesStand s) (closeLost_stands i s) (.refl s)

/-- An event is accepted where its number follows the one last taken, or none was (R83). -/
theorem acceptsEvent_iff (n : Node) (number : Nat) :
    acceptsEvent n number = true ↔ n.lastTaken = none ∨ ∃ k, n.lastTaken = some k ∧ number = (k + 1) % 16 := by
  unfold acceptsEvent
  cases n.lastTaken <;> simp

theorem takeEvent_ignored {a : Nat} {e : Event} (h : ¬ acceptsEvent (s.node a) e.number = true) : takeEvent a e s = s := if_neg h

theorem takeEvent_accepted {a : Nat} {e : Event} (h : acceptsEvent (s.node a) e.number = true) : takeEvent a e s = match e.body with
    | .ask z => ask (4 * (a - 1) + e.loc) z (s.setNode a { s.node a with lastTaken := some e.number })
    | .done token pulses fast temp cause => finishPour (4 * (a - 1) + e.loc) token pulses fast temp cause
        (s.setNode a { s.node a with lastTaken := some e.number }) := by
  unfold takeEvent
  rw [if_pos h]
  cases e.body <;> rfl

theorem queueItem_stands (i : Nat) (it : Item) (s : State) : NodesStand s (queueItem i it s) := setNode_stands _ ⟨rfl, rfl, rfl⟩

theorem ask_stands (i z : Nat) (s : State) : NodesStand s (ask i z s) := by
  unfold ask
  split
  · exact queueItem_stands _ _ s
  · split
    · exact NodesStand.trans (nodesStand_of_bus rfl) (queueItem_stands _ _ _)
    · exact .refl s

theorem takeEvent_stands (a : Nat) (e : Event) (s : State) : NodesStand s (takeEvent a e s) := by
  by_cases h : acceptsEvent (s.node a) e.number = true
  · have taken : NodesStand s (s.setNode a { s.node a with lastTaken := some e.number }) := setNode_stands a ⟨rfl, rfl, rfl⟩
    rw [takeEvent_accepted h]
    split
    · exact taken.trans (ask_stands _ _ _)
    · exact taken.trans (finishPour_stands _ _ _ _ _ _ _)
  · rw [takeEvent_ignored h]
    exact .refl s

end parts

/-! #### The handling of a valid reply (R81) -/

section handle

variable {p : Poll} {r : BusReply} {s : State}

/-- The polled node is found, its misses end, and what the poll carried is confirmed (R79, R80, R86). -/
def replyConfirmed (p : Poll) (s : State) : State :=
  let n := s.node p.address
  (if n.state = .present then s else post (.node p.address) .nodePresent s).setNode p.address { n with
    state := .present, misses := 0, items := n.items.filter fun q => q.carried = false
    freshDue := n.freshDue && !p.fresh, setupDue := n.setupDue && !decide (p.setup = some n.threshold) }

theorem confirmPoll_found (ha : 1 ≤ p.address) (h32 : p.address ≤ 32) (s : State) :
    confirmPoll p (findNode p.address (s.modNode p.address fun n => { n with misses := 0 })) = replyConfirmed p s := by
  have own : ∀ (u : State) n, (u.setNode p.address n).node p.address = n := State.node_setNode_at ha h32
  have flag : ∀ b c : Bool, (if b then false else c) = (c && !b) := by decide
  have setup : ∀ (x : Prop) [Decidable x] (c : Bool), (if x then false else c) = (c && !decide x) := fun x _ c => by
    by_cases hx : x <;> simp [hx]
  have carried : ∀ q : QueuedItem, (!q.carried) = decide (q.carried = false) := fun q => by cases q.carried <;> rfl
  unfold confirmPoll findNode replyConfirmed
  by_cases h : (s.node p.address).state = .present
  · simp only [State.modNode_eq, own, h, if_true, setNode_setNode, flag, setup, carried]
  · have absorbed : ∀ m n, (post (.node p.address) .nodePresent (s.setNode p.address m)).setNode p.address n
        = (post (.node p.address) .nodePresent s).setNode p.address n := fun m n =>
      setNode_setNode (post (.node p.address) .nodePresent s) p.address m n
    simp only [State.modNode_eq, own, h, if_false, State.node_post, setNode_setNode, absorbed, flag, setup, carried]

theorem takeStatuses_eq (a : Nat) : ∀ (l : List TapStatus) (i : Nat) (s : State),
    takeStatuses a i l s = (l.zipIdx i).foldl (fun u x => takeStatus (tapOf a x.2) x.1 u) s
  | [], _, _ => rfl
  | _ :: rest, i, _ => takeStatuses_eq a rest (i + 1) _

theorem closeSilent_eq (a : Nat) : ∀ (l : List TapStatus) (i : Nat) (s : State),
    closeSilent a i l s = (l.zipIdx i).foldl (fun u x => closeIfSilent (tapOf a x.2) x.1 u) s
  | [], _, _ => rfl
  | _ :: rest, i, _ => closeSilent_eq a rest (i + 1) _

/-- The part with the poll confirmed, the tap count, every tap's status and every event taken. -/
def replyTaken (p : Poll) (r : BusReply) (s : State) : State :=
  r.events.foldl (fun u e => takeEvent p.address e u) (r.taps.zipIdx.foldl (fun u x => takeStatus (tapOf p.address x.2) x.1 u)
    (takeTapCount p.address r.taps.length (replyConfirmed p s)))

theorem handleReply_eq (ha : 1 ≤ p.address) (h32 : p.address ≤ 32) (r : BusReply) (s : State) : handleReply p r s
    = if r.events = [] then r.taps.zipIdx.foldl (fun u x => closeIfSilent (tapOf p.address x.2) x.1 u) (replyTaken p r s)
      else replyTaken p r s := by
  simp only [handleReply, confirmPoll_found ha h32, takeStatuses_eq, closeSilent_eq, List.isEmpty_iff, replyTaken]

theorem replyTaken_stands (p : Poll) (r : BusReply) (s : State) :
    NodesStand (takeTapCount p.address r.taps.length (replyConfirmed p s)) (replyTaken p r s) :=
  (foldl_stands (f := fun u (x : TapStatus × Nat) => takeStatus (tapOf p.address x.2) x.1 u) (fun u x => takeStatus_stands _ x.1 u) _ _).trans
    (foldl_stands (f := fun u e => takeEvent p.address e u) (fun u e => takeEvent_stands _ e u) _ _)

/-- The node that has answered is PRESENT, without a miss and with the tap count it reported. -/
theorem handleReply_node (ha : 1 ≤ p.address) (h32 : p.address ≤ 32) (r : BusReply) (s : State) : let n := (handleReply p r s).node p.address
    n.state = .present ∧ n.misses = 0 ∧ n.tapCount = some r.taps.length := by
  have handled : NodesStand (takeTapCount p.address r.taps.length (replyConfirmed p s)) (handleReply p r s) := by
    rw [handleReply_eq ha h32]
    exact ite_closed (P := NodesStand _)
      ((replyTaken_stands p r s).trans (foldl_stands (f := fun u (x : TapStatus × Nat) => closeIfSilent (tapOf p.address x.2) x.1 u)
        (fun u x => closeIfSilent_stands _ x.1 u) _ _)) (replyTaken_stands p r s)
  obtain ⟨state, misses, count⟩ := takeTapCount_node (count := r.taps.length) ha h32 (replyConfirmed p s)
  obtain ⟨state', misses', count'⟩ := handled p.address ha
  have confirmed : ((replyConfirmed p s).node p.address).state = .present ∧ ((replyConfirmed p s).node p.address).misses = 0 := by
    rw [replyConfirmed, State.node_setNode_at ha h32]
    exact ⟨rfl, rfl⟩
  exact ⟨state'.trans (state.trans confirmed.1), misses'.trans (misses.trans confirmed.2), count'.trans count⟩

/-- The part after an answered poll. -/
theorem answered (ha : 1 ≤ p.address) (h32 : p.address ≤ 32) (r : BusReply) (s : State) :
    let t := nextPoll p.address (handleReply p r s)
    (t.node p.address).state = .present ∧ (t.node p.address).misses = 0 ∧ (t.node p.address).tapCount = some r.taps.length
      ∧ t.store = s.store ∧ t.pins = s.pins := by
  obtain ⟨state, misses, count⟩ := handleReply_node ha h32 r s
  obtain ⟨state', misses', count'⟩ := nextPoll_stands p.address (handleReply p r s) p.address ha
  have kept : PlantKept s (nextPoll p.address (handleReply p r s)) :=
    nextPoll_closed (plantKept_closed s) _ _ (handleReply_closed (plantKept_closed s) p r s (.refl s))
  exact ⟨state'.trans state, misses'.trans misses, count'.trans count, kept.store, kept.pins⟩

end handle

/-! #### What the part makes of received bytes (R74, R194) -/

section received

variable {b : List Byte} {p : Poll} {r : BusReply} {s : State}

theorem receiveReply_outside (h : ∀ p, s.bus.phase ≠ .exchange p) : receiveReply b s = s := by
  unfold receiveReply
  split
  · rfl
  · rfl
  · exact absurd ‹_› (h _)

theorem receiveReply_answer (hp : s.bus.phase = .exchange p) (hr : readReply b = some r) (ha : r.address = p.address) :
    receiveReply b s = nextPoll p.address (handleReply p r s) := by
  unfold receiveReply
  simp only [hp, hr, if_pos ha]

theorem receiveReply_late (hp : s.bus.phase = .exchange p) (hr : readReply b = some r) (ha : r.address ≠ p.address)
    (hl : s.bus.abandoned = some r.address) : receiveReply b s = { s with bus := { s.bus with abandoned := none } } := by
  unfold receiveReply
  simp only [hp, hr, if_neg ha, if_pos hl]

theorem receiveReply_missed (hp : s.bus.phase = .exchange p)
    (h : ∀ r, readReply b = some r → r.address ≠ p.address ∧ s.bus.abandoned ≠ some r.address) : receiveReply b s = missExchange s := by
  unfold receiveReply
  simp only [hp]
  split
  · rfl
  · obtain ⟨ha, hl⟩ := h _ ‹_›
    rw [if_neg ha, if_neg hl]

theorem emptyRoundEnds_empty (h : s.bus.phase = .emptyRound) :
    emptyRoundEnds s = endRound { s with bus := { s.bus with abandoned := none } } := by
  unfold emptyRoundEnds
  rw [h]

theorem emptyRoundEnds_other (h : s.bus.phase ≠ .emptyRound) : emptyRoundEnds s = s := by
  unfold emptyRoundEnds
  split
  · exact absurd ‹_› h
  · rfl
  · rfl

variable (takes : s.takesEvents = true)
include takes

theorem exec_replyReceived (b : List Byte) : exec (.replyReceived b) s = .next (transmit (receiveReply b s)) :=
  congrArg _ (event_of_takes takes)

theorem exec_replyWindowExpiry : exec .replyWindowExpiry s = .next (transmit (missExchange s)) :=
  congrArg _ (event_of_takes takes)

theorem exec_emptyRoundExpiry : exec .emptyRoundExpiry s = .next (transmit (emptyRoundEnds s)) :=
  congrArg _ (event_of_takes takes)

end received

/-- Settles O31: the bytes read, the answers of the bus, and each step of a reply's handling. -/
theorem replyAndRound : Obligations.ReplyAndRound := by
  refine ⟨readReply_eq_some_iff, fun s takes => ⟨fun p b r hp ha h32 hr same => ?_, fun p b r hp hr ha hl => ?_, fun p b hp missed => ?_,
    fun b outside => ?_, fun other => ?_, fun empty => ?_, fun p r => ?_, fun a count ha h32 => ?_,
    fun i hi => ⟨fun on => ?_, fun st => ?_, fun k idle => reportRunning_idle idle, fun k q pour => reportRunning_pour pour, fun st => ?_,
      closeLost_still, fun q hq ho hn => ?_⟩, fun a e ha h32 => ?_⟩⟩
  · refine ⟨nextPoll p.address (handleReply p r s), ?_, rfl, ?_⟩
    · rw [exec_replyReceived takes, receiveReply_answer hp hr same]
    · exact answered ha h32 r s
  · rw [exec_replyReceived takes, receiveReply_late hp hr ha hl]
  · rw [exec_replyReceived takes, receiveReply_missed hp missed, exec_replyWindowExpiry takes]
  · rw [exec_replyReceived takes, receiveReply_outside outside]
  · rw [exec_emptyRoundExpiry takes, emptyRoundEnds_other other]
  · refine ⟨endRound { s with bus := { s.bus with abandoned := none } }, ?_, endRound_next s⟩
    rw [exec_emptyRoundExpiry takes, emptyRoundEnds_empty empty]
  · exact fun ha h32 => handleReply_eq ha h32 r s
  · exact ⟨takeTapCount_kept, fun old => takeTapCount_more, fun old => takeTapCount_fewer_spec ha h32⟩
  · obtain ⟨own, others, pours⟩ := reportLockout_locked hi on s
    obtain ⟨same, resolved⟩ := reportLockout_told i on s
    simp only [activeEntry_eq] at resolved
    refine ⟨own, others, pours, reportLockout_same, same, fun h hon hw => resolved h hon hw hi, fun h hon => ?_⟩
    subst hon
    exact reportLockout_cleared h
  · refine (takeStatus_eq i st s).trans ?_
    cases st.running <;> rfl
  · exact closeIfSilent_eq i st s
  · obtain ⟨measured, silent⟩ := closeLost_ended hq ho hn
    refine ⟨measured, silent, ?_⟩
    rw [closeLost_ends hq ho]
    exact endPour_stops hi _ _ s
  · refine ⟨fun h => takeEvent_ignored (mt (acceptsEvent_iff _ _).mp h), fun h => (takeEvent_accepted ((acceptsEvent_iff _ _).mpr h)).trans ?_⟩
    cases e.body <;> rfl

end Sys2Proof.Machine
end

section
/-! ### The figures of metering (O28) -/

namespace Sys2Proof.Machine

open Sys2Proof Sys2Proof.Safety

/-- A volume is rounded half up, and no pulses have none (R59). -/
theorem pulseVolume_eq (g o n : Nat) : pulseVolume g o n = if n = 0 then 0 else ((n + o) * g + 500) / 1000 := by
  unfold pulseVolume divHalfUp
  generalize (n + o) * g = x
  split
  · rfl
  · omega

/-- A budget is the quotient less the offset, held to 1–65,535 (R54). -/
theorem boundBudget_fst (q o : Nat) : ((boundBudget q o).1 : Int) = max 1 (min 65535 ((q : Int) - o)) := by
  unfold boundBudget Config.maxBudget
  split
  · simp only; omega
  · split
    · simp only; omega
    · simp only; omega

/-- A budget is flagged as clamped exactly where it was too large (R54). -/
theorem boundBudget_snd (q o : Nat) : (boundBudget q o).2 = true ↔ 65535 < (q : Int) - o := by
  unfold boundBudget Config.maxBudget
  split
  · simp only [Bool.false_eq_true, false_iff]; omega
  · split
    · simp only [true_iff]; omega
    · simp only [Bool.false_eq_true, false_iff]; omega

theorem boundBudget_range (q o : Nat) : 1 ≤ (boundBudget q o).1 ∧ (boundBudget q o).1 ≤ 65535 := by
  have := boundBudget_fst q o
  omega

/-- A target that the overrun swallows gets the least budget (R54). -/
theorem portionBudget_of_le {target overrun : Nat} (h : target ≤ overrun) (gain offset : Nat) :
    portionBudget target overrun gain offset = (1, false) := if_pos h

theorem portionBudget_of_lt {target overrun : Nat} (h : overrun < target) (gain offset : Nat) :
    portionBudget target overrun gain offset = boundBudget (((target - overrun) * 1000 + gain - 1) / gain) offset :=
  if_neg (Nat.not_le.mpr h)

theorem portionBudget_range (target overrun gain offset : Nat) :
    1 ≤ (portionBudget target overrun gain offset).1 ∧ (portionBudget target overrun gain offset).1 ≤ 65535 := by
  rcases Nat.lt_or_ge overrun target with h | h
  · rw [portionBudget_of_lt h]
    exact boundBudget_range _ _
  · rw [portionBudget_of_le h]
    exact ⟨Nat.le_refl 1, by decide⟩

theorem freeBudget_range (vfree gain offset : Nat) :
    1 ≤ (freeBudget vfree gain offset).1 ∧ (freeBudget vfree gain offset).1 ≤ 65535 := boundBudget_range _ _

/-- An eighth, rounded half away from zero (R65). -/
theorem divHalfAway_eight (d : Int) : divHalfAway d 8 = if 0 ≤ d then (d + 4) / 8 else -((4 - d) / 8) := by
  unfold divHalfAway divHalfUp
  split <;> omega

/-- The learned overrun stays within 0–300 tenths (R65). -/
theorem learnOverrun_eq (overrun : Nat) (observed : Int) :
    (learnOverrun overrun observed : Int) = max 0 (min 300 (overrun + divHalfAway (observed - overrun) 8)) := by
  unfold learnOverrun Config.maxOverrun
  simp only []
  split <;> omega

/-- Settles O28: each figure's rounding, clamp and flag. -/
theorem meteringFigures : Obligations.MeteringFigures := by
  refine ⟨pulseVolume_eq, fun target overrun gain offset _ => ?_, fun vfree gain offset _ => ?_, fun overrun observed => ?_⟩
  · obtain ⟨least, most⟩ := portionBudget_range target overrun gain offset
    refine ⟨least, most, fun h => portionBudget_of_le h gain offset, fun h => ?_⟩
    rw [portionBudget_of_lt h]
    exact ⟨boundBudget_fst _ _, boundBudget_snd _ _⟩
  · exact ⟨boundBudget_fst _ _, boundBudget_snd _ _⟩
  · rw [learnOverrun_eq, divHalfAway_eight]

end Sys2Proof.Machine
end

section
/-! ### Frames that spell no request, and frames that find the slot held (O6) -/

namespace Sys2Proof.Machine

open Sys2Proof Sys2Proof.Safety

/-- A frame that finds the slot held is answered from the BUSY reply place, or discarded, whatever its owner would decide (R174). -/
theorem receiveFrame_of_held {s : State} (takes : s.takesEvents = true) (held : s.link.slot.isSome = true) (kind tag : Byte)
    (f : State → Decision) : event (receiveFrame kind tag f) s = heldAnswer kind tag s := by
  have busy : receiveFrame kind tag f s = answerBusy kind tag (hunting s) := if_pos held
  rw [event_of_takes takes, busy]
  unfold answerBusy heldAnswer
  split
  · rename_i occupied
    rw [transmit_of_slot (by exact held)]
    exact (if_pos (c := s.link.busy.isSome = true) occupied).symm
  · rename_i free
    rw [transmit_of_slot (by exact held)]
    exact (if_neg (c := s.link.busy.isSome = true) free).symm

/-- A body above 240 bytes makes a frame too long, whatever it holds (R173). -/
theorem event_receiveWhole_long {s : State} (takes : s.takesEvents = true) {b : List Byte} (long : 240 < b.length) (kind tag : Byte) :
    event (receiveWhole kind tag b) s = transmit (discarding s) := by
  rw [event_of_takes takes, receiveWhole_of_long long]

/-- A whole frame that fits and finds the slot held. -/
theorem event_receiveWhole_held {s : State} (takes : s.takesEvents = true) (held : s.link.slot.isSome = true) {b : List Byte}
    (fits : b.length ≤ 240) (kind tag : Byte) : event (receiveWhole kind tag b) s = heldAnswer kind tag s := by
  rw [show receiveWhole kind tag b = receiveFrame kind tag (dispatchFrame kind tag b) from funext (receiveWhole_of_fits fits kind tag)]
  exact receiveFrame_of_held takes held kind tag _

/-- A whole frame that takes the slot and is refused: the reply, and the request counted in the window (R50, R175). -/
theorem event_receiveWhole_refused {s : State} (ready : Ready s) {b : List Byte} (fits : b.length ≤ 240) {kind tag : Byte}
    {st : Status} {body : ReplyBody} (hd : dispatchFrame kind tag b (hunting s) = refuseWith st body (hunting s)) (hb : st ≠ .busy) :
    event (receiveWhole kind tag b) s = withReplyTo kind tag st body none (counted (hunting s)) := by
  rw [show receiveWhole kind tag b = receiveFrame kind tag (dispatchFrame kind tag b) from funext (receiveWhole_of_fits fits kind tag),
    receiveFrame_of_ready ready, hd]
  exact congrArg _ (countFurther_eq_counted hb rfl)

/-- A kind that names no request. -/
theorem dispatchFrame_unknown {kind : Byte} (hk : kindOfCode kind = none) (tag : Byte) (b : List Byte) (s : State) :
    dispatchFrame kind tag b s = refuseWith .unknown .none s := by
  simp only [dispatchFrame, hk, refuse]

/-- A body that does not match its kind. -/
theorem dispatchFrame_format {kind tag : Byte} {k : RequestKind} {b : List Byte} (hk : kindOfCode kind = some k)
    (hr : readRequest k tag b = none) (s : State) : dispatchFrame kind tag b s = refuseWith .format .none s := by
  simp only [dispatchFrame, hk, hr, refuse]

/-- An operation that its kind does not define. -/
theorem dispatchFrame_range {kind tag : Byte} {k : RequestKind} {b : List Byte} (hk : kindOfCode kind = some k)
    (hr : readRequest k tag b = some none) (s : State) : dispatchFrame kind tag b s = refuseWith .range (undefinedBody k s) s := by
  simp only [dispatchFrame, hk, hr]

/-- A command that a host's body spells is a request of that body's kind. -/
theorem exec_of_encoded {c : Instr} {k : RequestKind} {b : List Byte} (h : encodeRequest c = some (k, b)) (s : State) :
    ∃ f, exec c s = .next (request k (tagOf c) f s) := by
  cases c <;> cases h <;> exact ⟨_, rfl⟩

/-- Settles O6: the refusals of a frame that takes the slot, the answer of a held slot, and a frame too long. -/
theorem framesAnswered : Obligations.FramesAnswered := by
  refine ⟨fun kind tag b s ready fits => ⟨fun hk => ?_, fun k hk hr => ?_, fun k hk hr => ?_⟩,
    fun s takes held => ⟨fun c k b h => ?_, fun kind tag b fits => ?_, fun kind tag b fits => ?_⟩,
    fun kind tag b s takes long => ⟨?_, ?_⟩⟩
  · exact congrArg _ (event_receiveWhole_refused ready fits (dispatchFrame_unknown hk tag b _) (by decide))
  · exact congrArg _ (event_receiveWhole_refused ready fits (dispatchFrame_format hk hr _) (by decide))
  · exact congrArg _ (event_receiveWhole_refused ready fits (dispatchFrame_range hk hr _) (by decide))
  · obtain ⟨f, hf⟩ := exec_of_encoded h s
    rw [hf]
    exact congrArg _ (receiveFrame_of_held takes held _ _ f)
  · exact congrArg _ (event_receiveWhole_held takes held fits kind tag)
  · exact congrArg _ (event_receiveWhole_held takes held fits kind tag)
  · exact congrArg _ (event_receiveWhole_long takes long kind tag)
  · exact congrArg _ (event_receiveWhole_long takes long kind tag)

end Sys2Proof.Machine
end

section
/-! ### The figures of metering stay in their ranges (O56)

The law reads three figures of each tap. Most operations leave every tap, or change of a tap what the law does not read; a grant takes
the tap's token and a bounded budget, a measured end learns a bounded overrun, and a calibration may set the overrun to 0. -/

namespace Sys2Proof.Machine

open Sys2Proof Sys2Proof.Safety

/-! #### What the law reads -/

/-- What the law of metering reads of a tap: next token, learned overrun, and token and budget of the pour in flight. -/
def Tap.metered (t : Tap) : Nat × Nat × Option (Nat × Nat) :=
  (t.nextToken, t.overrun, t.pour.map fun p => (p.record.token, p.record.budget))

theorem tapOk_iff (t : Tap) : TapOk t ↔ t.metered.1 ≤ 255 ∧ t.metered.2.1 ≤ 300
    ∧ ∀ f ∈ t.metered.2.2, f.1 ≤ 255 ∧ 1 ≤ f.2 ∧ f.2 ≤ 65535 := by
  simp [TapOk, Tap.metered]

/-- A tap with the figures of one in its ranges is in its ranges. -/
theorem tapOk_of_metered {x y : Tap} (h : y.metered = x.metered) (hx : TapOk x) : TapOk y := by
  rwa [tapOk_iff, h, ← tapOk_iff]

theorem tapOk_coldTap : TapOk coldTap := by
  simp [TapOk, coldTap]

theorem meteringLaw_iff (s : State) : MeteringLaw s ↔ ∀ i, TapOk (s.tap i) := by
  constructor
  · intro h i
    by_cases hi : i < 128
    · have tap : s.tap i = s.pour.taps[i] := by simp [State.tap, hi]
      exact tap ▸ h _ (Vector.mem_toList_iff.mpr (Vector.getElem_mem hi))
    · rw [State.tap_of_ge (Nat.not_lt.mp hi)]
      exact tapOk_coldTap
  · intro h t ht
    obtain ⟨i, hi, rfl⟩ := Vector.mem_iff_getElem.mp (Vector.mem_toList_iff.mp ht)
    have tap : s.tap i = s.pour.taps[i] := by simp [State.tap, hi]
    exact tap ▸ h i

variable {s t : State}

/-- The law is kept where each tap keeps its ranges. -/
theorem metering_of_taps (h : ∀ i, TapOk (s.tap i) → TapOk (t.tap i)) (hs : MeteringLaw s) : MeteringLaw t :=
  (meteringLaw_iff t).mpr fun i => h i ((meteringLaw_iff s).mp hs i)

/-- The law reads the block of the taps alone. -/
theorem metering_of_pour (h : t.pour = s.pour) (hs : MeteringLaw s) : MeteringLaw t := by
  rwa [MeteringLaw, h]

theorem metering_of_onlyLine {n : Nat} (h : OnlyLine n s t) : MeteringLaw s → MeteringLaw t := metering_of_pour h.2.1

theorem setTap_metering (i : Nat) {x : Tap} (hx : TapOk (s.tap i) → TapOk x) (hs : MeteringLaw s) : MeteringLaw (s.setTap i x) := by
  refine metering_of_taps (fun j hj => ?_) hs
  rw [State.tap_setTap]
  split
  · rename_i h
    exact hx (h.1 ▸ hj)
  · exact hj

/-- A tap may change in what the law does not read. -/
theorem setTap_metering_same (i : Nat) {x : Tap} (hx : x.metered = (s.tap i).metered) : MeteringLaw s → MeteringLaw (s.setTap i x) :=
  setTap_metering i (tapOk_of_metered hx)

/-- Nothing that cleaning does touches a figure of metering. -/
theorem metering_cleaning : CleaningClosed MeteringLaw where
  line _ _ _ _ _ _ _ _ _ hs := hs
  route _ i _ hs := setTap_metering_same i rfl hs
  queue _ _ hs := hs
  circuit _ _ _ hs := hs
  post _ _ _ hs := hs
  record s b hs := metering_of_pour (takeRecord_pour s b) hs

theorem record_metering (b : RecordBody) : MeteringLaw s → MeteringLaw (takeRecord b s) := metering_cleaning.record s b

theorem post_metering (k : NoticeKey) (c : NoticeCause) : MeteringLaw s → MeteringLaw (post k c s) := metering_cleaning.post s k c

theorem evalDrain_metering (n : Nat) : MeteringLaw s → MeteringLaw (evalDrain n s) := evalDrain_closed metering_cleaning n s

/-! #### Watches, totals and stops -/

theorem metering_of_watches (h : WatchesOnly s t) : MeteringLaw s → MeteringLaw t :=
  metering_of_taps fun i hi => by
    rw [h.tap i]
    exact hi

theorem replaceWatch_metering (w : Nat) (e : Watch) (hs : MeteringLaw s) : MeteringLaw (replaceWatch w e s) := by
  have off : MeteringLaw (s.setWatch w { s.watch w with state := .off }) := hs
  exact ite_closed (metering_of_watches (withdrawHold_effect _ _).1.only off) off

theorem addClass_metered (x : Tap) (c : PourClass) (v : Nat) : (x.addClass c v).metered = x.metered := by
  cases c <;> rfl

theorem addTotals_metering (r : PourRecord) (hs : MeteringLaw s) : MeteringLaw (addTotals r s) := by
  have total := setTap_metering_same r.tap (addClass_metered (s.tap r.tap) r.cls r.volume) hs
  exact ite_closed total total

theorem takePour_metering (r : PourRecord) (hs : MeteringLaw s) : MeteringLaw (takePour r s) := by
  have taken := record_metering (.pour r) hs
  have folded : MeteringLaw (foldPour r (takeRecord (.pour r) s)) := setTap_metering_same r.tap rfl taken
  exact metering_of_watches (evaluateWatches_only r _ _) (addTotals_metering r (ite_closed taken folded))

theorem releaseRecord_metering (r : Record) (hs : MeteringLaw s) : MeteringLaw (releaseRecord s r) := by
  unfold releaseRecord
  split
  · exact setTap_metering_same _ rfl hs
  all_goals exact hs

theorem releaseRecords_metering (k : Nat) (hs : MeteringLaw s) : MeteringLaw (releaseRecords k s) :=
  foldl_closed (fun _ r hu => releaseRecord_metering r hu) _ s hs

theorem clearTotals_metering : MeteringLaw s → MeteringLaw (clearTotals s) :=
  metering_of_taps fun i => tapOk_of_metered (by
    simp only [clearTotals, State.tap, Vector.getElem?_map]
    cases s.pour.taps[i]? <;> rfl)

/-- A stop that is sent leaves token and budget. -/
theorem stopTap_metering (n i : Nat) (hs : MeteringLaw s) : MeteringLaw (stopTap n i s) := by
  unfold stopTap
  split
  · exact hs
  · rename_i p hp
    exact ite_closed hs (setTap_metering_same i (by simp only [Tap.metered, hp, Option.map_some]) hs)

theorem stopLine_metering (n : Nat) (hs : MeteringLaw s) : MeteringLaw (stopLine n s) :=
  foldl_closed (fun _ i hu => stopTap_metering n i hu) _ s hs

/-! #### Routes and lockouts -/

theorem reportLineChange_metering (old new : Option Nat) (hs : MeteringLaw s) : MeteringLaw (reportLineChange old new s) := by
  refine ite_closed hs ?_
  have left : MeteringLaw (match old with
      | some n => evalDrain n s
      | none => s) := by
    cases old with
    | none => exact hs
    | some n => exact evalDrain_metering n hs
  cases new with
  | none => exact left
  | some n => exact evalDrain_metering n left

theorem copyRoute_metering (i : Nat) (r : Route) (hs : MeteringLaw s) : MeteringLaw (copyRoute i r s) :=
  reportLineChange_metering _ _ (setTap_metering_same i rfl hs)

theorem applyDeferred_metering (i : Nat) (hs : MeteringLaw s) : MeteringLaw (applyDeferred i s) :=
  ite_closed hs (ite_closed (copyRoute_metering i _ (setTap_metering_same i rfl hs))
    (copyRoute_metering i _ (setTap_metering_same i rfl hs)))

/-- A tap that returns to IDLE has no pour to keep in range. -/
theorem idleTap_metering (i token : Nat) (hs : MeteringLaw s) : MeteringLaw (idleTap i token s) :=
  applyDeferred_metering i (setTap_metering (s := dropStop i token s) i
    (fun ⟨next, overrun, _⟩ => ⟨next, overrun, by simp⟩) hs)

theorem resolveRoute_metering (i : Nat) (hs : MeteringLaw s) : MeteringLaw (resolveRoute i s) :=
  copyRoute_metering i _ (setTap_metering_same i rfl hs)

theorem reportLockout_metering (i : Nat) (on : Bool) (hs : MeteringLaw s) : MeteringLaw (reportLockout i on s) := by
  have stored : MeteringLaw (s.modTap i fun r => { r with lockout := on }) := setTap_metering_same i rfl hs
  refine ite_closed hs (ite_closed (resolveRoute_metering i ?_) ?_)
  all_goals
    split
    · exact stored
    · rename_i n _
      have drained := evalDrain_metering n stored
      exact ite_closed drained (lockoutFault_closed metering_cleaning n _ drained)

theorem swapTap_metering (i : Nat) (hs : MeteringLaw s) : MeteringLaw (swapTap i s) :=
  ite_closed (copyRoute_metering i _ (setTap_metering_same i rfl hs)) (setTap_metering_same i rfl hs)

theorem swapMaps_metering (hs : MeteringLaw s) : MeteringLaw (swapMaps s) :=
  foldl_closed (fun _ i hu => swapTap_metering i hu) _ _
    (show MeteringLaw { s with pour := { s.pour with active := s.pour.active.other } } from hs)

/-! #### Kegs -/

theorem runDry_metering (n : Nat) (hs : MeteringLaw s) : MeteringLaw (runDry n s) :=
  ite_closed (stopLine_metering n (moveLine_closed metering_cleaning n .dry s hs)) hs

theorem retireHead_metering (n : Nat) (cause : KegCause) (hs : MeteringLaw s) : MeteringLaw (retireHead n cause s) := by
  cases hc : (s.line n).chain with
  | nil => rwa [retireHead_empty hc]
  | cons k rest =>
    rw [retireHead_eq hc]
    exact runDry_metering n (metering_of_onlyLine headRetired_onlyLine (record_metering _ hs))

theorem cellarPulse_metering (n : Nat) (hs : MeteringLaw s) : MeteringLaw (cellarPulse n s) := by
  unfold cellarPulse
  simp only []
  split
  · exact hs
  · refine ite_closed hs (metering_of_onlyLine (n := n) ?_ hs)
    exact onlyLine_trans (onlyLine_trans (setLine_onlyLine n _ s) (checkPrime_onlyLine n _)) (recomputeStock_onlyLine n _)

theorem detectorTrip_metering (n : Nat) (hs : MeteringLaw s) : MeteringLaw (detectorTrip n s) := by
  have disarmed : MeteringLaw { s with cellar := { s.cellar with
    detectorArmed := s.cellar.detectorArmed.setIfInBounds n false } } := hs
  exact ite_closed (retireHead_metering n .empty disarmed) disarmed

/-! #### The grant and the ends of pours (R49, R54, R65) -/

theorem grantRecord_budget (i n z : Nat) (s : State) :
    1 ≤ (grantRecord i n z s).budget ∧ (grantRecord i n z s).budget ≤ 65535 := by
  show 1 ≤ (if z = 0 then freeBudget _ _ _ else portionBudget _ _ _ _).1
    ∧ (if z = 0 then freeBudget _ _ _ else portionBudget _ _ _ _).1 ≤ 65535
  split
  · exact freeBudget_range _ _ _
  · exact portionBudget_range _ _ _ _

/-- A grant takes the tap's token and a budget in its range; the next token counts on modulo 256. -/
theorem grant_metering (i n z : Nat) (hs : MeteringLaw s) : MeteringLaw (grant i n z s) := by
  have granted : MeteringLaw (s.modTap i fun r => { r with
      nextToken := (r.nextToken + 1) % 256, pour := some { phase := .granted, record := grantRecord i n z s } }) := by
    refine setTap_metering i (fun ⟨next, overrun, _⟩ => ⟨?_, overrun, ?_⟩) hs
    · exact Nat.le_of_lt_succ (Nat.mod_lt _ (by decide))
    · rintro p ⟨⟩
      exact ⟨next, grantRecord_budget i n z s⟩
  exact granted

theorem ask_metering (i z : Nat) (hs : MeteringLaw s) : MeteringLaw (ask i z s) := by
  unfold ask
  split
  · exact hs
  · split
    · exact grant_metering i _ z hs
    · exact hs

theorem learnOverrun_le (overrun : Nat) (observed : Int) : learnOverrun overrun observed ≤ 300 := by
  have := learnOverrun_eq overrun observed
  omega

theorem learn_metering (i v b : Nat) : MeteringLaw s → MeteringLaw (s.modTap i fun x => x.learn v b) :=
  setTap_metering i fun ⟨next, _, budget⟩ => ⟨next, learnOverrun_le _ _, budget⟩

theorem measuredEnd_metering (i : Nat) (r : InFlight) (e : PourEnd) (hs : MeteringLaw s) : MeteringLaw (measuredEnd i r e s) := by
  have applied : ∀ v f l x, MeteringLaw (applyPour r.line v f l x s) := fun v f l x => by
    obtain ⟨u, only, he⟩ := applyPour_evaluates r.line v f l x s
    rw [he]
    exact evalDrain_metering r.line (metering_of_onlyLine only hs)
  have told := fun v f l x p => takePour_metering p (applied v f l x)
  have warmed : ∀ c : Prop, [Decidable c] → ∀ n u, MeteringLaw u → MeteringLaw (if c then countWarm n u else u) :=
    fun _ _ _ _ hu => ite_closed hu hu
  exact idleTap_metering i r.token
    (ite_closed (learn_metering i _ _ (warmed _ _ _ (told _ _ _ _ _))) (warmed _ _ _ (told _ _ _ _ _)))

theorem endPour_metering (i : Nat) (r : InFlight) (e : PourEnd) (hs : MeteringLaw s) : MeteringLaw (endPour i r e s) :=
  ite_closed (idleTap_metering i r.token (evalDrain_metering (s := pourLeft r.line s) r.line hs)) (measuredEnd_metering i r e hs)

theorem finishPour_metering (i token pulses fast : Nat) (x : Option Int) (c : EndCause) (hs : MeteringLaw s) :
    MeteringLaw (finishPour i token pulses fast x c s) := by
  unfold finishPour
  split
  · exact hs
  · exact ite_closed hs (endPour_metering i _ _ hs)

theorem closeLost_metering (i : Nat) (hs : MeteringLaw s) : MeteringLaw (closeLost i s) := by
  unfold closeLost
  split
  · exact hs
  · exact ite_closed (endPour_metering i _ _ hs) hs

/-! #### The tap bus -/

theorem orphan_metered (x : Tap) : x.orphan.metered = x.metered := by
  unfold Tap.orphan Tap.metered
  cases x.pour <;> rfl

theorem orphanTaps_metering (a k : Nat) (hs : MeteringLaw s) : MeteringLaw (orphanTaps a k s) :=
  foldl_closed (fun _ _ hu => ite_closed (setTap_metering_same _ (orphan_metered _) hu) hu) _ s hs

theorem reportRunning_metering (i k : Nat) (hs : MeteringLaw s) : MeteringLaw (reportRunning i k s) := by
  unfold reportRunning
  split
  · exact hs
  · rename_i p hp
    exact setTap_metering_same i (by simp only [Tap.metered, hp, Option.map_some]) hs

theorem nextPoll_metering (a : Nat) : MeteringLaw s → MeteringLaw (nextPoll a s) :=
  metering_of_pour (by rw [nextPoll_frame])

theorem recomputeThreshold_metering (a : Nat) : MeteringLaw s → MeteringLaw (recomputeThreshold a s) :=
  metering_of_pour (by rw [recomputeThreshold_frame])

theorem setNode_metering (a : Nat) (n : Node) (hs : MeteringLaw s) : MeteringLaw (s.setNode a n) := hs

theorem loseNode_metering (a : Nat) (hs : MeteringLaw s) : MeteringLaw (loseNode a s) :=
  post_metering _ _ (orphanTaps_metering a 0 (setNode_metering a _ hs))

theorem countMiss_metering (a : Nat) (hs : MeteringLaw s) : MeteringLaw (countMiss a s) :=
  ite_closed hs (ite_closed (setNode_metering a _ hs) (loseNode_metering a hs))

theorem missExchange_metering (hs : MeteringLaw s) : MeteringLaw (missExchange s) := by
  unfold missExchange
  split
  · exact nextPoll_metering _ (countMiss_metering _ hs)
  · exact hs
  · exact hs

theorem takeTapCount_metering (a k : Nat) (hs : MeteringLaw s) : MeteringLaw (takeTapCount a k s) := by
  unfold takeTapCount
  split
  · exact setNode_metering a _ hs
  · have counted := setNode_metering a { s.node a with tapCount := some k } hs
    refine ite_closed ?_ (post_metering _ _ ?_)
    all_goals exact ite_closed (orphanTaps_metering a k (setNode_metering a _ counted)) counted

theorem takeStatus_metering (i : Nat) (st : TapStatus) (hs : MeteringLaw s) : MeteringLaw (takeStatus i st s) := by
  unfold takeStatus
  simp only []
  split
  · exact reportRunning_metering i _ (reportLockout_metering i _ hs)
  · exact reportLockout_metering i _ hs

theorem takeStatuses_metering (a : Nat) (l : List TapStatus) (i : Nat) (hs : MeteringLaw s) :
    MeteringLaw (takeStatuses a i l s) := by
  induction l generalizing i s with
  | nil => exact hs
  | cons st rest ih => exact ih (i + 1) (takeStatus_metering _ st hs)

theorem takeEvent_metering (a : Nat) (e : Event) (hs : MeteringLaw s) : MeteringLaw (takeEvent a e s) := by
  refine ite_closed ?_ hs
  have taken : MeteringLaw (s.modNode a fun n => { n with lastTaken := some e.number }) := hs
  cases e.body with
  | ask z => exact ask_metering _ z taken
  | done token pulses fast x c => exact finishPour_metering _ token pulses fast x c taken

theorem closeSilent_metering (a : Nat) (l : List TapStatus) (i : Nat) (hs : MeteringLaw s) : MeteringLaw (closeSilent a i l s) := by
  induction l generalizing i s with
  | nil => exact hs
  | cons st rest ih => exact ih (i + 1) (ite_closed (closeLost_metering _ hs) hs)

theorem handleReply_metering (p : Poll) (r : BusReply) (hs : MeteringLaw s) : MeteringLaw (handleReply p r s) := by
  have found : MeteringLaw (confirmPoll p (findNode p.address (s.modNode p.address fun n => { n with misses := 0 }))) :=
    ite_closed (P := MeteringLaw) hs hs
  have status := takeStatuses_metering p.address r.taps 0 (takeTapCount_metering p.address r.taps.length found)
  have events := foldl_closed (fun _ e hu => takeEvent_metering p.address e hu) r.events _ status
  exact ite_closed (closeSilent_metering p.address r.taps 0 events) events

theorem receiveReply_metering (b : List Byte) (hs : MeteringLaw s) : MeteringLaw (receiveReply b s) := by
  have missed := missExchange_metering hs
  unfold receiveReply
  split
  · exact hs
  · exact hs
  · split
    · exact missed
    · exact ite_closed (nextPoll_metering _ (handleReply_metering _ _ hs)) (ite_closed hs missed)

theorem emptyRoundEnds_metering (hs : MeteringLaw s) : MeteringLaw (emptyRoundEnds s) := by
  unfold emptyRoundEnds
  split
  · exact metering_of_pour (startRound_pour _) hs
  · exact hs
  · exact hs

theorem assignTap_metering (i b : Nat) (hs : MeteringLaw s) : MeteringLaw (assignTap i b s) := by
  have set : MeteringLaw (s.modTap i fun r => { r with configured := true, bar := b }) := setTap_metering_same i rfl hs
  exact ite_closed (recomputeThreshold_metering _ set) set

theorem unassignTap_metering (i : Nat) (hs : MeteringLaw s) : MeteringLaw (unassignTap i s) :=
  metering_of_pour (unassignTap_pour i s) (setTap_metering_same i rfl hs)

/-- A calibration leaves the learned overrun or sets it to 0 (R125). -/
theorem applyCal_metering (m : Meter) (g o : Nat) (r : Bool) (hs : MeteringLaw s) : MeteringLaw (applyCal m g o r s) := by
  cases m with
  | tap i =>
    refine recomputeThreshold_metering _ (setTap_metering i (fun ⟨next, overrun, budget⟩ => ⟨next, ?_, budget⟩) hs)
    show (if r then 0 else (s.tap i).overrun) ≤ 300
    split
    · exact Nat.zero_le _
    · exact overrun
  | line n => exact hs
  | circuit c => exact hs

end Sys2Proof.Machine
end

section
/-! ### Every step keeps the figures of metering in their ranges (O56) -/

namespace Sys2Proof.Machine

open Sys2Proof Sys2Proof.Safety

variable {s : State}

/-! #### Requests -/

/-- A decision between two that keep the law keeps it; a refusal keeps it because it leaves the state. -/
theorem decision_ite_metering {c : Prop} [Decidable c] {d e : Decision} (hd : MeteringLaw d.state) (he : MeteringLaw e.state) :
    MeteringLaw (if c then d else e).state := by
  split
  · exact hd
  · exact he

theorem lineHoldApply_metering (n : Nat) (stop : Bool) (hs : MeteringLaw s) : MeteringLaw (decideLineHoldApply n stop s).state := by
  have held := changeHolds_closed metering_cleaning n { (s.line n).holds with host := true } s hs
  exact decision_ite_metering hs (decision_ite_metering hs (ite_closed (stopLine_metering n held) held))

theorem lineClear_metering (n : Nat) (hs : MeteringLaw s) : MeteringLaw (decideLineClear n s).state := by
  have cleared := metering_of_onlyLine (clearLine_onlyLine n s) (metering_of_pour (removeKegs_pour n s) hs)
  exact decision_ite_metering hs (decision_ite_metering hs (decision_ite_metering hs cleared))

theorem routeWrite_metering (m first : Nat) (es : List RouteEntry) (hs : MeteringLaw s) :
    MeteringLaw (decideRouteWrite m first es s).state := by
  unfold decideRouteWrite
  repeat' split
  · exact hs
  · exact hs
  · exact metering_of_taps (fun i hi => by
      simp only [State.tap, accept, acceptWith, setMap_taps]
      exact hi) hs
  · exact hs

theorem resumeCircuit_metering (c : Circuit) (hs : MeteringLaw s) : MeteringLaw (resumeCircuit c s) := by
  have running : MeteringLaw (s.modCircuit c fun r => { r with state := .running, pauseCause := none }) := hs
  unfold resumeCircuit
  split
  · exact completeStep_closed metering_cleaning c _ _ running
  · exact nextStep_closed metering_cleaning c _ running

theorem queueLine_metering (n p : Nat) (hs : MeteringLaw s) : MeteringLaw (queueLine n p s) := by
  have noted : MeteringLaw (State.modLine n (fun l => { l with preDrain := some l.state })
      { s with clean := { s.clean with queue := s.clean.queue ++ [{ line := n, program := p, ready := false }] } }) := hs
  exact evalDrain_metering n (moveLine_closed metering_cleaning n .draining _ noted)

theorem withdrawLine_metering (n : Nat) (hs : MeteringLaw s) : MeteringLaw (withdrawLine n s) :=
  moveLine_closed metering_cleaning n _ _
    (show MeteringLaw { s with clean := { s.clean with queue := s.clean.queue.filter fun e => e.line ≠ n } } from hs)

theorem setChiller_metering (count points : Nat) (hs : MeteringLaw s) : MeteringLaw (setChiller count points s) := by
  have shared : ∀ c : Prop, [Decidable c] → ∀ u, MeteringLaw u → MeteringLaw (if c then u else allocate u) :=
    fun _ _ _ hu => ite_closed hu hu
  have set := shared (s.cool.points = points) { s with cool := { s.cool with
    count := count, points := points, startFaults := s.cool.startFaults.mapIdx fun i b => b && decide (i < count) } } hs
  exact ite_closed (post_metering _ _ set) set

/-- The owner's decision of any request keeps the law. -/
theorem decision_metering {i : Instr} {f : State → Decision} (hd : decisionOf i = some f) (hs : MeteringLaw s) :
    MeteringLaw (f s).state := by
  cases i <;> cases hd
  case lineHoldApply n stop => exact lineHoldApply_metering n stop hs
  case lineClear n => exact lineClear_metering n hs
  case routeWrite m first es => exact routeWrite_metering m first es hs
  case lineSet n c => exact decision_ite_metering hs (metering_of_onlyLine (lineSetState_onlyLine n c s) hs)
  case lineHoldRelease n c =>
    exact decision_ite_metering hs (decision_ite_metering hs (changeHolds_closed metering_cleaning n _ s hs))
  case kegAdd n id p v b =>
    exact decision_ite_metering hs (decision_ite_metering hs (decision_ite_metering hs (decision_ite_metering hs
      (metering_of_onlyLine addKeg_onlyLine hs))))
  case kegRemove n id =>
    exact decision_ite_metering hs (decision_ite_metering hs (decision_ite_metering hs (metering_of_onlyLine removeKeg_onlyLine hs)))
  case kegSwitch n => exact decision_ite_metering hs (decision_ite_metering hs (retireHead_metering n .switched hs))
  case tapSetAssign i b => exact decision_ite_metering hs (assignTap_metering i b hs)
  case tapSetUnassign i b => exact decision_ite_metering hs (decision_ite_metering hs (unassignTap_metering i hs))
  case tapSetCloseOrphan i b =>
    exact decision_ite_metering hs (decision_ite_metering hs (recomputeThreshold_metering _ (closeLost_metering i hs)))
  case chillerSet c p => exact decision_ite_metering hs (decision_ite_metering hs (setChiller_metering c p hs))
  case cleanWithdraw n => exact decision_ite_metering hs (decision_ite_metering hs (withdrawLine_metering n hs))
  case returnToService n =>
    exact decision_ite_metering hs (decision_ite_metering hs (moveLine_closed metering_cleaning n .priming (s.modLine n _) hs))
  case totalsClear => exact decision_ite_metering (clearTotals_metering hs) hs
  case journalRelease n => exact decision_ite_metering hs (releaseRecords_metering _ hs)
  case watchClear w => exact decision_ite_metering hs (replaceWatch_metering w _ hs)
  case routeSwap =>
    unfold decideRouteSwap
    refine decision_ite_metering hs ?_
    split
    · exact hs
    · simp only [acceptWith_state]
      exact swapMaps_metering hs
  case cleanRequest n p =>
    unfold decideCleanRequest
    split
    · exact hs
    · exact queueLine_metering n p hs
  case cleanContinue c =>
    unfold decideCleanContinue
    split
    · exact hs
    · exact decision_ite_metering hs (resumeCircuit_metering _ hs)
  case cleanAbort c =>
    unfold decideCleanAbort
    split
    · exact hs
    · exact decision_ite_metering hs (finishBatch_closed metering_cleaning _ _ s hs)
  case watchSet w e =>
    unfold decideWatchSet
    refine decision_ite_metering hs ?_
    split
    · exact hs
    · exact replaceWatch_metering w _ hs
  case calWrite k n g o r =>
    unfold decideCalWrite
    refine decision_ite_metering hs ?_
    split
    · exact hs
    · refine decision_ite_metering hs ?_
      split
      · exact hs
      · exact record_metering _ (applyCal_metering _ g o r hs)
  -- the other requests leave every tap
  all_goals
    simp only [decideStatus, decideNoticePace, decideTimeSet, decideTimeGet, decideRestart, decideFactoryClear,
      decideProductRegister, decideProductRemove, decideProductRead, decideLineGet, decideKegList, decideTapGet,
      decideSizeSetWrite, decideSizeSetRead, decideFreeLimitsWrite, decideFreeLimitsRead, decideRouteRead,
      decideRouteCheck, decideBarStateSet, decideBarStateClear, decideBarStateToggle, decideBarState, decideTrunkSet,
      decideSurgeAdd, decideSurgeRemove, decideCoolingGet, decideProgramLoad, decideProgramRead, decideCleanStop, decideReconcile,
      decideCircuitGet, decideJournalRead, decideTotalsRead, decideHistogramRead, decideWatchGet, decideCalOpen, decideCalRead]
    repeat' split
  all_goals exact hs

/-! #### The link (R173 to R177) -/

theorem setLink_metering (l : Link) (hs : MeteringLaw s) : MeteringLaw (s.setLink l) := hs

theorem transmit_metering (hs : MeteringLaw s) : MeteringLaw (transmit s) := by
  obtain ⟨l, hl⟩ := transmit_eq_setLink s
  rw [hl]
  exact setLink_metering l hs

theorem event_metering {f : State → State} (hf : ∀ u, MeteringLaw u → MeteringLaw (f u)) (hs : MeteringLaw s) :
    MeteringLaw (event f s) :=
  ite_closed (transmit_metering (hf s hs)) hs

theorem receiveFrame_metering (kind tag : Byte) {f : State → Decision} (hf : ∀ u, MeteringLaw u → MeteringLaw (f u).state)
    (hs : MeteringLaw s) : MeteringLaw (receiveFrame kind tag f s) := by
  have hunts : MeteringLaw (huntAgain s) := hs
  have decided := hf _ hunts
  exact ite_closed (ite_closed hunts hunts) (setLink_metering _ (ite_closed decided decided))

theorem dispatchFrame_metering (kind tag : Byte) (body : List Byte) (hs : MeteringLaw s) :
    MeteringLaw (dispatchFrame kind tag body s).state := by
  unfold dispatchFrame
  repeat' split
  · exact hs
  · exact hs
  · exact hs
  · unfold decideSpelled
    split
    · exact decision_metering ‹_› hs
    · exact hs

theorem receiveWhole_metering (kind tag : Byte) (body : List Byte) (hs : MeteringLaw s) : MeteringLaw (receiveWhole kind tag body s) :=
  ite_closed hs (receiveFrame_metering kind tag (fun _ hu => dispatchFrame_metering kind tag body hu) hs)

theorem receiveByte_metering (b : Byte) (hs : MeteringLaw s) : MeteringLaw (receiveByte b s) := by
  unfold receiveByte
  split
  · exact ite_closed hs hs
  · exact hs
  · exact ite_closed hs hs
  · refine ite_closed hs ?_
    unfold frameRead
    split
    · exact ite_closed (receiveWhole_metering _ _ _ hs) hs
    · exact hs

theorem frameArrives_metering (bytes : List Byte) (e : Bool) (hs : MeteringLaw s) : MeteringLaw (frameArrives bytes e s) := by
  have read : MeteringLaw (receiveBytes bytes s) := foldl_closed (fun _ b hu => receiveByte_metering b hu) bytes s hs
  exact ite_closed (ite_closed read (setLink_metering _ (setLink_metering _ read))) read

/-! #### Stops and starts -/

/-- A restart orphans pours and resolves routes, which the law does not read (R46). -/
theorem restart_metering (straps : Straps) : MeteringLaw s → MeteringLaw (restart straps s) :=
  metering_of_taps fun i => tapOk_of_metered (by
    by_cases hi : i < 128
    · rw [restart_tap s straps hi]
      exact (orphan_metered (s.tap i) :)
    · rw [State.tap_of_ge (Nat.not_lt.mp hi), State.tap_of_ge (Nat.not_lt.mp hi)])

theorem coldStart_metering (cause : StartCause) (straps : Straps) (s : State) : MeteringLaw (coldStart cause straps s) :=
  (meteringLaw_iff _).mpr fun i => by
    rw [coldStart_tap]
    exact tapOk_coldTap

theorem beginStart_metering (cause : StartCause) (straps : Straps) (cut : Option StartCut) (hs : MeteringLaw s) :
    MeteringLaw (beginStart cause straps cut s) := by
  cases cut with
  | some x => exact hs
  | none =>
    cases cause with
    | restart => exact restart_metering straps hs
    | retentionLost => exact coldStart_metering _ straps s
    | factoryClear => exact coldStart_metering _ straps s

theorem replyEnds_metering (straps : Straps) (cut : Option StartCut) (hs : MeteringLaw s) : MeteringLaw (replyEnds straps cut s) := by
  unfold replyEnds
  split
  · exact ite_closed (beginStart_metering _ straps cut hs) hs
  · refine event_metering (fun u hu => ?_) hs
    unfold replySent
    split
    all_goals exact hu

theorem powerUp_metering (ok : Bool) (straps : Straps) (cut : Option StartCut) (hs : MeteringLaw s) :
    MeteringLaw (powerUp ok straps cut s) :=
  ite_closed hs (ite_closed hs (beginStart_metering _ straps cut hs))

theorem releaseReset_metering (straps : Straps) (cut : Option StartCut) (hs : MeteringLaw s) :
    MeteringLaw (releaseReset straps cut s) :=
  ite_closed hs (ite_closed (beginStart_metering _ straps cut hs) hs)

/-! #### Cooling and the age check -/

theorem setStore_metering (c : Store) (hs : MeteringLaw s) : MeteringLaw { s with store := c } := hs

theorem ageCheck_metering (hs : MeteringLaw s) : MeteringLaw (ageCheck s) := by
  have checked := foldl_closed (fun u n => metering_of_onlyLine (checkDueAge_onlyLine n u)) (List.range 48) s hs
  exact ite_closed (setStore_metering _ checked) hs

theorem releaseExpiry_metering (n : Nat) (hs : MeteringLaw s) : MeteringLaw (releaseExpiry n s) := by
  have timer : MeteringLaw (s.modTrunk n fun t => { t with releaseTimer := 0 }) := hs
  exact ite_closed
    (foldl_closed (fun _ i hu => ite_closed (changeHolds_closed metering_cleaning i _ _ hu) hu) _ _ timer) hs

theorem stageStep_metering (hs : MeteringLaw s) : MeteringLaw (stageStep s) := by
  unfold stageStep
  simp only []
  refine ite_closed ?_ (ite_closed ?_ hs)
  all_goals
    split
    · exact ite_closed hs hs
    · exact hs

theorem controlPeriod_metering (hs : MeteringLaw s) : MeteringLaw (controlPeriod s) := stageStep_metering hs

theorem sampleTrunk_metering (n : Nat) (reading : Option Int) (hs : MeteringLaw s) : MeteringLaw (sampleTrunk n reading s) := by
  unfold sampleTrunk
  simp only []
  split
  · exact ite_closed hs hs
  · have restored : MeteringLaw (if (s.trunk n).sensorFault then
        post (.trunk n) .trunkSensorRestored (s.setTrunk n ((s.trunk n).sampled ‹_›)) else s.setTrunk n ((s.trunk n).sampled ‹_›)) :=
      ite_closed hs hs
    exact ite_closed (post_metering _ _ restored) restored

theorem sampleBath_metering (reading : Option Int) (hs : MeteringLaw s) : MeteringLaw (sampleBath reading s) := by
  have guarded : ∀ v u, MeteringLaw u → MeteringLaw (freezeGuard v u) := fun _ _ hu =>
    ite_closed (ite_closed hu hu) (ite_closed hu hu)
  unfold sampleBath
  split
  · exact ite_closed hs hs
  · exact guarded _ _ (ite_closed hs hs)

theorem sampleAll_metering (returns : Vector (Option Int) 12) (bath : Option Int) (hs : MeteringLaw s) :
    MeteringLaw (sampleAll returns bath s) := by
  have second : MeteringLaw (coolingSecond s) := ite_closed (P := MeteringLaw) hs hs
  have first : MeteringLaw (firstFaultReading (coolingSecond s)) := ite_closed second second
  exact sampleBath_metering bath (foldl_closed (fun _ n hu => sampleTrunk_metering n _ hu) _ _ first)

theorem stageFails_metering (i : Nat) (hs : MeteringLaw s) : MeteringLaw (stageFails i s) := by
  have switched : MeteringLaw (if (s.stage i).running then allocate (switchStage i false s) else s) := ite_closed hs hs
  exact ite_closed hs (post_metering _ _ switched)

/-! #### The step -/

/-- An event that leads to `t` leads to a state that has the law. -/
theorem exec_event_metering {i : Instr} (hd : decisionOf i = none) {t : State} (ht : exec i s = .next t) (hs : MeteringLaw s) :
    MeteringLaw t := by
  cases i <;> cases hd
  case unknownRequest k g b => cases ht; exact event_metering (fun _ => receiveWhole_metering k g b) hs
  case busyReply k g b => cases ht; exact event_metering (fun _ => receiveWhole_metering k g b) hs
  case frameDiscarded f => cases ht; exact event_metering (fun _ => frameArrives_metering _ _) hs
  case interByteTimeout => cases ht; exact event_metering (fun _ hu => ite_closed hu hu) hs
  case startMarkerReceived => cases ht; exact event_metering (fun _ => receiveByte_metering _) hs
  case replyTransmitted x => cases ht; exact replyEnds_metering _ _ hs
  case noticeTransmitted =>
    cases ht
    refine event_metering (fun u hu => ?_) hs
    unfold noticeSent
    split
    all_goals exact hu
  case noticePaceWaitEnd => cases ht; exact event_metering (fun _ hu => hu) hs
  case clockSecond => cases ht; exact hs
  case cleaningDueAgeCheck => cases ht; exact event_metering (fun _ => ageCheck_metering) hs
  case mainPowerFail => cases ht; exact hs
  case backupSupplyBelowMinimum => cases ht; exact ite_closed hs hs
  case powerUp b x => cases ht; exact powerUp_metering b _ _ hs
  case resetAsserted => cases ht; exact hs
  case resetReleased x => cases ht; exact releaseReset_metering _ _ hs
  case replyWindowExpiry => cases ht; exact event_metering (fun _ => missExchange_metering) hs
  case replyByteGapTimeout => cases ht; exact event_metering (fun _ => missExchange_metering) hs
  case replyFormatBroken => cases ht; exact event_metering (fun _ => missExchange_metering) hs
  case replyReceived b => cases ht; exact event_metering (fun _ => receiveReply_metering b) hs
  case emptyRoundExpiry => cases ht; exact event_metering (fun _ => emptyRoundEnds_metering) hs
  case foamOnBeerTrip n =>
    cases ht
    exact event_metering (fun _ => detectorTrip_metering n) (show MeteringLaw (setDetectorPin n false s) from hs)
  case detectorRearm n =>
    cases ht
    exact event_metering (fun _ hu => hu) (show MeteringLaw (setDetectorPin n true s) from hs)
  case cellarMeterPulse n => cases ht; exact event_metering (fun _ => cellarPulse_metering n) hs
  case sensorSample r b => cases ht; exact event_metering (fun _ => sampleAll_metering r b) hs
  case alarmTimerExpiry n => cases ht; exact event_metering (fun _ hu => ite_closed hu hu) hs
  case releaseTimerExpiry n => cases ht; exact event_metering (fun _ => releaseExpiry_metering n) hs
  case controlPeriodExpiry => cases ht; exact event_metering (fun _ => controlPeriod_metering) hs
  case dutyWindowStart => cases ht; exact event_metering (fun _ hu => hu) hs
  case valveDutyExpiry n => cases ht; exact event_metering (fun _ hu => ite_closed hu hu) hs
  case stageFault i =>
    simp only [exec, execStageFault] at ht
    split at ht <;> cases ht
    · exact hs
    · exact event_metering (fun _ => stageFails_metering i) (show MeteringLaw (setStagePin i true s) from hs)
  case stageRestored i =>
    simp only [exec, execStageRestored] at ht
    split at ht <;> cases ht
    · exact event_metering (fun _ hu => ite_closed hu hu) (show MeteringLaw (setStagePin i false s) from hs)
    · exact hs
  case circuitMeterPulse c => cases ht; exact event_metering (circuitPulse_closed metering_cleaning c) hs
  case conductivityReading c r => cases ht; exact event_metering (conductivity_closed metering_cleaning c r) hs
  case supplyLow c u b =>
    cases ht
    exact event_metering (fun _ hu => ite_closed (supplyFault_closed metering_cleaning c u _ hu) hu) (by cases u <;> exact hs)
  case flowTimerExpiry c => cases ht; exact event_metering (flowExpiry_closed metering_cleaning c) hs
  case timedStepExpiry c => cases ht; exact event_metering (timedExpiry_closed metering_cleaning c) hs
  case calSwitchOff b =>
    cases ht
    exact event_metering (fun _ hu => ite_closed hu hu) (show MeteringLaw (setCalSwitch (!b) s) from hs)
  case calWindowTimeout => cases ht; exact event_metering (fun _ hu => hu) hs

/-- A command that leads to `t` leads to a state that has the law. -/
theorem exec_metering (i : Instr) {t : State} (ht : exec i s = .next t) (hs : MeteringLaw s) : MeteringLaw t := by
  cases hd : decisionOf i with
  | some f =>
    obtain ⟨k, hk⟩ := exec_of_decision hd s
    rw [hk] at ht
    cases ht
    exact event_metering (fun _ => receiveFrame_metering _ _ fun _ => decision_metering hd) hs
  | none => exact exec_event_metering hd ht hs

/-- Settles O56: the grant, the learned overrun and the calibration keep their ranges, and nothing else changes what the law reads. -/
theorem stepKeepsMetering : Obligations.StepKeepsMetering := by
  intro s t hs ht
  unfold step at ht
  split at ht
  · cases ht
    exact hs
  · exact exec_metering _ ht hs

end Sys2Proof.Machine
end

section
/-! ### The transmitter and the notices (O8) -/

namespace Sys2Proof.Machine

open Sys2Proof Sys2Proof.Safety

/-! #### What a free transmitter chooses (R177, R182, R183) -/

section transmitter

variable {s : State} (idle : s.link.tx = .idle)
include idle

theorem transmit_reply (held : s.link.slot.isSome = true) : transmit s = { s with link := { s.link with tx := .reply } } := by
  rw [transmit_of_slot held, if_pos idle]
  rfl

variable (free : s.link.slot = none)
include free

theorem transmit_busyReply (waits : s.link.busy.isSome = true) : transmit s = { s with link := { s.link with tx := .busyReply } } := by
  rw [transmit, if_pos idle, free, if_neg (by decide), if_pos waits]
  rfl

theorem transmit_sends (none_waits : s.link.busy = none) : transmit s = sendNotice s := by
  rw [transmit, if_pos idle, free, if_neg (by decide), none_waits, if_neg (by decide)]

end transmitter

theorem sendNotice_begins {s : State} {n : Notice} {rest : List Notice} (oldest : s.link.notices = n :: rest)
    (pace : s.link.starts < s.link.pace) : sendNotice s = { s with link := { s.link with
      notices := rest, starts := s.link.starts + 1, tx := .notice { notice := n, state := noticeState s n } } } := by
  unfold sendNotice
  simp only [oldest, if_pos pace]
  rfl

theorem sendNotice_waits {s : State} (h : s.link.notices = [] ∨ s.link.pace ≤ s.link.starts) : sendNotice s = s := by
  unfold sendNotice
  split
  · rfl
  · rename_i pending
    have full : s.link.pace ≤ s.link.starts := h.resolve_left fun none_pending => by simp [none_pending] at pending
    exact if_neg (Nat.not_lt.mpr full)

/-! #### A posting merges (R181) -/

/-- A posting keeps the order of the kinds and subjects; a new one joins the tail. -/
theorem mergeNotice_keys (key : NoticeKey) (cause : NoticeCause) (l : List Notice) : (mergeNotice key cause l).map (·.key)
    = if key ∈ l.map (·.key) then l.map (·.key) else l.map (·.key) ++ [key] := by
  induction l with
  | nil => rfl
  | cons n rest ih =>
    by_cases h : n.key = key
    · simp [mergeNotice, h]
    · have other : ¬ key = n.key := fun hk => h hk.symm
      simp only [mergeNotice, if_neg h, List.map_cons, ih, List.mem_cons, other, false_or]
      split <;> rfl

/-! #### The state a notice carries (R182, R184) -/

theorem kegNoticeState_empty {l : Line} (h : l.chain = []) : kegNoticeState l = .keg 0 0 0 0 0 := by
  unfold kegNoticeState
  rw [h]

theorem kegNoticeState_head {l : Line} {k : Keg} {rest : List Keg} (h : l.chain = k :: rest) :
    kegNoticeState l = .keg (rest.length + 1) k.id k.coupler (k.frozen + (k.pulses * l.gain + 500) / 1000) k.poured := by
  unfold kegNoticeState
  simp only [h, drawnVolume_eq, List.length_cons]

theorem lineNoticeState_eq (l : Line) : lineNoticeState l
    = .line l.state (if l.state = .draining ∨ l.state = .queued then l.preDrain else none) l.holds l.mark l.foamAlert l.inFlight
        (if l.state = .priming then some l.primeProgress else none) l.softAgeNoted l.softVolumeNoted := by
  simp only [lineNoticeState, Bool.or_eq_true, decide_eq_true_eq]

theorem remainingStock_eq (l : Line) :
    remainingStock l = (l.chain.map fun k => k.nominal - (k.frozen + (k.pulses * l.gain + 500) / 1000)).sum := by
  simp only [remainingStock, drawnVolume_eq]

theorem rationed_eq (l : Line) : rationed l = decide (l.stock = .critical ∧ l.config.ration = true) := by
  simp [rationed]

theorem stagesRunningOf_getElem (s : State) (i : Fin 4) : (stagesRunningOf s)[i] = (s.stage i.val).running := by
  simp [stagesRunningOf, State.stage]

theorem stagesAvailableOf_getElem (s : State) (i : Fin 4) :
    (stagesAvailableOf s)[i] = (decide (i.val < s.cool.count) && !s.pins.stageFault[i]) := by
  simp [stagesAvailableOf, stageAvailable]

/-- Settles O8: the choices of the transmitter, the merged list, and what each kind of notice reads. -/
theorem noticesPostedAndSent : Obligations.NoticesPostedAndSent := by
  refine ⟨fun s => ⟨transmit_of_busy, transmit_reply, fun idle free => ⟨transmit_busyReply idle free, fun quiet => ?_⟩⟩,
    fun key cause s => ?_, fun cause s => ?_⟩
  · rw [transmit_sends idle free quiet]
    exact ⟨fun n rest => sendNotice_begins, sendNotice_waits⟩
  · exact ⟨rfl, mergeNotice_keys key cause _, mem_mergeNotice_self _ _ _, fun n => mem_mergeNotice_of_ne⟩
  · have chiller := fun i => And.intro (stagesRunningOf_getElem s i) (stagesAvailableOf_getElem s i)
    refine ⟨fun n => ⟨lineNoticeState_eq _, kegNoticeState_empty, fun k rest => kegNoticeState_head, ?_⟩, fun a => rfl, fun c => rfl,
      fun n => rfl, ⟨_, _, rfl, chiller⟩, rfl, fun w => rfl, rfl⟩
    simp only [noticeState, remainingStock_eq, rationed_eq]

end Sys2Proof.Machine
end

section
/-! ### A missed exchange and the poll that follows (O30) -/

namespace Sys2Proof.Machine

open Sys2Proof Sys2Proof.Safety

/-- The three ways in which an exchange is missed (R74, R194). -/
theorem exec_missed {c : Instr} {s : State} (hc : c = .replyWindowExpiry ∨ c = .replyByteGapTimeout ∨ c = .replyFormatBroken)
    (takes : s.takesEvents = true) : exec c s = .next (transmit (missExchange s)) := by
  rcases hc with rfl | rfl | rfl
  all_goals exact congrArg _ (event_of_takes takes)

/-- Nothing carried: every item of the list waits again (R77). -/
theorem markCarried_zero : ∀ q : List QueuedItem, markCarried 0 q = q.map fun x => { x with carried := false }
  | [] => rfl
  | _ :: rest => congrArg _ (markCarried_zero rest)

theorem missExchange_outside {s : State} (h : ∀ p, s.bus.phase ≠ .exchange p) : missExchange s = s := by
  unfold missExchange
  split
  · exact absurd ‹_› (h _)
  · rfl
  · rfl

/-- The part with the items of the node of address `a` uncarried. -/
def uncarried (a : Nat) (s : State) : State :=
  s.setNode a { s.node a with items := (s.node a).items.map fun q => { q with carried := false } }

theorem missExchange_exchange {s : State} {p : Poll} (hp : s.bus.phase = .exchange p) :
    missExchange s = nextPoll p.address (countMiss p.address (uncarried p.address s)) := by
  unfold missExchange
  simp only [hp, State.modNode_eq, markCarried_zero, uncarried]

/-- The record of a node that has become LOST (R85). -/
def lostNode (n : Node) : Node :=
  { n with state := .lost, misses := 3, items := [], lastTaken := none, freshDue := true, setupDue := true }

section miss

variable {a : Nat} {s : State} (ha : 1 ≤ a) (h32 : a ≤ 32)
include ha h32

theorem uncarried_node :
    (uncarried a s).node a = { s.node a with items := (s.node a).items.map fun q => { q with carried := false } } :=
  State.node_setNode_at ha h32 _ _

/-- A node that is not PRESENT counts no miss (R85). -/
theorem missed_other (h : (s.node a).state ≠ .present) : countMiss a (uncarried a s) = uncarried a s := by
  unfold countMiss
  rw [uncarried_node ha h32]
  exact if_pos h

/-- A PRESENT node counts its first and second miss (R85). -/
theorem missed_again (h : (s.node a).state = .present) (few : (s.node a).misses + 1 < 3) :
    countMiss a (uncarried a s) = s.setNode a { s.node a with
      misses := (s.node a).misses + 1, items := (s.node a).items.map fun q => { q with carried := false } } := by
  unfold countMiss
  simp only [State.modNode_eq, uncarried_node ha h32]
  rw [if_neg (not_not_intro h), if_pos (show _ < Config.missLimit from few), uncarried, setNode_setNode]

/-- At the third miss in a row a PRESENT node is LOST (R85). -/
theorem missed_third (h : (s.node a).state = .present) (third : 3 ≤ (s.node a).misses + 1) :
    countMiss a (uncarried a s) = post (.node a) .nodeLost (orphanTaps a 0 (s.setNode a (lostNode (s.node a)))) := by
  unfold countMiss loseNode
  simp only [State.modNode_eq, uncarried_node ha h32]
  rw [if_neg (not_not_intro h), if_neg (show ¬ _ < Config.missLimit from Nat.not_lt.mpr third), uncarried, setNode_setNode]
  rfl

/-- What the loss of a node does: its record, the pours of its taps, and its notice (R85). -/
theorem lost_spec : let u := post (.node a) .nodeLost (orphanTaps a 0 (s.setNode a (lostNode (s.node a))))
    u.node a = lostNode (s.node a)
      ∧ (∀ i, i < 128 → u.tap i = if i / 4 + 1 = a
          then { s.tap i with pour := (s.tap i).pour.map fun q => { q with phase := .orphaned } } else s.tap i)
      ∧ (∀ b, 1 ≤ b → b ≠ a → u.node b = s.node b)
      ∧ u = { s with
          pour := { s.pour with taps := u.pour.taps }, bus := { s.bus with nodes := u.bus.nodes }
          link := { s.link with notices := mergeNotice (.node a) .nodeLost s.link.notices } } := by
  have frame := orphanTaps_frame a 0 (s.setNode a (lostNode (s.node a)))
  have taps := fun i (hi : i < 128) => orphanTaps_tap (k := 0) (s := s.setNode a (lostNode (s.node a))) ha h32 hi
  generalize orphanTaps a 0 _ = o at frame taps
  have node : ∀ b, o.node b = (s.setNode a (lostNode (s.node a))).node b := State.node_congr (by rw [frame])
  refine ⟨(node a).trans (State.node_setNode_at ha h32 _ _), fun i hi => (taps i hi).trans ?_,
    fun b hb hne => (node b).trans (State.node_setNode_ne ha hb hne _ _), by rw [frame]; rfl⟩
  simp only [Nat.zero_le, and_true]
  rfl

end miss

/-- Settles O30: the miss is counted by the node's state, and the next poll follows. -/
theorem missedExchange : Obligations.MissedExchange := by
  intro c s hc takes
  refine ⟨fun outside => ?_, fun p hp ha h32 => ?_, fun a v _ _ => nextPoll_spec a v, fun a n => rfl⟩
  · rw [exec_missed hc takes, missExchange_outside outside]
  · refine ⟨countMiss p.address (uncarried p.address s), by rw [exec_missed hc takes, missExchange_exchange hp], ?_⟩
    have others : ∀ n b, 1 ≤ b → b ≠ p.address → (s.setNode p.address n).node b = s.node b := fun n b hb hne =>
      State.node_setNode_ne ha hb hne s n
    by_cases present : (s.node p.address).state = .present
    · by_cases few : (s.node p.address).misses + 1 < 3
      · rw [missed_again ha h32 present few]
        exact ⟨fun h => absurd present h, fun _ _ => ⟨State.node_setNode_at ha h32 _ _, rfl, rfl⟩,
          fun _ h => absurd few (Nat.not_lt.mpr h), others _, rfl⟩
      · rw [missed_third ha h32 present (Nat.not_lt.mp few)]
        obtain ⟨own, taps, rest, frame⟩ := lost_spec (s := s) ha h32
        exact ⟨fun h => absurd present h, fun _ h => absurd h few, fun _ _ => ⟨own, taps, congrArg State.link frame⟩, rest, frame⟩
    · rw [missed_other ha h32 present]
      exact ⟨fun _ => ⟨uncarried_node ha h32, rfl, rfl⟩, fun h => absurd h present, fun h => absurd h present, others _, rfl⟩

end Sys2Proof.Machine
end

section
/-! ### CAL WRITE (O40) -/

namespace Sys2Proof.Machine

open Sys2Proof Sys2Proof.Safety

/-! #### The checks in their order (R123) -/

/-- A meter kind and number name a meter of the part. -/
def MeterNamed (kind n : Nat) : Prop := (kind = 0 ∧ n ≤ 127) ∨ (kind = 1 ∧ n ≤ 47) ∨ (kind = 2 ∧ n ≤ 1)

/-- Gain and offset of a CAL WRITE are in their ranges. -/
def FiguresFit (gain offset : Nat) : Prop := 500 ≤ gain ∧ gain ≤ 60000 ∧ offset ≤ 255

theorem figuresFit_iff (gain offset : Nat) :
    FiguresFit gain offset ↔ ¬ (gain < 500 || 60000 < gain || 255 < offset) = true := by
  simp only [FiguresFit, Bool.or_eq_true, decide_eq_true_eq]
  omega

/-- The circuit of a meter number. -/
def numberedCircuit (n : Nat) : Circuit := if n = 0 then .a else .b

theorem circuitNumber_numbered {n : Nat} (h : n ≤ 1) : circuitNumber (numberedCircuit n) = n := by
  obtain rfl | rfl : n = 0 ∨ n = 1 := by omega
  · rfl
  · rfl

theorem meterOf_tap {n : Nat} (h : n ≤ 127) : meterOf 0 n = some (.tap n) := if_neg (Nat.not_lt.mpr h)

theorem meterOf_line {n : Nat} (h : n ≤ 47) : meterOf 1 n = some (.line n) := if_neg (Nat.not_lt.mpr h)

theorem meterOf_circuit {n : Nat} (h : n ≤ 1) : meterOf 2 n = some (.circuit (numberedCircuit n)) := by
  obtain rfl | rfl : n = 0 ∨ n = 1 := by omega
  · rfl
  · rfl

theorem meterOf_named {kind n : Nat} (h : MeterNamed kind n) : ∃ m, meterOf kind n = some m := by
  rcases h with ⟨rfl, hn⟩ | ⟨rfl, hn⟩ | ⟨rfl, hn⟩
  · exact ⟨_, meterOf_tap hn⟩
  · exact ⟨_, meterOf_line hn⟩
  · exact ⟨_, meterOf_circuit hn⟩

theorem meterOf_unnamed {kind n : Nat} (h : ¬ MeterNamed kind n) : meterOf kind n = none := by
  unfold MeterNamed at h
  match kind with
  | 0 => exact if_pos (by omega)
  | 1 => exact if_pos (by omega)
  | 2 =>
    match n with
    | 0 => omega
    | 1 => omega
    | _ + 2 => rfl
  | _ + 3 => rfl

section decision

variable {kind n gain offset : Nat} {rReset : Bool} {s : State}

theorem decideCalWrite_closed (h : ¬ s.acct.window.isOpen = true) : decideCalWrite kind n gain offset rReset s = refuse .locked s := by
  unfold decideCalWrite
  exact if_pos (by simpa using h)

variable (isOpen : s.acct.window.isOpen = true)
include isOpen

theorem decideCalWrite_unnamed (h : ¬ MeterNamed kind n) : decideCalWrite kind n gain offset rReset s = refuse .range s := by
  unfold decideCalWrite
  rw [isOpen, meterOf_unnamed h]
  rfl

variable {m : Meter} (hm : meterOf kind n = some m)
include hm

theorem decideCalWrite_unfit (h : ¬ FiguresFit gain offset) : decideCalWrite kind n gain offset rReset s = refuse .range s := by
  unfold decideCalWrite
  rw [isOpen, hm]
  exact if_pos (not_not.mp fun inside => h ((figuresFit_iff _ _).mpr inside))

variable (fit : FiguresFit gain offset)
include fit

theorem decideCalWrite_refused {status : Status} (h : calRefusal s m = some status) :
    decideCalWrite kind n gain offset rReset s = refuse status s := by
  unfold decideCalWrite
  rw [isOpen, hm]
  exact (if_neg ((figuresFit_iff _ _).mp fit)).trans (by rw [h])

theorem decideCalWrite_accepted (h : calRefusal s m = none) : decideCalWrite kind n gain offset rReset s =
    let t := takeRecord (calRecord s m gain offset rReset) (applyCal m gain offset rReset s)
    acceptWith (.meter (meterFigures t m).1 (meterFigures t m).2.1 (meterFigures t m).2.2) t := by
  unfold decideCalWrite
  rw [isOpen, hm]
  exact (if_neg ((figuresFit_iff _ _).mp fit)).trans (by rw [h])

end decision

/-! #### What an accepted CAL WRITE does (R125) -/

/-- The notices a record leaves follow from those before it, the accounts and the time. -/
theorem takeRecord_notices_congr {s t : State} (acct : t.acct = s.acct) (store : t.store = s.store)
    (notices : t.link.notices = s.link.notices) (b : RecordBody) :
    (takeRecord b t).link.notices = (takeRecord b s).link.notices := by
  have record : t.recordOf b = s.recordOf b := by simp only [State.recordOf, State.time, acct, store]
  unfold takeRecord storeRecord noteHigh noteFull
  rw [record, acct]
  by_cases h : s.acct.stores b = true
  · simp only [h, if_true]
    split <;> simp only [post_link_notices, notices]
  · simp only [h, Bool.false_eq_true, if_false]
    split <;> simp only [post_link_notices, notices]

theorem freezeHead_eq (gain : Nat) (chain : List Keg) : freezeHead gain chain = match chain with
    | [] => []
    | k :: ks => { k with frozen := k.frozen + (k.pulses * gain + 500) / 1000, pulses := 0 } :: ks := by
  cases chain with
  | nil => rfl
  | cons k ks => exact congrArg (fun v => { k with frozen := v, pulses := 0 } :: ks) (drawnVolume_eq gain k)

section taken

variable (m : Meter) (gain offset : Nat) (rReset : Bool) (s : State)

/-- The part after an accepted CAL WRITE, before its reply. -/
def calTaken : State := takeRecord (calRecord s m gain offset rReset) (applyCal m gain offset rReset (hunting s))

/-- What a calibration leaves unchanged, whatever the meter. -/
theorem applyCal_frame (u : State) : applyCal m gain offset rReset u = { u with
    cellar := (applyCal m gain offset rReset u).cellar, pour := (applyCal m gain offset rReset u).pour
    bus := (applyCal m gain offset rReset u).bus, clean := (applyCal m gain offset rReset u).clean } := by
  cases m with
  | tap i =>
    simp only [applyCal]
    rw [recomputeThreshold_frame]
    rfl
  | line _ => rfl
  | circuit _ => rfl

/-- The record is taken, and cooling, clock and inputs stand, as do the link's records but the notices. -/
theorem calTaken_rest : let t := calTaken m gain offset rReset s
    t.acct = (takeRecord (calRecord s m gain offset rReset) s).acct ∧ t.cool = s.cool ∧ t.store = s.store ∧ t.pins = s.pins
      ∧ t.link = { (hunting s).link with notices := (takeRecord (calRecord s m gain offset rReset) s).link.notices } := by
  have frame := applyCal_frame m gain offset rReset (hunting s)
  unfold calTaken
  generalize applyCal m gain offset rReset (hunting s) = u at frame
  have acct : u.acct = s.acct := by rw [frame]; rfl
  have store : u.store = s.store := by rw [frame]; rfl
  have link : u.link = (hunting s).link := by rw [frame]
  have taken := takeRecord_frame (calRecord s m gain offset rReset) u
  refine ⟨takeRecord_acct_congr acct store _, ?_, (takeRecord_store _ u).trans store, ?_, ?_⟩
  · rw [taken, frame]
    rfl
  · rw [taken, frame]
    rfl
  · rw [taken, takeRecord_notices_congr acct store (by rw [link]; rfl), link]

/-- The plant after an accepted CAL WRITE: the record touches none of it. -/
theorem calTaken_plant : let t := calTaken m gain offset rReset s
    let u := applyCal m gain offset rReset (hunting s)
    t.cellar = u.cellar ∧ t.pour = u.pour ∧ t.bus = u.bus ∧ t.clean = u.clean :=
  ⟨takeRecord_cellar _ _, takeRecord_pour _ _, takeRecord_bus _ _, (congrArg State.clean (takeRecord_frame _ _)).trans rfl⟩

end taken

theorem rethresholded_congr {a : Nat} {old : Node} {u t : State} (taps : t.pour = u.pour) (nodes : t.bus = u.bus)
    (h : Rethresholded a old u) : Rethresholded a old t := by
  unfold Rethresholded at h ⊢
  simp only [State.tap_congr taps, State.node_congr nodes]
  exact h

section meters

variable (gain offset : Nat) (rReset : Bool) (s : State)

/-- The part with the figures of tap `n` replaced. -/
def tapCalibrated (n : Nat) : State :=
  s.setTap n { s.tap n with gain := gain, offset := offset, overrun := if rReset then 0 else (s.tap n).overrun }

/-- A tap's meter: the tap takes the figures, and the threshold of its node is computed again (R80). -/
theorem calTaken_tap {n : Nat} (hn : n < 128) : let t := calTaken (.tap n) gain offset rReset s
    t.tap n = { s.tap n with gain := gain, offset := offset, overrun := if rReset then 0 else (s.tap n).overrun }
      ∧ (∀ i, i ≠ n → t.tap i = s.tap i)
      ∧ { t.pour with taps := s.pour.taps } = s.pour ∧ t.cellar = s.cellar ∧ t.clean = s.clean
      ∧ t.bus = { s.bus with nodes := t.bus.nodes } ∧ (∀ b, 1 ≤ b → b ≠ n / 4 + 1 → t.node b = s.node b)
      ∧ Rethresholded (n / 4 + 1) (s.node (n / 4 + 1)) t := by
  obtain ⟨cellar, pour, bus, clean⟩ := calTaken_plant (.tap n) gain offset rReset s
  have applied : applyCal (.tap n) gain offset rReset (hunting s)
      = recomputeThreshold (n / 4 + 1) (tapCalibrated gain offset rReset (hunting s) n) := rfl
  have frame := recomputeThreshold_frame (n / 4 + 1) (tapCalibrated gain offset rReset (hunting s) n)
  rw [applied] at cellar pour bus clean
  have taps : ∀ i, (calTaken (.tap n) gain offset rReset s).tap i = (tapCalibrated gain offset rReset (hunting s) n).tap i := fun i =>
    (State.tap_congr pour i).trans (recomputeThreshold_tap _ i _)
  have h1 : 1 ≤ n / 4 + 1 := Nat.le_add_left 1 _
  refine ⟨(taps n).trans (State.tap_setTap_self _ _ _ hn), fun i hi => (taps i).trans (setTap_tap_ne hi _ _), ?_, ?_, ?_, ?_,
    fun b hb hne => (State.node_congr bus b).trans (recomputeThreshold_node_ne h1 hb hne),
    rethresholded_congr pour bus (recomputeThreshold_rethresholded h1 (address_le hn))⟩
  · rw [pour, frame]
    rfl
  · rw [cellar, frame]
    rfl
  · rw [clean, frame]
    rfl
  · rw [bus, frame]
    rfl

/-- A line's meter: the line takes the gain, its head keg's drawn volume frozen before (R20, R125). -/
theorem calTaken_line {n : Nat} (hn : n < 48) : let t := calTaken (.line n) gain offset rReset s
    t.line n = { s.line n with gain := gain, chain := freezeHead (s.line n).gain (s.line n).chain }
      ∧ (∀ m, m ≠ n → t.line m = s.line m) ∧ { t.cellar with lines := s.cellar.lines } = s.cellar
      ∧ t.pour = s.pour ∧ t.bus = s.bus ∧ t.clean = s.clean := by
  obtain ⟨cellar, pour, bus, clean⟩ := calTaken_plant (.line n) gain offset rReset s
  refine ⟨(State.line_congr cellar n).trans (State.line_setLine_self _ _ _ hn),
    fun m hm => (State.line_congr cellar m).trans (State.line_setLine_ne _ _ _ _ (Ne.symm hm)), ?_, pour, bus, clean⟩
  rw [cellar]
  rfl

/-- A circuit's meter: the circuit takes the figures. -/
theorem calTaken_circuit (c : Circuit) : let t := calTaken (.circuit c) gain offset rReset s
    t.clean = { s.clean with circuits := s.clean.circuits.put c { s.circuit c with gain := gain, offset := offset } }
      ∧ t.cellar = s.cellar ∧ t.pour = s.pour ∧ t.bus = s.bus := by
  obtain ⟨cellar, pour, bus, clean⟩ := calTaken_plant (.circuit c) gain offset rReset s
  exact ⟨clean, cellar, pour, bus⟩

end meters

/-! #### The request -/

section exec

variable {tag : Byte} {kind n gain offset : Nat} {rReset : Bool} {s : State} (h : Ready s) (isOpen : s.acct.window.isOpen = true)
  {m : Meter} (hm : meterOf kind n = some m) (fit : FiguresFit gain offset)
include h isOpen hm fit

theorem calWrite_refused {status : Status} (hr : calRefusal s m = some status) (hb : status ≠ .busy) :
    exec (.calWrite tag kind n gain offset rReset) s = .next (refused .calWrite tag status (hunting s)) := by
  have asked : calRefusal (hunting s) m = some status := by cases m <;> exact hr
  exact exec_refused h rfl (decideCalWrite_refused (s := hunting s) isOpen hm fit asked) hb

theorem calWrite_accepted (hr : calRefusal s m = none) : let t := calTaken m gain offset rReset s
    exec (.calWrite tag kind n gain offset rReset) s = .next (replied .calWrite tag .ok
      (.meter (meterFigures t m).1 (meterFigures t m).2.1 (meterFigures t m).2.2) t) := by
  have asked : calRefusal (hunting s) m = none := by cases m <;> exact hr
  have record : calRecord (hunting s) m gain offset rReset = calRecord s m gain offset rReset := by cases m <;> rfl
  have accepted := decideCalWrite_accepted (s := hunting s) (rReset := rReset) isOpen hm fit asked
  rw [record] at accepted
  obtain ⟨acct, -⟩ := calTaken_rest m gain offset rReset s
  exact exec_accepted h rfl accepted ((congrArg Accounts.window acct).trans (takeRecord_window s _))

end exec

/-- Settles O40: the checks in their order, then each kind of meter. -/
theorem calWrite : Obligations.CalWrite := by
  intro tag kind n gain offset rReset s h
  refine ⟨fun closed => exec_refused h rfl (decideCalWrite_closed (s := hunting s) closed), fun isOpen bad => ?_,
    fun isOpen ⟨named, fit⟩ tap pouring => ?_, fun isOpen ⟨named, fit⟩ circuit busy => ?_, fun isOpen ⟨named, fit⟩ tap idle => ?_,
    fun isOpen ⟨named, fit⟩ line => ?_, fun isOpen ⟨named, fit⟩ circuit idle => ?_⟩
  · by_cases named : MeterNamed kind n
    · obtain ⟨m, hm⟩ := meterOf_named named
      exact exec_refused h rfl (decideCalWrite_unfit (s := hunting s) isOpen hm fun fit => bad ⟨named, fit⟩)
    · exact exec_refused h rfl (decideCalWrite_unnamed (s := hunting s) isOpen named)
  · subst tap
    exact calWrite_refused h isOpen (meterOf_tap (by omega)) fit (if_pos (Option.isSome_iff_ne_none.mpr pouring)) (by decide)
  · subst circuit
    exact calWrite_refused h isOpen (meterOf_circuit (by omega)) fit (if_pos busy) (by decide)
  · subst tap
    have hn : n ≤ 127 := by omega
    obtain ⟨own, plant⟩ := calTaken_tap gain offset rReset s (Nat.lt_succ_of_le hn)
    have run := calWrite_accepted (tag := tag) (rReset := rReset) h isOpen (meterOf_tap hn) fit (by simp [calRefusal, idle])
    simp only [meterFigures, own] at run
    exact ⟨_, run, calTaken_rest _ _ _ _ s, own, plant⟩
  · subst line
    have hn : n ≤ 47 := by omega
    obtain ⟨own, plant⟩ := calTaken_line gain offset rReset s (Nat.lt_succ_of_le hn)
    have run := calWrite_accepted (tag := tag) (rReset := rReset) h isOpen (meterOf_line hn) fit rfl
    simp only [meterFigures, own] at run
    rw [freezeHead_eq] at own
    exact ⟨_, run, calTaken_rest _ _ _ _ s, own, plant⟩
  · subst circuit
    have hn : n ≤ 1 := by omega
    obtain ⟨clean, plant⟩ := calTaken_circuit gain offset rReset s (numberedCircuit n)
    have own : (calTaken (.circuit (numberedCircuit n)) gain offset rReset s).circuit (numberedCircuit n) = _ :=
      (State.circuit_congr (t := s.setCircuit _ _) clean _).trans (State.circuit_setCircuit_self s _ _)
    have run := calWrite_accepted (tag := tag) (rReset := rReset) h isOpen (meterOf_circuit hn) fit (if_neg (not_not_intro idle))
    have rest := calTaken_rest (.circuit (numberedCircuit n)) gain offset rReset s
    simp only [meterFigures, own] at run
    simp only [calRecord, circuitNumber_numbered hn] at rest
    exact ⟨_, run, rest, clean, plant⟩

end Sys2Proof.Machine
end

section
/-! ### The books: the journal and the tallies of the taps (O52, O57)

The laws of the journal and of conservation read the held records, the next number, the count of POUR and PURGE records and the
tallies of each tap: the books. `Entry` lists everything a step can do to them, and a law that every entry keeps is kept by every step. -/

namespace Sys2Proof.Machine

open Sys2Proof Sys2Proof.Safety

/-- The five tallies of a tap: its classes, what was released and what was not journaled (R97, R99, R102). -/
structure Tallies where
  portion : Tally
  free : Tally
  prime : Tally
  released : Tally
  unjournalled : Tally

def Tap.tallies (t : Tap) : Tallies := ⟨t.portion, t.free, t.prime, t.released, t.unjournalled⟩

/-- Tallies at 0 (R106). -/
def Tallies.zero : Tallies := ⟨Tally.zero, Tally.zero, Tally.zero, Tally.zero, Tally.zero⟩

/-- A pour of class `c` and volume `v` joins its class (R102). -/
def Tallies.sell (c : PourClass) (v : Nat) (x : Tallies) : Tallies :=
  match c with
  | .portion => { x with portion := x.portion.plus v }
  | .free => { x with free := x.free.plus v }
  | .prime => { x with prime := x.prime.plus v }

/-- A pour of volume `v` that the journal does not hold (R99). -/
def Tallies.fold (v : Nat) (x : Tallies) : Tallies := { x with unjournalled := x.unjournalled.plus v }

/-- The released tally of tap `i` once record `r` has left the journal (R97). -/
def Tally.release (i : Nat) (x : Tally) (r : Record) : Tally :=
  match r.body with
  | .pour p => if p.tap = i then x.plus p.volume else x
  | _ => x

theorem Tally.release_pour {r : Record} {p : PourRecord} (h : r.body = .pour p) (i : Nat) (x : Tally) :
    x.release i r = if p.tap = i then x.plus p.volume else x := by rw [Tally.release, h]

theorem Tally.release_other {r : Record} (h : ∀ p, r.body ≠ .pour p) (i : Nat) (x : Tally) : x.release i r = x := by
  unfold Tally.release
  split
  · exact absurd ‹_› (h _)
  · rfl

/-- The tallies of tap `i` once the records `gone` have left the journal (R97). -/
def Tallies.release (i : Nat) (gone : List Record) (x : Tallies) : Tallies :=
  { x with released := gone.foldl (Tally.release i) x.released }

/-- What the laws of the journal and of conservation read of the part. -/
structure Books where
  journal : List Record
  nextSeq : Nat
  pourPurge : Nat
  tap : Nat → Tallies

def State.books (s : State) : Books := ⟨s.acct.journal, s.acct.nextSeq, s.acct.pourPurge, fun i => (s.tap i).tallies⟩

/-- The journal has room for a record with body `x` (R92, R93). -/
def Books.Admits (b : Books) (x : RecordBody) : Prop :=
  b.journal.length < 4096 ∧ b.nextSeq ≤ 4294967295 ∧ (x.isPourPurge = true → b.pourPurge < 4032)

/-- The books with record `r` at the newest end (R91 to R93). -/
def Books.store (b : Books) (r : Record) : Books := { b with
  journal := b.journal ++ [r], nextSeq := b.nextSeq + 1
  pourPurge := if r.body.isPourPurge then b.pourPurge + 1 else b.pourPurge }

/-- The books with the tallies of tap `i` changed by `f`; a number above 127 names no tap. -/
def Books.change (i : Nat) (f : Tallies → Tallies) (b : Books) : Books :=
  { b with tap := fun j => if i = j ∧ j < 128 then f (b.tap j) else b.tap j }

/-- The books with the tallies of every tap replaced. -/
def Books.replaced (f : Nat → Tallies → Tallies) (b : Books) : Books :=
  { b with tap := fun j => if j < 128 then f j (b.tap j) else b.tap j }

/-- The books without their `k` oldest records (R97). -/
def Books.drop (k : Nat) (b : Books) : Books := { b with
  journal := b.journal.drop k, pourPurge := b.pourPurge - (b.journal.take k).countP fun r => r.body.isPourPurge }

/-- Everything a step can do to the books. -/
inductive Entry : Books → Books → Prop
  /-- A record other than a POUR is stored. -/
  | record {b : Books} {r : Record} : b.Admits r.body → r.seq = b.nextSeq → (∀ p, r.body ≠ .pour p) → Entry b (b.store r)
  /-- A POUR record is stored and joins its class. -/
  | pour {b : Books} {r : Record} {p : PourRecord} : b.Admits r.body → r.seq = b.nextSeq → r.body = .pour p →
      Entry b ((b.store r).change p.tap (Tallies.sell p.cls p.volume))
  /-- A POUR record is folded and joins its class. -/
  | fold {b : Books} (p : PourRecord) : ¬ b.Admits (.pour p) →
      Entry b (b.change p.tap fun x => (x.fold p.volume).sell p.cls p.volume)
  /-- The oldest records are released. -/
  | release {b : Books} (k : Nat) : Entry b ((b.drop k).replaced fun i => Tallies.release i (b.journal.take k))
  /-- The tallies are cleared while no record is held. -/
  | clear {b : Books} : b.journal = [] → Entry b (b.replaced fun _ _ => Tallies.zero)
  /-- A cold start opens new books. -/
  | cold {b : Books} : Entry b ⟨[], 1, 0, fun _ => Tallies.zero⟩

/-- Every entry keeps `L`. -/
def EntryKept (L : Books → Prop) : Prop := ∀ x y, Entry x y → L x → L y

/-! #### The law of the journal -/

/-- `JournalLaw` as a law of the books. -/
def Books.Numbered (b : Books) : Prop :=
  b.journal.map (·.seq) = List.range' (b.nextSeq - b.journal.length) b.journal.length
    ∧ b.journal.length < b.nextSeq ∧ b.nextSeq ≤ 4294967296 ∧ b.journal.length ≤ 4096
    ∧ b.pourPurge = b.journal.countP (fun r => r.body.isPourPurge) ∧ b.pourPurge ≤ 4032

theorem journalLaw_iff (s : State) : JournalLaw s ↔ s.books.Numbered := Iff.rfl

theorem numbered_store {b : Books} {r : Record} (room : b.Admits r.body) (next : r.seq = b.nextSeq) (h : b.Numbered) :
    (b.store r).Numbered := by
  obtain ⟨seqs, below, top, held, counted, few⟩ := h
  obtain ⟨place, number, pours⟩ := room
  have length : (b.journal ++ [r]).length = b.journal.length + 1 := by simp
  refine ⟨?_, ?_, ?_, ?_, ?_, ?_⟩
  · simp only [Books.store, length, List.map_append, seqs, List.map_cons, List.map_nil, next, List.range'_concat]
    rw [show b.nextSeq + 1 - (b.journal.length + 1) = b.nextSeq - b.journal.length by omega]
    simp only [Nat.one_mul, Nat.sub_add_cancel below.le]
  · simp only [Books.store, length]
    omega
  · simp only [Books.store]
    omega
  · simp only [Books.store, length]
    omega
  · simp only [Books.store, List.countP_append, List.countP_singleton, counted]
    split <;> rfl
  · simp only [Books.store]
    split
    · exact pours ‹_›
    · exact few

theorem numbered_drop (k : Nat) {b : Books} (h : b.Numbered) : (b.drop k).Numbered := by
  obtain ⟨seqs, below, top, held, counted, few⟩ := h
  have split := congrArg (List.countP fun r : Record => r.body.isPourPurge) (List.take_append_drop k b.journal)
  rw [List.countP_append] at split
  refine ⟨?_, ?_, top, ?_, ?_, ?_⟩
  · simp only [Books.drop, List.map_drop, seqs, List.length_drop, List.drop_range']
    by_cases hk : k ≤ b.journal.length
    · rw [show b.nextSeq - (b.journal.length - k) = b.nextSeq - b.journal.length + k * 1 by omega]
    · rw [show b.journal.length - k = 0 by omega, List.range'_zero, List.range'_zero]
  · simp only [Books.drop, List.length_drop]
    omega
  · simp only [Books.drop, List.length_drop]
    omega
  · simp only [Books.drop]
    omega
  · simp only [Books.drop]
    omega

theorem numbered_kept : EntryKept Books.Numbered := by
  intro x y e h
  cases e with
  | record room next _ => exact numbered_store room next h
  | pour room next _ => exact numbered_store room next h
  | fold p _ => exact h
  | release k => exact numbered_drop k h
  | clear _ => exact h
  | cold => exact ⟨rfl, by decide, by decide, by decide, rfl, by decide⟩

/-! #### The law of conservation -/

/-- Volume that a record adds to the POUR records of tap `i`. -/
def Record.volumeOf (i : Nat) (r : Record) : Nat :=
  match r.body with
  | .pour p => if p.tap = i then p.volume else 0
  | _ => 0

/-- Volume of the POUR records of tap `i` among `rs`. -/
def volumeIn (i : Nat) (rs : List Record) : Nat := (rs.map (Record.volumeOf i)).sum

theorem volumeIn_append (i : Nat) (xs ys : List Record) : volumeIn i (xs ++ ys) = volumeIn i xs + volumeIn i ys := by
  simp [volumeIn]

theorem volumeIn_cons (i : Nat) (r : Record) (rs : List Record) : volumeIn i (r :: rs) = r.volumeOf i + volumeIn i rs := rfl

theorem volumeOf_pour {i : Nat} {r : Record} {p : PourRecord} (h : r.body = .pour p) :
    r.volumeOf i = if p.tap = i then p.volume else 0 := by rw [Record.volumeOf, h]

theorem volumeOf_other {i : Nat} {r : Record} (h : ∀ p, r.body ≠ .pour p) : r.volumeOf i = 0 := by
  unfold Record.volumeOf
  split
  · exact absurd ‹_› (h _)
  · rfl

theorem heldVolume_eq (s : State) (i : Nat) : heldVolume s i = volumeIn i s.acct.journal := by
  unfold heldVolume volumeIn
  congr 1
  refine List.map_congr_left fun r _ => ?_
  unfold Record.volumeOf
  cases r.body <;> rfl

/-- No tally has reached the maximum volume (R104). -/
structure Tallies.Below (x : Tallies) : Prop where
  portion : x.portion.volume < 281474976710655
  free : x.free.volume < 281474976710655
  prime : x.prime.volume < 281474976710655
  released : x.released.volume < 281474976710655
  unjournalled : x.unjournalled.volume < 281474976710655

/-- Volume in the classes of a tap. -/
def Tallies.poured (x : Tallies) : Nat := x.portion.volume + x.free.volume + x.prime.volume

/-- Volume of a tap that the journal holds no longer, or never held. -/
def Tallies.away (x : Tallies) : Nat := x.released.volume + x.unjournalled.volume

/-- `ConservationLaw` for the taps whose tallies have not saturated: unlike the law itself, every entry keeps it. -/
def Books.Balanced (b : Books) : Prop :=
  ∀ i, i < 128 → (b.tap i).Below → (b.tap i).poured = volumeIn i b.journal + (b.tap i).away

/-- A volume below the maximum after an addition is the sum. -/
theorem plus_volume {x : Tally} {v : Nat} (h : (x.plus v).volume < 281474976710655) : (x.plus v).volume = x.volume + v := by
  simp only [Tally.plus, satAdd, Config.max48] at h ⊢
  omega

theorem sell_below {c : PourClass} {v : Nat} {x : Tallies} (h : (x.sell c v).Below) :
    x.Below ∧ (x.sell c v).poured = x.poured + v ∧ (x.sell c v).away = x.away := by
  obtain ⟨hp, hf, hr, hl, hu⟩ := h
  cases c
  case portion =>
    have := plus_volume hp
    refine ⟨⟨?_, hf, hr, hl, hu⟩, ?_, rfl⟩ <;> simp only [Tallies.sell, Tallies.poured] at * <;> omega
  case free =>
    have := plus_volume hf
    refine ⟨⟨hp, ?_, hr, hl, hu⟩, ?_, rfl⟩ <;> simp only [Tallies.sell, Tallies.poured] at * <;> omega
  case prime =>
    have := plus_volume hr
    refine ⟨⟨hp, hf, ?_, hl, hu⟩, ?_, rfl⟩ <;> simp only [Tallies.sell, Tallies.poured] at * <;> omega

theorem fold_below {v : Nat} {x : Tallies} (h : (x.fold v).Below) : x.Below ∧ (x.fold v).away = x.away + v := by
  obtain ⟨hp, hf, hr, hl, hu⟩ := h
  have := plus_volume hu
  refine ⟨⟨hp, hf, hr, hl, ?_⟩, ?_⟩ <;> simp only [Tallies.fold, Tallies.away] at * <;> omega

/-- A released tally that has not saturated has grown by what was released. -/
theorem released_volume (i : Nat) (gone : List Record) (x : Tally)
    (h : (gone.foldl (Tally.release i) x).volume < 281474976710655) :
    (gone.foldl (Tally.release i) x).volume = x.volume + volumeIn i gone := by
  induction gone generalizing x with
  | nil => rfl
  | cons r rest ih =>
    have later := ih (x.release i r) h
    have one : (x.release i r).volume = x.volume + r.volumeOf i := by
      rw [List.foldl_cons] at h
      have few : (x.release i r).volume < 281474976710655 := by omega
      by_cases hr : ∃ p, r.body = .pour p
      · obtain ⟨p, hp⟩ := hr
        rw [Tally.release_pour hp] at few ⊢
        rw [volumeOf_pour hp]
        split
        · rename_i ht
          rw [if_pos ht] at few
          exact plus_volume few
        · rfl
      · rw [Tally.release_other (not_exists.mp hr), volumeOf_other (not_exists.mp hr)]
        rfl
    rw [List.foldl_cons, later, one, volumeIn_cons, Nat.add_assoc]

theorem release_below {i : Nat} {gone : List Record} {x : Tallies} (h : (x.release i gone).Below) :
    x.Below ∧ (x.release i gone).away = x.away + volumeIn i gone := by
  obtain ⟨hp, hf, hr, hl, hu⟩ := h
  have := released_volume i gone x.released hl
  refine ⟨⟨hp, hf, hr, ?_, hu⟩, ?_⟩ <;> simp only [Tallies.release, Tallies.away] at * <;> omega

theorem balanced_kept : EntryKept Books.Balanced := by
  intro x y e h i hi below
  cases e with
  | @record r room next other =>
    have same := h i hi below
    show _ = volumeIn i (x.journal ++ [r]) + _
    rw [volumeIn_append, volumeIn_cons, volumeOf_other other]
    exact same
  | @pour r p room next body =>
    show _ = volumeIn i (x.journal ++ [r]) + _
    rw [volumeIn_append, volumeIn_cons, volumeOf_pour body]
    simp only [Books.change, Books.store] at below ⊢
    by_cases hp : p.tap = i
    · rw [if_pos ⟨hp, hi⟩] at below ⊢
      obtain ⟨before, poured, away⟩ := sell_below below
      have same := h i hi before
      rw [poured, away, if_pos hp, same]
      simp only [volumeIn, List.map_nil, List.sum_nil]
      omega
    · rw [if_neg fun hx => hp hx.1] at below ⊢
      rw [if_neg hp]
      exact h i hi below
  | fold p full =>
    simp only [Books.change] at below ⊢
    by_cases hp : p.tap = i
    · rw [if_pos ⟨hp, hi⟩] at below ⊢
      obtain ⟨folded, poured, away⟩ := sell_below below
      obtain ⟨before, more⟩ := fold_below folded
      have same := h i hi before
      rw [poured, away, more]
      show (x.tap i).poured + p.volume = _
      omega
    · rw [if_neg fun hx => hp hx.1] at below ⊢
      exact h i hi below
  | release k =>
    simp only [Books.replaced, Books.drop, if_pos hi] at below ⊢
    obtain ⟨before, away⟩ := release_below below
    have same := h i hi before
    have parts := volumeIn_append i (x.journal.take k) (x.journal.drop k)
    rw [List.take_append_drop] at parts
    rw [away]
    show (x.tap i).poured = _
    omega
  | clear empty =>
    simp only [Books.replaced, if_pos hi, empty]
    rfl
  | cold => rfl

end Sys2Proof.Machine
end

section
/-! ### What the operations of the part enter in the books (O52, O57) -/

namespace Sys2Proof.Machine

open Sys2Proof Sys2Proof.Safety

/-- The books of the part meet `L`. -/
def Booked (L : Books → Prop) (s : State) : Prop := L s.books

/-- Books whose taps keep their tallies and whose accounts keep journal and counts are the same books. -/
theorem books_congr {s t : State} (journal : t.acct.journal = s.acct.journal) (next : t.acct.nextSeq = s.acct.nextSeq)
    (counted : t.acct.pourPurge = s.acct.pourPurge) (taps : ∀ i, (t.tap i).tallies = (s.tap i).tallies) : t.books = s.books := by
  simp only [State.books, journal, next, counted, taps]

theorem books_of_blocks {s t : State} (acct : t.acct = s.acct) (pour : t.pour = s.pour) : t.books = s.books :=
  books_congr (by rw [acct]) (by rw [acct]) (by rw [acct]) fun i => by rw [State.tap_congr pour]

theorem books_of_onlyLine {n : Nat} {s t : State} (h : OnlyLine n s t) : t.books = s.books := books_of_blocks h.2.2.2 h.2.1

theorem books_setTap (i : Nat) {x : Tap} (s : State) (f : Tallies → Tallies) (h : x.tallies = f (s.tap i).tallies) :
    (s.setTap i x).books = s.books.change i f := by
  have taps : ∀ j, ((s.setTap i x).tap j).tallies = if i = j ∧ j < 128 then f (s.tap j).tallies else (s.tap j).tallies := fun j => by
    rw [State.tap_setTap]
    by_cases hj : i = j
    · subst hj
      simp only [true_and]
      split
      · exact h
      · rfl
    · simp only [hj, false_and, if_false]
  simp only [State.books, Books.change, taps, State.setTap_acct]

theorem change_id (i : Nat) (b : Books) : b.change i (fun x => x) = b := by
  simp only [Books.change, ite_self]

/-- A tap may change in what is no tally. -/
theorem books_setTap_same (i : Nat) {x : Tap} (s : State) (h : x.tallies = (s.tap i).tallies) : (s.setTap i x).books = s.books := by
  rw [books_setTap i s (fun y => y) h, change_id]

theorem stores_iff (s : State) (x : RecordBody) : s.acct.stores x = true ↔ s.books.Admits x := by
  simp only [Accounts.stores, Books.Admits, State.books, Bool.and_eq_true, Bool.or_eq_true, decide_eq_true_eq, and_assoc]
  cases x.isPourPurge <;> simp [Config.journalPlaces, Config.max32, Config.pourPurgePlaces]

theorem takeRecord_books_stored {x : RecordBody} {s : State} (h : s.books.Admits x) :
    (takeRecord x s).books = s.books.store (s.recordOf x) := by
  have acct := takeRecord_stored ((stores_iff s x).mpr h)
  have taps : ∀ i, (takeRecord x s).tap i = s.tap i := State.tap_congr (takeRecord_pour s x)
  have journal := congrArg Accounts.journal acct
  have next := congrArg Accounts.nextSeq acct
  have counted := congrArg Accounts.pourPurge acct
  simp only [State.books, Books.store, journal, next, counted, taps]
  rfl

theorem takeRecord_books_unstored {x : RecordBody} {s : State} (h : ¬ s.books.Admits x) : (takeRecord x s).books = s.books := by
  have acct := takeRecord_unstored fun hs => h ((stores_iff s x).mp hs)
  refine books_congr ?_ ?_ ?_ fun i => by rw [State.tap_congr (takeRecord_pour s x)]
  all_goals
    rw [acct]
    cases x <;> rfl

section booked

variable {L : Books → Prop} {s t : State}

theorem booked_same (hb : t.books = s.books) (hs : Booked L s) : Booked L t := by
  rwa [Booked, hb]

theorem booked_of_blocks (acct : t.acct = s.acct) (pour : t.pour = s.pour) : Booked L s → Booked L t :=
  booked_same (books_of_blocks acct pour)

theorem booked_of_onlyLine {n : Nat} (only : OnlyLine n s t) : Booked L s → Booked L t := booked_same (books_of_onlyLine only)

theorem setTap_booked (i : Nat) {x : Tap} (hx : x.tallies = (s.tap i).tallies) : Booked L s → Booked L (s.setTap i x) :=
  booked_same (books_setTap_same i s hx)

theorem post_booked (k : NoticeKey) (c : NoticeCause) (hs : Booked L s) : Booked L (post k c s) := hs

theorem moveLine_booked (n : Nat) (st : ServiceState) : Booked L s → Booked L (moveLine n st s) :=
  booked_of_onlyLine (moveLine_onlyLine n s st)

theorem changeHolds_booked (n : Nat) (c : HoldSet) : Booked L s → Booked L (changeHolds n c s) :=
  booked_of_onlyLine (changeHolds_onlyLine n s c)

/-- A watch effect bars taps and holds lines. -/
theorem booked_of_watchEffect {bar on : Nat → Bool} (effect : WatchEffect bar on s t) (hs : Booked L s) : Booked L t := by
  refine booked_same (books_congr (by rw [effect.acct]) (by rw [effect.acct]) (by rw [effect.acct]) fun i => ?_) hs
  rw [effect.only.tap i]
  rfl

/-! #### Records, watches and totals -/

section records

variable (h : EntryKept L)
include h

theorem takeRecord_booked (x : RecordBody) (hx : ∀ p, x ≠ .pour p) (hs : Booked L s) : Booked L (takeRecord x s) := by
  by_cases room : s.books.Admits x
  · rw [Booked, takeRecord_books_stored room]
    exact h _ _ (.record room rfl hx) hs
  · exact booked_same (takeRecord_books_unstored room) hs

theorem visitWatch_booked (r : PourRecord) (seq : Option Nat) (w : Nat) (hs : Booked L s) : Booked L (visitWatch r seq w s) := by
  unfold visitWatch
  simp only []
  refine ite_closed ?_ hs
  split
  · exact hs
  · have tripped : Booked L (s.setWatch w { s.watch w with state := .tripped, count := 1 }) := hs
    have noted := post_booked (.watch w) .watchTripped (takeRecord_booked h
      (.watch w (s.watch w).target (s.watch w).condition (s.watch w).threshold seq) (by simp) tripped)
    exact ite_closed (booked_of_watchEffect (applyHold_effect _ _).1 noted) noted
  · exact hs

/-- The POUR record is entered with its class: stored, or folded where the journal has no room. -/
theorem takePour_booked (p : PourRecord) (hs : Booked L s) : Booked L (takePour p s) := by
  have sold : ∀ u : State, (addTotals p u).books = u.books.change p.tap (Tallies.sell p.cls p.volume) := fun u => by
    have total := books_setTap p.tap (x := (u.tap p.tap).addClass p.cls p.volume) u (Tallies.sell p.cls p.volume) (by
      cases p.cls <;> rfl)
    rw [← total]
    unfold addTotals sellProduct
    split <;> rfl
  rw [takePour_eq]
  refine foldl_closed (fun _ w hu => visitWatch_booked h p _ w hu) _ _ ?_
  rw [Booked, sold, pourStored]
  by_cases room : s.books.Admits (.pour p)
  · rw [if_pos ((stores_iff s _).mpr room), takeRecord_books_stored room]
    exact h _ _ (.pour (r := s.recordOf (.pour p)) room rfl rfl) hs
  · have folded := books_setTap p.tap (x := { (takeRecord (.pour p) s).tap p.tap with
        unjournalled := ((takeRecord (.pour p) s).tap p.tap).unjournalled.plus p.volume }) (takeRecord (.pour p) s)
        (Tallies.fold p.volume) rfl
    have entered : (foldPour p (takeRecord (.pour p) s)).books = s.books.change p.tap (Tallies.fold p.volume) := by
      rw [← takeRecord_books_unstored room, ← folded]
      rfl
    have both : (s.books.change p.tap (Tallies.fold p.volume)).change p.tap (Tallies.sell p.cls p.volume)
        = s.books.change p.tap fun x => (x.fold p.volume).sell p.cls p.volume := by
      simp only [Books.change]
      congr 1
      funext j
      split <;> simp [*]
    rw [if_neg fun hx => room ((stores_iff s _).mp hx), entered, both]
    exact h _ _ (.fold p room) hs

end records

theorem replaceWatch_booked (w : Nat) (e : Watch) (hs : Booked L s) : Booked L (replaceWatch w e s) := by
  have off : Booked L (s.setWatch w { s.watch w with state := .off }) := hs
  have lifted := ite_closed (c := (s.watch w).state = .tripped && (s.watch w).action = .hold)
    (booked_of_watchEffect (withdrawHold_effect (s.watch w).target _).1 off) off
  exact lifted

theorem releaseRecord_acct (s : State) (r : Record) : (releaseRecord s r).acct = s.acct := by
  unfold releaseRecord
  split <;> rfl

theorem releaseRecord_tap (s : State) (r : Record) {i : Nat} (hi : i < 128) :
    (releaseRecord s r).tap i = { s.tap i with released := (s.tap i).released.release i r } := by
  unfold releaseRecord
  split
  · rename_i p hp
    rw [State.modTap_eq, State.tap_setTap, Tally.release_pour hp]
    by_cases ht : p.tap = i
    · subst ht
      simp only [hi, and_self, if_true]
    · simp only [ht, false_and, if_false]
  all_goals
    rw [Tally.release_other (by simp [*])]

theorem foldl_releaseRecord_acct (gone : List Record) (s : State) : (gone.foldl releaseRecord s).acct = s.acct :=
  foldl_closed (P := fun u => u.acct = s.acct) (fun u r hu => (releaseRecord_acct u r).trans hu) gone s rfl

theorem foldl_releaseRecord_tap (gone : List Record) (s : State) {i : Nat} (hi : i < 128) : (gone.foldl releaseRecord s).tap i
    = { s.tap i with released := gone.foldl (Tally.release i) (s.tap i).released } := by
  induction gone generalizing s with
  | nil => rfl
  | cons r rest ih => rw [List.foldl_cons, ih, releaseRecord_tap s r hi, List.foldl_cons]

theorem releaseRecords_booked (h : EntryKept L) (k : Nat) (hs : Booked L s) : Booked L (releaseRecords k s) := by
  have acct := foldl_releaseRecord_acct (s.acct.journal.take k) s
  have entered : (releaseRecords k s).books
      = (s.books.drop k).replaced fun i => Tallies.release i (s.books.journal.take k) := by
    have taps : ∀ i, (releaseRecords k s).tap i = ((s.acct.journal.take k).foldl releaseRecord s).tap i := fun _ => rfl
    simp only [State.books, Books.drop, Books.replaced, taps]
    simp only [releaseRecords, acct, Accounts.release]
    congr 1
    funext i
    by_cases hi : i < 128
    · rw [foldl_releaseRecord_tap _ _ hi, if_pos hi]
      rfl
    · rw [if_neg hi, State.tap_of_ge (Nat.not_lt.mp hi), State.tap_of_ge (Nat.not_lt.mp hi)]
  rw [Booked, entered]
  exact h _ _ (.release k) hs

theorem clearTotals_booked (h : EntryKept L) (empty : s.acct.journal = []) (hs : Booked L s) : Booked L (clearTotals s) := by
  have entered : (clearTotals s).books = s.books.replaced fun _ _ => Tallies.zero := by
    simp only [State.books, Books.replaced]
    congr 1
    funext i
    by_cases hi : i < 128
    · simp [clearTotals, State.tap, hi, Tap.clearTotals, Tap.tallies, Tallies.zero]
    · simp [State.tap_of_ge (Nat.not_lt.mp hi), hi]
  rw [Booked, entered]
  exact h _ _ (.clear empty) hs

end booked

end Sys2Proof.Machine
end

section
/-! ### What cleaning, kegs, pours and the tap bus enter in the books (O52, O57) -/

namespace Sys2Proof.Machine

open Sys2Proof Sys2Proof.Safety

variable {L : Books → Prop} {s t : State}

/-! #### Cleaning -/

theorem setCircuit_booked (c : Circuit) (r : CircuitRec) (hs : Booked L s) : Booked L (s.setCircuit c r) := hs

theorem markBatch_booked (c : Circuit) (on : Bool) (hs : Booked L s) : Booked L (markBatch c on s) :=
  foldl_closed (fun _ _ hu => booked_of_onlyLine (modLine_onlyLine _ _ _) hu) _ s hs

theorem pauseCircuit_booked (c : Circuit) (why : PauseCause) (hs : Booked L s) : Booked L (pauseCircuit c why s) :=
  post_booked _ _ (setCircuit_booked c _ hs)

theorem resolveWithheld_booked (n : Nat) (hs : Booked L s) : Booked L (resolveWithheld n s) :=
  foldl_closed (fun _ i hu => ite_closed (setTap_booked i (by rfl) hu) hu) _ s hs

theorem leaveCleaning_booked (n : Nat) (done : Bool) (hs : Booked L s) : Booked L (leaveCleaning n done s) := by
  have left := moveLine_booked n (if (s.line n).mark then .foul else .rinsed) hs
  exact resolveWithheld_booked n (ite_closed (booked_of_onlyLine (recordClean_onlyLine n _) left) left)

theorem takeBatch_booked (c : Circuit) (ht : takeBatch c s = some t) (hs : Booked L s) : Booked L t := by
  obtain ⟨-, e, -, rfl⟩ := takeBatch_eq_some ht
  have dequeued : Booked L (s.dequeue (batchOf s e)) := hs
  exact post_booked _ _ (setCircuit_booked c _ (foldl_closed (fun _ n hu => moveLine_booked n .cleaning hu) _ _ dequeued))

theorem beginStep_booked (c : Circuit) (hs : Booked L s) : Booked L (beginStep c s).1 := by
  unfold beginStep
  split
  · exact hs
  · rename_i st _
    have set := setCircuit_booked c ((s.circuit c).atStep st) hs
    simp only []
    split
    · exact set
    · cases st.kind with
      | fill => exact markBatch_booked c true set
      | pause => exact pauseCircuit_booked c .pauseStep set
      | _ => exact set

section cleaning

variable (h : EntryKept L)
include h

theorem endBatch_booked (c : Circuit) (e : BatchEnd) (hs : Booked L s) : Booked L (endBatch c e s) := by
  refine post_booked _ _ (setCircuit_booked c _ (foldl_closed (fun u n hu => ?_) _ s hs))
  exact leaveCleaning_booked n _ (takeRecord_booked h _ (by simp) hu)

theorem serveQueue_booked (c : Circuit) (fuel : Nat) (hs : Booked L s) : Booked L (serveQueue fuel c s) := by
  induction fuel generalizing s with
  | zero => exact hs
  | succ fuel ih =>
    unfold serveQueue
    split
    · exact hs
    · have begun := beginStep_booked c (takeBatch_booked c ‹_› hs)
      split
      · rename_i hb
        rwa [hb] at begun
      · rename_i hb
        rw [hb] at begun
        exact ih (endBatch_booked h c _ begun)

theorem finishBatch_booked (c : Circuit) (e : BatchEnd) (hs : Booked L s) : Booked L (finishBatch c e s) :=
  serveQueue_booked h c _ (endBatch_booked h c e hs)

theorem startStep_booked (c : Circuit) (hs : Booked L s) : Booked L (startStep c s) := by
  have begun := beginStep_booked c hs
  unfold startStep
  split
  · rename_i hb
    rwa [hb] at begun
  · rename_i hb
    rw [hb] at begun
    exact finishBatch_booked h c _ begun

theorem takePurge_booked (c : Circuit) (n p v : Nat) (hs : Booked L s) : Booked L (takePurge c n p v s) := by
  have taken := takeRecord_booked h (.purge n c p v) (by simp) hs
  exact ite_closed taken (setCircuit_booked c _ taken)

theorem postPurges_booked (c : Circuit) (hs : Booked L s) : Booked L (postPurges c s) :=
  foldl_closed (fun _ n hu => takePurge_booked h c n _ _ hu) _ s hs

theorem nextStep_booked (c : Circuit) (hs : Booked L s) : Booked L (nextStep c s) :=
  startStep_booked h c (setCircuit_booked c _ hs)

theorem completeStep_booked (c : Circuit) (st : Step) (hs : Booked L s) : Booked L (completeStep c st s) := by
  have counted := setCircuit_booked c { s.circuit c with stepsDone := (s.circuit c).stepsDone + 1 } hs
  have purged := ite_closed (c := st.kind = .purge) (postPurges_booked h c counted) counted
  have noted := ite_closed (c := st.notify = true) (post_booked (.circuit c) .circuitStep purged) purged
  exact ite_closed (finishBatch_booked h c _ noted) (ite_closed (pauseCircuit_booked c _ noted) (nextStep_booked h c noted))

theorem circuitPulse_booked (c : Circuit) (hs : Booked L s) : Booked L (circuitPulse c s) := by
  have counted : ∀ k, Booked L (s.modCircuit c fun r => r.countPulse k) := fun _ => hs
  have drawn : ∀ (p : Prop) [Decidable p] st u, Booked L u → Booked L (if p then completeStep c st u else u) :=
    fun _ _ st _ hu => ite_closed (completeStep_booked h c st hu) hu
  unfold circuitPulse
  split
  · exact hs
  · split
    · exact hs
    · exact hs
    · exact hs
    · exact ite_closed (completeStep_booked h c _ (markBatch_booked c false (counted .verify)))
        (ite_closed (finishBatch_booked h c _ (counted .verify)) (counted .verify))
    all_goals exact drawn _ _ _ (counted _)

theorem conductivity_booked (c : Circuit) (reading : Option Int) (hs : Booked L s) : Booked L (conductivity c reading s) := by
  unfold conductivity
  refine ite_closed hs ?_
  split
  · exact finishBatch_booked h c _ hs
  · rename_i v
    have read := setCircuit_booked c { s.circuit c with conductivity := v } hs
    refine ite_closed (finishBatch_booked h c _ read) ?_
    split
    · exact read
    · exact ite_closed (ite_closed read read) read

theorem flowExpiry_booked (c : Circuit) (hs : Booked L s) : Booked L (flowExpiry c s) :=
  ite_closed (finishBatch_booked h c _ (setCircuit_booked c _ hs)) hs

theorem timedExpiry_booked (c : Circuit) (hs : Booked L s) : Booked L (timedExpiry c s) := by
  unfold timedExpiry
  split
  · exact hs
  · exact ite_closed (completeStep_booked h c _ (setCircuit_booked c _ hs)) hs

theorem supplyFault_booked (c : Circuit) (u : Supply) (hs : Booked L s) : Booked L (supplyFault c u s) :=
  ite_closed (finishBatch_booked h c _ hs) hs

theorem lockoutFault_booked (n : Nat) (hs : Booked L s) : Booked L (lockoutFault n s) :=
  ite_closed (finishBatch_booked h .a _ hs) (ite_closed (finishBatch_booked h .b _ hs) hs)

theorem resumeCircuit_booked (c : Circuit) (hs : Booked L s) : Booked L (resumeCircuit c s) := by
  have running := setCircuit_booked c { s.circuit c with state := .running, pauseCause := none } hs
  unfold resumeCircuit
  split
  · exact completeStep_booked h c _ running
  · exact nextStep_booked h c running

/-! #### Drain conditions, routes and lockouts -/

theorem evalDrain_booked (n : Nat) (hs : Booked L s) : Booked L (evalDrain n s) := by
  have ready : ∀ on st, Booked L (setReady n on (moveLine n st s)) := fun _ st => moveLine_booked n st hs
  unfold evalDrain
  split
  · refine ite_closed ?_ hs
    unfold serveReady
    split
    · exact serveQueue_booked h _ _ (ready _ _)
    · exact ready _ _
  · exact ite_closed hs (ready _ _)
  · exact hs

theorem reportLineChange_booked (old new : Option Nat) (hs : Booked L s) : Booked L (reportLineChange old new s) := by
  refine ite_closed hs ?_
  cases old with
  | none =>
    cases new with
    | none => exact hs
    | some n => exact evalDrain_booked h n hs
  | some m =>
    have left := evalDrain_booked h m hs
    cases new with
    | none => exact left
    | some n => exact evalDrain_booked h n left

theorem copyRoute_booked (i : Nat) (r : Route) (hs : Booked L s) : Booked L (copyRoute i r s) :=
  reportLineChange_booked h _ _ (setTap_booked i rfl hs)

theorem applyDeferred_booked (i : Nat) (hs : Booked L s) : Booked L (applyDeferred i s) :=
  ite_closed hs (ite_closed (copyRoute_booked h i _ (setTap_booked i rfl hs)) (copyRoute_booked h i _ (setTap_booked i rfl hs)))

theorem idleTap_booked (i token : Nat) (hs : Booked L s) : Booked L (idleTap i token s) :=
  applyDeferred_booked h i (setTap_booked (s := dropStop i token s) i rfl hs)

theorem reportLockout_booked (i : Nat) (on : Bool) (hs : Booked L s) : Booked L (reportLockout i on s) := by
  have stored : Booked L (s.modTap i fun r => { r with lockout := on }) := setTap_booked i rfl hs
  have reported : Booked L (match (s.tap i).route.line with
      | none => s.modTap i fun r => { r with lockout := on }
      | some n => if on then evalDrain n (s.modTap i fun r => { r with lockout := on })
        else lockoutFault n (evalDrain n (s.modTap i fun r => { r with lockout := on }))) := by
    split
    · exact stored
    · rename_i n _
      have drained := evalDrain_booked h n stored
      exact ite_closed drained (lockoutFault_booked h n drained)
  exact ite_closed hs (ite_closed (copyRoute_booked h i _ (setTap_booked i rfl reported)) reported)

theorem swapMaps_booked (hs : Booked L s) : Booked L (swapMaps s) := by
  have swapped : Booked L { s with pour := { s.pour with active := s.pour.active.other } } := hs
  refine foldl_closed (fun u i hu => ?_) _ _ swapped
  exact ite_closed (copyRoute_booked h i _ (setTap_booked i rfl hu)) (setTap_booked i rfl hu)

end cleaning

/-! #### Stops and kegs -/

theorem stopLine_booked (n : Nat) (hs : Booked L s) : Booked L (stopLine n s) := by
  refine foldl_closed (fun u i hu => ?_) _ s hs
  unfold stopTap
  split
  · exact hu
  · rename_i p _
    have sent : Booked L (u.modTap i fun r => { r with pour := some { p with record := { p.record with stopSent := true } } }) :=
      setTap_booked i rfl hu
    exact ite_closed hu sent

theorem removeKegs_booked (h : EntryKept L) (n : Nat) (hs : Booked L s) : Booked L (removeKegs n s) :=
  foldl_closed (fun _ _ hu => takeRecord_booked h _ (by simp [kegRecord]) hu) _ s hs

theorem retireHead_booked (h : EntryKept L) (n : Nat) (cause : KegCause) (hs : Booked L s) : Booked L (retireHead n cause s) := by
  cases hc : (s.line n).chain with
  | nil => rwa [retireHead_empty hc]
  | cons k rest =>
    rw [retireHead_eq hc]
    have retired : Booked L (headRetired n k rest cause s) :=
      booked_of_onlyLine headRetired_onlyLine (takeRecord_booked h _ (by simp [kegRecord]) hs)
    exact ite_closed (stopLine_booked n (moveLine_booked n .dry retired)) retired

theorem detectorTrip_booked (h : EntryKept L) (n : Nat) (hs : Booked L s) : Booked L (detectorTrip n s) := by
  have disarmed : Booked L { s with cellar := { s.cellar with
    detectorArmed := s.cellar.detectorArmed.setIfInBounds n false } } := hs
  exact ite_closed (retireHead_booked h n .empty disarmed) disarmed

theorem cellarPulse_onlyLine (n : Nat) (s : State) : OnlyLine n s (cellarPulse n s) := by
  unfold cellarPulse
  simp only []
  split
  · exact onlyLine_refl n s
  · exact ite_closed (onlyLine_refl n s)
      (onlyLine_trans (onlyLine_trans (setLine_onlyLine n _ s) (checkPrime_onlyLine n _)) (recomputeStock_onlyLine n _))

/-! #### Pours -/

theorem ask_booked (i z : Nat) (hs : Booked L s) : Booked L (ask i z s) := by
  have granted : ∀ n, Booked L (grant i n z s) := fun n =>
    booked_of_blocks (s := s.modTap i fun r => { r with
      nextToken := (r.nextToken + 1) % 256, pour := some { phase := .granted, record := grantRecord i n z s } }) rfl rfl
      (setTap_booked i rfl hs)
  unfold ask
  split
  · exact hs
  · split
    · exact granted _
    · exact hs

section pours

variable (h : EntryKept L)
include h

theorem measuredEnd_booked (i : Nat) (r : InFlight) (e : PourEnd) (hs : Booked L s) : Booked L (measuredEnd i r e s) := by
  have applied : ∀ v f l x, Booked L (applyPour r.line v f l x s) := fun v f l x => by
    obtain ⟨u, only, he⟩ := applyPour_evaluates r.line v f l x s
    rw [he]
    exact evalDrain_booked h r.line (booked_of_onlyLine only hs)
  have told := fun v f l x p => takePour_booked h p (applied v f l x)
  have warmed : ∀ c : Prop, [Decidable c] → ∀ n u, Booked L u → Booked L (if c then countWarm n u else u) :=
    fun _ _ _ _ hu => ite_closed hu hu
  have learned : ∀ v b u, Booked L u → Booked L (u.modTap i fun x => x.learn v b) := fun _ _ _ hu => setTap_booked i rfl hu
  exact idleTap_booked h i r.token
    (ite_closed (learned _ _ _ (warmed _ _ _ (told _ _ _ _ _))) (warmed _ _ _ (told _ _ _ _ _)))

theorem endPour_booked (i : Nat) (r : InFlight) (e : PourEnd) (hs : Booked L s) : Booked L (endPour i r e s) :=
  ite_closed (idleTap_booked h i r.token (evalDrain_booked h (s := pourLeft r.line s) r.line hs)) (measuredEnd_booked h i r e hs)

theorem finishPour_booked (i token pulses fast : Nat) (x : Option Int) (c : EndCause) (hs : Booked L s) :
    Booked L (finishPour i token pulses fast x c s) := by
  unfold finishPour
  split
  · exact hs
  · exact ite_closed hs (endPour_booked h i _ _ hs)

theorem closeLost_booked (i : Nat) (hs : Booked L s) : Booked L (closeLost i s) := by
  unfold closeLost
  split
  · exact hs
  · exact ite_closed (endPour_booked h i _ _ hs) hs

end pours

/-! #### The tap bus -/

theorem nextPoll_booked (a : Nat) : Booked L s → Booked L (nextPoll a s) :=
  booked_of_blocks (by rw [nextPoll_frame]) (by rw [nextPoll_frame])

theorem recomputeThreshold_booked (a : Nat) : Booked L s → Booked L (recomputeThreshold a s) :=
  booked_of_blocks (by rw [recomputeThreshold_frame]) (by rw [recomputeThreshold_frame])

theorem setNode_booked (a : Nat) (n : Node) (hs : Booked L s) : Booked L (s.setNode a n) := hs

theorem orphanTaps_booked (a k : Nat) (hs : Booked L s) : Booked L (orphanTaps a k s) :=
  foldl_closed (fun _ _ hu => ite_closed (setTap_booked _ (by rfl) hu) hu) _ s hs

theorem missExchange_booked (hs : Booked L s) : Booked L (missExchange s) := by
  have missed : ∀ a u, Booked L u → Booked L (countMiss a u) := fun a _ hu =>
    ite_closed hu (ite_closed (setNode_booked a _ hu) (post_booked _ _ (orphanTaps_booked a 0 (setNode_booked a _ hu))))
  unfold missExchange
  split
  · exact nextPoll_booked _ (missed _ _ hs)
  · exact hs
  · exact hs

theorem takeTapCount_booked (a k : Nat) (hs : Booked L s) : Booked L (takeTapCount a k s) := by
  unfold takeTapCount
  split
  · exact setNode_booked a _ hs
  · have counted := setNode_booked a { s.node a with tapCount := some k } hs
    refine ite_closed ?_ (post_booked _ _ ?_)
    all_goals exact ite_closed (orphanTaps_booked a k (setNode_booked a _ counted)) counted

section bus

variable (h : EntryKept L)
include h

theorem takeStatus_booked (i : Nat) (st : TapStatus) (hs : Booked L s) : Booked L (takeStatus i st s) := by
  have reported := reportLockout_booked h i st.lockout hs
  unfold takeStatus
  simp only []
  split
  · unfold reportRunning
    split
    · exact reported
    · exact setTap_booked i (by rfl) reported
  · exact reported

theorem takeStatuses_booked (a : Nat) (l : List TapStatus) (i : Nat) (hs : Booked L s) : Booked L (takeStatuses a i l s) := by
  induction l generalizing i s with
  | nil => exact hs
  | cons st rest ih => exact ih (i + 1) (takeStatus_booked h _ st hs)

theorem takeEvent_booked (a : Nat) (e : Event) (hs : Booked L s) : Booked L (takeEvent a e s) := by
  refine ite_closed ?_ hs
  have taken := setNode_booked a { s.node a with lastTaken := some e.number } hs
  cases e.body with
  | ask z => exact ask_booked _ z taken
  | done token pulses fast x c => exact finishPour_booked h _ token pulses fast x c taken

theorem closeSilent_booked (a : Nat) (l : List TapStatus) (i : Nat) (hs : Booked L s) : Booked L (closeSilent a i l s) := by
  induction l generalizing i s with
  | nil => exact hs
  | cons st rest ih => exact ih (i + 1) (ite_closed (closeLost_booked h _ hs) hs)

theorem handleReply_booked (p : Poll) (r : BusReply) (hs : Booked L s) : Booked L (handleReply p r s) := by
  have found : Booked L (confirmPoll p (findNode p.address (s.modNode p.address fun n => { n with misses := 0 }))) :=
    ite_closed (P := Booked L) hs hs
  have status := takeStatuses_booked h p.address r.taps 0 (takeTapCount_booked p.address r.taps.length found)
  have events := foldl_closed (fun _ e hu => takeEvent_booked h p.address e hu) r.events _ status
  exact ite_closed (closeSilent_booked h p.address r.taps 0 events) events

theorem receiveReply_booked (b : List Byte) (hs : Booked L s) : Booked L (receiveReply b s) := by
  have missed := missExchange_booked hs
  unfold receiveReply
  split
  · exact hs
  · exact hs
  · split
    · exact missed
    · exact ite_closed (nextPoll_booked _ (handleReply_booked h _ _ hs)) (ite_closed hs missed)

end bus

theorem emptyRoundEnds_booked (hs : Booked L s) : Booked L (emptyRoundEnds s) := by
  unfold emptyRoundEnds
  split
  · exact booked_of_blocks (by rw [endRound, startRound_eq]) (by rw [endRound, startRound_eq]) hs
  · exact hs
  · exact hs

end Sys2Proof.Machine
end

section
/-! ### Every step enters in the books what `Entry` lists (O52, O57) -/

namespace Sys2Proof.Machine

open Sys2Proof Sys2Proof.Safety

variable {L : Books → Prop} {s t : State}

/-! #### Requests -/

/-- A decision between two that keep the law keeps it; a refusal keeps it because it leaves the state. -/
theorem decision_ite_booked {c : Prop} [Decidable c] {d e : Decision} (hd : Booked L d.state) (he : Booked L e.state) :
    Booked L (if c then d else e).state := by
  split
  · exact hd
  · exact he

theorem lineHoldApply_booked (n : Nat) (stop : Bool) (hs : Booked L s) : Booked L (decideLineHoldApply n stop s).state := by
  have held := changeHolds_booked n { (s.line n).holds with host := true } hs
  exact decision_ite_booked hs (decision_ite_booked hs (ite_closed (stopLine_booked n held) held))

theorem tapSetAssign_booked (i b : Nat) (hs : Booked L s) : Booked L (decideTapSetAssign i b s).state := by
  have set : Booked L (s.modTap i fun r => { r with configured := true, bar := b }) := setTap_booked i rfl hs
  exact decision_ite_booked hs (ite_closed (recomputeThreshold_booked _ set) set)

theorem dropNode_booked (a : Nat) (hs : Booked L s) : Booked L (dropNode a s) := by
  have left : Booked L (nodeLeft a s) := hs
  rw [dropNode_eq]
  exact ite_closed (booked_of_blocks rfl rfl (nextPoll_booked a left)) left

theorem tapSetUnassign_booked (i b : Nat) (hs : Booked L s) : Booked L (decideTapSetUnassign i b s).state := by
  have set : Booked L (s.modTap i fun r => { r with configured := false }) := setTap_booked i rfl hs
  have left : Booked L (unassignTap i s) := ite_closed (dropNode_booked _ set) (recomputeThreshold_booked _ set)
  exact decision_ite_booked hs (decision_ite_booked hs left)

theorem routeWrite_booked (m first : Nat) (es : List RouteEntry) (hs : Booked L s) :
    Booked L (decideRouteWrite m first es s).state := by
  unfold decideRouteWrite
  repeat' split
  · exact hs
  · exact hs
  · refine booked_same (s := s) (books_congr rfl rfl rfl fun i => ?_) hs
    simp only [State.tap, accept, acceptWith, setMap_taps]
  · exact hs

theorem chillerSet_booked (count points : Nat) (hs : Booked L s) : Booked L (decideChillerSet count points s).state := by
  have shared : ∀ c : Prop, [Decidable c] → ∀ u, Booked L u → Booked L (if c then u else allocate u) :=
    fun _ _ _ hu => ite_closed hu hu
  have set := shared (s.cool.points = points) { s with cool := { s.cool with
    count := count, points := points, startFaults := s.cool.startFaults.mapIdx fun i b => b && decide (i < count) } } hs
  exact decision_ite_booked hs (decision_ite_booked hs (ite_closed (post_booked _ _ set) set))

theorem cleanWithdraw_booked (n : Nat) (hs : Booked L s) : Booked L (decideCleanWithdraw n s).state := by
  have left : Booked L { s with clean := { s.clean with queue := s.clean.queue.filter fun e => e.line ≠ n } } := hs
  exact decision_ite_booked hs (decision_ite_booked hs (moveLine_booked n _ left))

theorem applyCal_booked (m : Meter) (g o : Nat) (r : Bool) (hs : Booked L s) : Booked L (applyCal m g o r s) := by
  cases m with
  | tap i => exact recomputeThreshold_booked _ (setTap_booked i (by rfl) hs)
  | line n => exact hs
  | circuit c => exact hs

theorem calRecord_ne_pour (u : State) (m : Meter) (g o : Nat) (r : Bool) : ∀ p, calRecord u m g o r ≠ .pour p := by
  cases m <;> simp [calRecord]

section requests

variable (h : EntryKept L)
include h

theorem lineClear_booked (n : Nat) (hs : Booked L s) : Booked L (decideLineClear n s).state :=
  decision_ite_booked hs (decision_ite_booked hs (decision_ite_booked hs
    (booked_of_onlyLine (clearLine_onlyLine n s) (removeKegs_booked h n hs))))

theorem cleanRequest_booked (n p : Nat) (hs : Booked L s) : Booked L (decideCleanRequest n p s).state := by
  have noted : Booked L (State.modLine n (fun l => { l with preDrain := some l.state })
      { s with clean := { s.clean with queue := s.clean.queue ++ [{ line := n, program := p, ready := false }] } }) := hs
  unfold decideCleanRequest
  split
  · exact hs
  · exact evalDrain_booked h n (moveLine_booked n .draining noted)

theorem totalsClear_booked (hs : Booked L s) : Booked L (decideTotalsClear s).state := by
  unfold decideTotalsClear
  split
  · exact clearTotals_booked h (List.isEmpty_iff.mp ‹_›) hs
  · exact hs

theorem calWrite_booked (k n g o : Nat) (r : Bool) (hs : Booked L s) : Booked L (decideCalWrite k n g o r s).state := by
  unfold decideCalWrite
  refine decision_ite_booked hs ?_
  split
  · exact hs
  · refine decision_ite_booked hs ?_
    split
    · exact hs
    · exact takeRecord_booked h _ (calRecord_ne_pour s _ g o r) (applyCal_booked _ g o r hs)

/-- The owner's decision of any request keeps the law. -/
theorem decision_booked {i : Instr} {f : State → Decision} (hd : decisionOf i = some f) (hs : Booked L s) : Booked L (f s).state := by
  cases i <;> cases hd
  case lineHoldApply n stop => exact lineHoldApply_booked n stop hs
  case lineClear n => exact lineClear_booked h n hs
  case routeWrite m first es => exact routeWrite_booked m first es hs
  case tapSetAssign i b => exact tapSetAssign_booked i b hs
  case tapSetUnassign i b => exact tapSetUnassign_booked i b hs
  case chillerSet c p => exact chillerSet_booked c p hs
  case cleanWithdraw n => exact cleanWithdraw_booked n hs
  case cleanRequest n p => exact cleanRequest_booked h n p hs
  case totalsClear => exact totalsClear_booked h hs
  case calWrite k n g o r => exact calWrite_booked h k n g o r hs
  case lineSet n c => exact decision_ite_booked hs (booked_of_onlyLine (lineSetState_onlyLine n c s) hs)
  case lineHoldRelease n c => exact decision_ite_booked hs (decision_ite_booked hs (changeHolds_booked n _ hs))
  case kegAdd n id p v b =>
    exact decision_ite_booked hs (decision_ite_booked hs (decision_ite_booked hs (decision_ite_booked hs
      (booked_of_onlyLine addKeg_onlyLine hs))))
  case kegRemove n id =>
    exact decision_ite_booked hs (decision_ite_booked hs (decision_ite_booked hs (booked_of_onlyLine removeKeg_onlyLine hs)))
  case kegSwitch n => exact decision_ite_booked hs (decision_ite_booked hs (retireHead_booked h n .switched hs))
  case tapSetCloseOrphan i b =>
    exact decision_ite_booked hs (decision_ite_booked hs (recomputeThreshold_booked _ (closeLost_booked h i hs)))
  case returnToService n =>
    exact decision_ite_booked hs (decision_ite_booked hs (booked_of_onlyLine (onlyLine_trans (modLine_onlyLine n s
      fun l => { l with primeProgress := 0 }) (moveLine_onlyLine n _ .priming)) hs))
  case journalRelease n => exact decision_ite_booked hs (releaseRecords_booked h _ hs)
  case watchClear w => exact decision_ite_booked hs (replaceWatch_booked w _ hs)
  case routeSwap =>
    unfold decideRouteSwap
    refine decision_ite_booked hs ?_
    split
    · exact hs
    · simp only [acceptWith_state]
      exact swapMaps_booked h hs
  case cleanContinue c =>
    unfold decideCleanContinue
    split
    · exact hs
    · exact decision_ite_booked hs (resumeCircuit_booked h _ hs)
  case cleanAbort c =>
    unfold decideCleanAbort
    split
    · exact hs
    · exact decision_ite_booked hs (finishBatch_booked h _ _ hs)
  case watchSet w e =>
    unfold decideWatchSet
    refine decision_ite_booked hs ?_
    split
    · exact hs
    · exact replaceWatch_booked w _ hs
  -- the other requests leave the books
  all_goals
    simp only [decideStatus, decideNoticePace, decideTimeSet, decideTimeGet, decideRestart, decideFactoryClear,
      decideProductRegister, decideProductRemove, decideProductRead, decideLineGet, decideKegList, decideTapGet,
      decideSizeSetWrite, decideSizeSetRead, decideFreeLimitsWrite, decideFreeLimitsRead, decideRouteRead,
      decideRouteCheck, decideBarStateSet, decideBarStateClear, decideBarStateToggle, decideBarState, decideTrunkSet,
      decideSurgeAdd, decideSurgeRemove, decideCoolingGet, decideProgramLoad, decideProgramRead, decideCleanStop, decideReconcile,
      decideCircuitGet, decideJournalRead, decideTotalsRead, decideHistogramRead, decideWatchGet, decideCalOpen, decideCalRead]
    repeat' split
  all_goals exact hs

end requests

/-! #### The link (R173 to R177) -/

theorem setLink_booked (l : Link) (hs : Booked L s) : Booked L (s.setLink l) := hs

theorem transmit_booked (hs : Booked L s) : Booked L (transmit s) := by
  obtain ⟨l, hl⟩ := transmit_eq_setLink s
  rw [hl]
  exact setLink_booked l hs

theorem event_booked {f : State → State} (hf : ∀ u, Booked L u → Booked L (f u)) (hs : Booked L s) : Booked L (event f s) :=
  ite_closed (transmit_booked (hf s hs)) hs

theorem receiveFrame_booked (kind tag : Byte) {f : State → Decision} (hf : ∀ u, Booked L u → Booked L (f u).state)
    (hs : Booked L s) : Booked L (receiveFrame kind tag f s) := by
  have hunts : Booked L (huntAgain s) := hs
  have decided := hf _ hunts
  exact ite_closed (ite_closed hunts hunts) (setLink_booked _ (ite_closed decided decided))

section link

variable (h : EntryKept L)
include h

theorem receiveWhole_booked (kind tag : Byte) (body : List Byte) (hs : Booked L s) : Booked L (receiveWhole kind tag body s) := by
  refine ite_closed hs (receiveFrame_booked kind tag (fun u hu => ?_) hs)
  unfold dispatchFrame
  repeat' split
  · exact hu
  · exact hu
  · exact hu
  · unfold decideSpelled
    split
    · exact decision_booked h ‹_› hu
    · exact hu

theorem receiveByte_booked (b : Byte) (hs : Booked L s) : Booked L (receiveByte b s) := by
  unfold receiveByte
  split
  · exact ite_closed hs hs
  · exact hs
  · exact ite_closed hs hs
  · refine ite_closed hs ?_
    unfold frameRead
    split
    · exact ite_closed (receiveWhole_booked h _ _ _ hs) hs
    · exact hs

theorem frameArrives_booked (bytes : List Byte) (e : Bool) (hs : Booked L s) : Booked L (frameArrives bytes e s) := by
  have read : Booked L (receiveBytes bytes s) := foldl_closed (fun _ b hu => receiveByte_booked h b hu) bytes s hs
  exact ite_closed (ite_closed read (setLink_booked _ (setLink_booked _ read))) read

/-! #### Stops and starts -/

omit h in
/-- A restart keeps the journal and every tally (R46, R108). -/
theorem restart_booked (straps : Straps) : Booked L s → Booked L (restart straps s) := by
  have acct : (restart straps s).acct = { s.acct with window := closedWindow } := (congrArg State.acct (restart_eq straps s)).trans rfl
  refine booked_same (books_congr (by rw [acct]) (by rw [acct]) (by rw [acct]) fun i => ?_)
  by_cases hi : i < 128
  · rw [restart_tap s straps hi]
    rfl
  · rw [State.tap_of_ge (Nat.not_lt.mp hi), State.tap_of_ge (Nat.not_lt.mp hi)]

/-- A cold start opens new books (R47, R109). -/
theorem coldStart_booked (cause : StartCause) (straps : Straps) (hs : Booked L s) : Booked L (coldStart cause straps s) := by
  have opened : (coldStart cause straps s).books = ⟨[], 1, 0, fun _ => Tallies.zero⟩ := by
    simp only [State.books, coldStart_tap]
    rfl
  rw [Booked, opened]
  exact h _ _ .cold hs

theorem beginStart_booked (cause : StartCause) (straps : Straps) (cut : Option StartCut) (hs : Booked L s) :
    Booked L (beginStart cause straps cut s) := by
  cases cut with
  | some x => exact hs
  | none =>
    cases cause with
    | restart => exact restart_booked straps hs
    | retentionLost => exact coldStart_booked h _ straps hs
    | factoryClear => exact coldStart_booked h _ straps hs

theorem replyEnds_booked (straps : Straps) (cut : Option StartCut) (hs : Booked L s) : Booked L (replyEnds straps cut s) := by
  unfold replyEnds
  split
  · exact ite_closed (beginStart_booked h _ straps cut hs) hs
  · refine event_booked (fun u hu => ?_) hs
    unfold replySent
    split
    all_goals exact hu

end link

/-! #### Cooling and the age check -/

theorem countSecond_booked (hs : Booked L s) : Booked L (countSecond s) := by
  unfold countSecond
  cases s.takesEvents
  · exact hs
  · exact hs

theorem setStore_booked (c : Store) (hs : Booked L s) : Booked L { s with store := c } := hs

theorem ageCheck_booked (hs : Booked L s) : Booked L (ageCheck s) := by
  have checked := foldl_closed (fun u n => booked_of_onlyLine (L := L) (checkDueAge_onlyLine n u)) (List.range 48) s hs
  exact ite_closed (setStore_booked _ checked) hs

theorem releaseExpiry_booked (n : Nat) (hs : Booked L s) : Booked L (releaseExpiry n s) := by
  have timer : Booked L (s.modTrunk n fun t => { t with releaseTimer := 0 }) := hs
  exact ite_closed (foldl_closed (fun _ i hu => ite_closed (changeHolds_booked i _ hu) hu) _ _ timer) hs

theorem stageStep_booked (hs : Booked L s) : Booked L (stageStep s) := by
  unfold stageStep
  simp only []
  refine ite_closed ?_ (ite_closed ?_ hs)
  all_goals
    split
    · exact ite_closed hs hs
    · exact hs

theorem sampleTrunk_booked (n : Nat) (reading : Option Int) (hs : Booked L s) : Booked L (sampleTrunk n reading s) := by
  unfold sampleTrunk
  simp only []
  split
  · exact ite_closed hs hs
  · have restored : Booked L (if (s.trunk n).sensorFault then
        post (.trunk n) .trunkSensorRestored (s.setTrunk n ((s.trunk n).sampled ‹_›)) else s.setTrunk n ((s.trunk n).sampled ‹_›)) :=
      ite_closed hs hs
    exact ite_closed (post_booked _ _ restored) restored

theorem sampleBath_booked (reading : Option Int) (hs : Booked L s) : Booked L (sampleBath reading s) := by
  have guarded : ∀ v u, Booked L u → Booked L (freezeGuard v u) := fun _ _ hu =>
    ite_closed (ite_closed hu hu) (ite_closed hu hu)
  unfold sampleBath
  split
  · exact ite_closed hs hs
  · exact guarded _ _ (ite_closed hs hs)

theorem sampleAll_booked (returns : Vector (Option Int) 12) (bath : Option Int) (hs : Booked L s) :
    Booked L (sampleAll returns bath s) := by
  have second : Booked L (coolingSecond s) := ite_closed (P := Booked L) hs hs
  have first : Booked L (firstFaultReading (coolingSecond s)) := ite_closed second second
  exact sampleBath_booked bath (foldl_closed (fun _ n hu => sampleTrunk_booked n _ hu) _ _ first)

theorem stageFails_booked (i : Nat) (hs : Booked L s) : Booked L (stageFails i s) := by
  have switched : Booked L (if (s.stage i).running then allocate (switchStage i false s) else s) := ite_closed hs hs
  exact ite_closed hs (post_booked _ _ switched)

/-! #### The step -/

section step

variable (h : EntryKept L)
include h

/-- An event that leads to `t` leads to a state that has the law. -/
theorem exec_event_booked {i : Instr} (hd : decisionOf i = none) (ht : exec i s = .next t) (hs : Booked L s) : Booked L t := by
  cases i <;> cases hd
  case unknownRequest k g b => cases ht; exact event_booked (fun _ => receiveWhole_booked h k g b) hs
  case busyReply k g b => cases ht; exact event_booked (fun _ => receiveWhole_booked h k g b) hs
  case frameDiscarded f => cases ht; exact event_booked (fun _ => frameArrives_booked h _ _) hs
  case interByteTimeout => cases ht; exact event_booked (fun _ hu => ite_closed hu hu) hs
  case startMarkerReceived => cases ht; exact event_booked (fun _ => receiveByte_booked h _) hs
  case replyTransmitted x => cases ht; exact replyEnds_booked h _ _ hs
  case noticeTransmitted =>
    cases ht
    refine event_booked (fun u hu => ?_) hs
    unfold noticeSent
    split
    all_goals exact hu
  case noticePaceWaitEnd => cases ht; exact event_booked (fun _ hu => hu) hs
  case clockSecond => cases ht; exact countSecond_booked hs
  case cleaningDueAgeCheck => cases ht; exact event_booked (fun _ => ageCheck_booked) hs
  case mainPowerFail => cases ht; exact hs
  case backupSupplyBelowMinimum => cases ht; exact ite_closed hs hs
  case powerUp b x => cases ht; exact ite_closed hs (ite_closed hs (beginStart_booked h _ _ _ hs))
  case resetAsserted => cases ht; exact hs
  case resetReleased x => cases ht; exact ite_closed hs (ite_closed (beginStart_booked h _ _ _ hs) hs)
  case replyWindowExpiry => cases ht; exact event_booked (fun _ => missExchange_booked) hs
  case replyByteGapTimeout => cases ht; exact event_booked (fun _ => missExchange_booked) hs
  case replyFormatBroken => cases ht; exact event_booked (fun _ => missExchange_booked) hs
  case replyReceived b => cases ht; exact event_booked (fun _ => receiveReply_booked h b) hs
  case emptyRoundExpiry => cases ht; exact event_booked (fun _ => emptyRoundEnds_booked) hs
  case foamOnBeerTrip n =>
    cases ht
    exact event_booked (fun _ => detectorTrip_booked h n) (show Booked L (setDetectorPin n false s) from hs)
  case detectorRearm n => cases ht; exact event_booked (fun _ hu => hu) (show Booked L (setDetectorPin n true s) from hs)
  case cellarMeterPulse n => cases ht; exact event_booked (fun u => booked_of_onlyLine (cellarPulse_onlyLine n u)) hs
  case sensorSample r b => cases ht; exact event_booked (fun _ => sampleAll_booked r b) hs
  case alarmTimerExpiry n => cases ht; exact event_booked (fun _ hu => ite_closed hu hu) hs
  case releaseTimerExpiry n => cases ht; exact event_booked (fun _ => releaseExpiry_booked n) hs
  case controlPeriodExpiry => cases ht; exact event_booked (fun _ hu => stageStep_booked hu) hs
  case dutyWindowStart => cases ht; exact event_booked (fun _ hu => hu) hs
  case valveDutyExpiry n => cases ht; exact event_booked (fun _ hu => ite_closed hu hu) hs
  case stageFault i =>
    simp only [exec, execStageFault] at ht
    split at ht <;> cases ht
    · exact hs
    · exact event_booked (fun _ => stageFails_booked i) (show Booked L (setStagePin i true s) from hs)
  case stageRestored i =>
    simp only [exec, execStageRestored] at ht
    split at ht <;> cases ht
    · exact event_booked (fun _ hu => ite_closed hu hu) (show Booked L (setStagePin i false s) from hs)
    · exact hs
  case circuitMeterPulse c => cases ht; exact event_booked (fun _ => circuitPulse_booked h c) hs
  case conductivityReading c r => cases ht; exact event_booked (fun _ => conductivity_booked h c r) hs
  case supplyLow c u b =>
    cases ht
    exact event_booked (fun _ hu => ite_closed (supplyFault_booked h c u hu) hu) (by cases u <;> exact hs)
  case flowTimerExpiry c => cases ht; exact event_booked (fun _ => flowExpiry_booked h c) hs
  case timedStepExpiry c => cases ht; exact event_booked (fun _ => timedExpiry_booked h c) hs
  case calSwitchOff b =>
    cases ht
    exact event_booked (fun _ hu => ite_closed hu hu) (show Booked L (setCalSwitch (!b) s) from hs)
  case calWindowTimeout => cases ht; exact event_booked (fun _ hu => hu) hs

/-- A command that leads to `t` leads to a state that has the law. -/
theorem exec_booked (i : Instr) (ht : exec i s = .next t) (hs : Booked L s) : Booked L t := by
  cases hd : decisionOf i with
  | some f =>
    obtain ⟨k, hk⟩ := exec_of_decision hd s
    rw [hk] at ht
    cases ht
    exact event_booked (fun _ => receiveFrame_booked _ _ fun _ => decision_booked h hd) hs
  | none => exact exec_event_booked h hd ht hs

/-- A law of the books that every entry keeps is kept by every step. -/
theorem step_booked (ht : step s = .next t) (hs : Booked L s) : Booked L t := by
  unfold step at ht
  split at ht
  · cases ht
    exact hs
  · exact exec_booked h _ ht hs

end step

/-- Settles O52: the law of the journal is a law of the books that every entry keeps. -/
theorem stepKeepsJournal : Obligations.StepKeepsJournal := fun _ _ hs ht => step_booked numbered_kept ht hs

/-- Settles O57: the books stay balanced at every tap whose tallies have not saturated, and after the step none has. -/
theorem stepKeepsConservation : Obligations.StepKeepsConservation := by
  intro s t hs ht below i hi
  have before : s.books.Balanced := fun j hj _ => by
    have law := hs j hj
    rw [heldVolume_eq] at law
    exact law.trans (Nat.add_assoc _ _ _)
  obtain ⟨portion, free, prime, released, unjournalled⟩ := below i hi
  rw [heldVolume_eq]
  exact (step_booked balanced_kept ht before i hi ⟨portion, free, prime, released, unjournalled⟩).trans (Nat.add_assoc _ _ _).symm

end Sys2Proof.Machine
end

section
/-! ### The taking of a record (O33) -/

namespace Sys2Proof.Machine

open Sys2Proof Sys2Proof.Safety

/-- A record the journal has room for joins the newest end, and HIGH is noted at 3,584 records (R91 to R93, R101). -/
theorem takeRecord_of_stores {b : RecordBody} {s : State} (h : s.acct.stores b = true) : takeRecord b s = { s with
    acct := { s.acct with
      journal := s.acct.journal ++ [s.recordOf b], nextSeq := s.acct.nextSeq + 1
      pourPurge := s.acct.pourPurge + (if b.isPourPurge then 1 else 0)
      highNoted := s.acct.highNoted || decide (3584 ≤ s.acct.journal.length + 1) }
    link := { s.link with
      notices := if s.acct.highNoted = false ∧ 3584 ≤ s.acct.journal.length + 1
        then mergeNotice .journal .journalHigh s.link.notices else s.link.notices } } := by
  have length : (s.acct.journal ++ [s.recordOf b]).length = s.acct.journal.length + 1 := by simp
  have counts : (if b.isPourPurge then s.acct.pourPurge + 1 else s.acct.pourPurge)
      = s.acct.pourPurge + (if b.isPourPurge then 1 else 0) := by split <;> rfl
  rw [takeRecord, if_pos h, storeRecord, counts]
  unfold noteHigh post
  simp only [length, Config.highWater]
  by_cases full : 3584 ≤ s.acct.journal.length + 1
  · cases noted : s.acct.highNoted <;> simp [full]
  · simp [full]

/-- A record the journal has no room for is lost, counted, and FULL is noted (R99 to R101). -/
theorem takeRecord_of_not_stores {b : RecordBody} {s : State} (h : ¬ s.acct.stores b = true) : takeRecord b s = { s with
    acct := { s.acct.countUnstored b with fullNoted := true }
    link := { s.link with
      notices := if s.acct.fullNoted then s.link.notices else mergeNotice .journal .journalFull s.link.notices } } := by
  have noted : (s.acct.countUnstored b).fullNoted = s.acct.fullNoted := by cases b <;> rfl
  rw [takeRecord, if_neg h]
  unfold noteFull post
  simp only [noted]
  by_cases full : s.acct.fullNoted = true
  · simp only [full, if_true]
    rw [← full, ← noted]
  · simp only [full, Bool.false_eq_true, if_false]

theorem isPourPurge_iff (b : RecordBody) : b.isPourPurge = true ↔ (∃ p, b = .pour p) ∨ ∃ l c p v, b = .purge l c p v := by
  cases b <;> simp [RecordBody.isPourPurge]

/-- Settles O33: the store test is the room the statement names, and each outcome is one record update. -/
theorem takeRecord_holds : Obligations.TakeRecord := by
  intro b s
  have room := (stores_iff s b).trans (and_congr_right fun _ => and_congr_right fun _ => imp_congr_left (isPourPurge_iff b))
  refine ⟨fun h => takeRecord_of_stores (room.mpr h), fun h => ?_, isPourPurge_iff b⟩
  have lost := takeRecord_of_not_stores fun hs => h (room.mp hs)
  cases b <;> exact lost

end Sys2Proof.Machine
end

section
/-! ### Journal and totals requests (O34, O35, O36) -/

namespace Sys2Proof.Machine

open Sys2Proof Sys2Proof.Safety

/-! #### Records by their numbers (R91) -/

section numbered

variable {rs : List Record} {o : Nat} (h : rs.map (·.seq) = List.range' o rs.length)
include h

theorem numbered_tail {r : Record} {rest : List Record} (hr : rs = r :: rest) :
    r.seq = o ∧ rest.map (·.seq) = List.range' (o + 1) rest.length := by
  subst hr
  rw [List.map_cons, List.length_cons, List.range'_succ] at h
  exact ⟨(List.cons.inj h).1, (List.cons.inj h).2⟩

/-- The records numbered `n` or lower are the oldest. -/
theorem filter_le_seq (n : Nat) : rs.filter (fun r => r.seq ≤ n) = rs.take (n + 1 - o) := by
  induction rs generalizing o with
  | nil => simp
  | cons r rest ih =>
    obtain ⟨first, later⟩ := numbered_tail h rfl
    rw [List.filter_cons, ih later, first]
    by_cases hn : o ≤ n
    · rw [if_pos (by simpa using hn), show n + 1 - o = n + 1 - (o + 1) + 1 by omega, List.take_succ_cons]
    · rw [if_neg (by simpa using hn), show n + 1 - o = 0 by omega, show n + 1 - (o + 1) = 0 by omega, List.take_zero, List.take_zero]

/-- The records numbered above `n` are the newest. -/
theorem filter_lt_seq (n : Nat) : rs.filter (fun r => n < r.seq) = rs.drop (n + 1 - o) := by
  induction rs generalizing o with
  | nil => simp
  | cons r rest ih =>
    obtain ⟨first, later⟩ := numbered_tail h rfl
    rw [List.filter_cons, ih later, first]
    by_cases hn : o ≤ n
    · rw [if_neg (by simpa using hn), show n + 1 - o = n + 1 - (o + 1) + 1 by omega, List.drop_succ_cons]
    · rw [if_pos (by simpa using hn), show n + 1 - o = 0 by omega, show n + 1 - (o + 1) = 0 by omega, List.drop_zero, List.drop_zero]

/-- The records numbered `n` or higher are the newest. -/
theorem filter_ge_seq (n : Nat) : rs.filter (fun r => n ≤ r.seq) = rs.drop (n - o) := by
  cases n with
  | zero => simp
  | succ n => exact filter_lt_seq h n

theorem seq_getElem {k : Nat} (hk : k < rs.length) : rs[k].seq = o + k := by
  have at_k := congrArg (·[k]?) h
  simpa [hk] using at_k

end numbered

variable {tag : Byte} {s : State}

/-! #### JOURNAL READ (R98) -/

/-- Number of the first of the records a read returns, the next number where it returns none (R98). -/
def firstSeq (next : Nat) (found : List Record) : Nat :=
  match found with
  | [] => next
  | r :: _ => r.seq

/-- A read returns the first 8 records numbered `n` or higher. -/
theorem journalRead_found (law : JournalLaw s) (n : Nat) :
    readRecords s.acct n = (s.acct.journal.filter fun r => n ≤ r.seq).take 8
      ∧ readFrom s.acct n = firstSeq s.acct.nextSeq ((s.acct.journal.filter fun r => n ≤ r.seq).take 8) := by
  obtain ⟨seqs, below, -⟩ := law
  rw [filter_ge_seq seqs]
  unfold readRecords readFrom Accounts.oldest Accounts.newest
  by_cases none : s.acct.journal.length ≤ n - (s.acct.nextSeq - s.acct.journal.length)
  · have past : (s.acct.journal.isEmpty || decide (s.acct.nextSeq - 1 < n)) = true := by
      rw [Bool.or_eq_true, List.isEmpty_iff_length_eq_zero, decide_eq_true_eq]
      omega
    rw [if_pos past, if_pos past, List.drop_eq_nil_of_le none]
    exact ⟨rfl, rfl⟩
  · have within : ¬ (s.acct.journal.isEmpty || decide (s.acct.nextSeq - 1 < n)) = true := by
      rw [Bool.or_eq_true, List.isEmpty_iff_length_eq_zero, decide_eq_true_eq]
      omega
    have places : max n (s.acct.nextSeq - s.acct.journal.length) - (s.acct.nextSeq - s.acct.journal.length)
        = n - (s.acct.nextSeq - s.acct.journal.length) := by omega
    rw [if_neg within, if_neg within, places]
    refine ⟨rfl, ?_⟩
    rw [List.drop_eq_getElem_cons (Nat.lt_of_not_le none), List.take_succ_cons]
    show _ = Record.seq _
    rw [seq_getElem seqs]
    omega

/-! #### JOURNAL RELEASE (R97) -/

theorem releaseRecord_frame (s : State) (r : Record) :
    releaseRecord s r = { s with pour := { s.pour with taps := (releaseRecord s r).pour.taps } } := by
  unfold releaseRecord
  split <;> rfl

theorem foldl_releaseRecord_frame (gone : List Record) (s : State) : gone.foldl releaseRecord s
    = { s with pour := { s.pour with taps := (gone.foldl releaseRecord s).pour.taps } } :=
  foldl_closed (P := fun u => u = { s with pour := { s.pour with taps := u.pour.taps } }) (fun u r hu => by
    rw [releaseRecord_frame]
    rw [hu]) gone s rfl

theorem releaseRecords_frame (k : Nat) (s : State) : releaseRecords k s = { s with
    acct := s.acct.release k, pour := { s.pour with taps := (releaseRecords k s).pour.taps } } := by
  have frame := foldl_releaseRecord_frame (s.acct.journal.take k) s
  have acct := foldl_releaseRecord_acct (s.acct.journal.take k) s
  unfold releaseRecords
  generalize (s.acct.journal.take k).foldl releaseRecord s = u at frame acct
  simp only [acct]
  rw [frame]

/-- Under the law of the journal a release leaves the count of the kept POUR and PURGE records, and clears the noted flags (R97, R101). -/
theorem release_acct (law : JournalLaw s) (k : Nat) : s.acct.release k = { s.acct with
    journal := s.acct.journal.drop k, pourPurge := (s.acct.journal.drop k).countP (fun r => r.body.isPourPurge)
    fullNoted := if s.acct.journal.take k = [] then s.acct.fullNoted else false
    highNoted := if (s.acct.journal.drop k).length < 3584 then false else s.acct.highNoted } := by
  obtain ⟨-, -, -, -, counted, -⟩ := numbered_drop k ((journalLaw_iff s).mp law)
  have full : (if (s.acct.journal.drop k).length < s.acct.journal.length then false else s.acct.fullNoted)
      = if s.acct.journal.take k = [] then s.acct.fullNoted else false := by
    have some_gone : (s.acct.journal.drop k).length < s.acct.journal.length ↔ ¬ s.acct.journal.take k = [] := by
      rw [List.length_drop, List.take_eq_nil_iff, ← List.length_eq_zero_iff]
      omega
    by_cases gone : s.acct.journal.take k = []
    · rw [if_neg fun hx => some_gone.mp hx gone, if_pos gone]
    · rw [if_pos (some_gone.mpr gone), if_neg gone]
  have counts : s.acct.pourPurge - (s.acct.journal.take k).countP (fun r => r.body.isPourPurge)
      = (s.acct.journal.drop k).countP fun r => r.body.isPourPurge := counted
  simp only [Accounts.release, full, counts]
  rfl

/-- A release in its range is answered with the number of records that left and the status they leave. -/
theorem journalRelease_accepted (ready : Ready s) {n : Nat} (low : s.acct.oldest ≤ n + 1) (high : n ≤ s.acct.newest) :
    let t := releaseRecords (n + 1 - s.acct.oldest) (hunting s)
    exec (.journalRelease tag n) s = .next (replied .journalRelease tag .ok
      (.released (s.acct.journal.take (n + 1 - s.acct.oldest)).length t.acct.status) t) := by
  have frame := releaseRecords_frame (n + 1 - s.acct.oldest) (hunting s)
  have accepted : decideJournalRelease n (hunting s)
      = acceptWith (.released (s.acct.journal.length - (releaseRecords (n + 1 - s.acct.oldest) (hunting s)).acct.journal.length)
          (releaseRecords (n + 1 - s.acct.oldest) (hunting s)).acct.status) (releaseRecords (n + 1 - s.acct.oldest) (hunting s)) :=
    if_neg (by
      rw [Bool.or_eq_true, decide_eq_true_eq, decide_eq_true_eq]
      exact fun hx => hx.elim (Nat.not_lt.mpr low) (Nat.not_lt.mpr high))
  have length : s.acct.journal.length - (releaseRecords (n + 1 - s.acct.oldest) (hunting s)).acct.journal.length
      = (s.acct.journal.take (n + 1 - s.acct.oldest)).length := by
    rw [frame]
    show _ - (s.acct.journal.drop _).length = _
    rw [List.length_drop, List.length_take]
    omega
  rw [← length]
  exact exec_accepted ready rfl accepted (by rw [frame]; rfl)

/-- A release out of its range is refused, and the reply carries the status (R97, R98). -/
theorem journalRelease_refused (ready : Ready s) {n : Nat} (bad : n + 1 < s.acct.oldest ∨ s.acct.newest < n) :
    exec (.journalRelease tag n) s = .next (replied .journalRelease tag .range (.journalStatus s.acct.status) (hunting s)) := by
  have refusal : decideJournalRelease n (hunting s) = refuseWith .range (.journalStatus s.acct.status) (hunting s) :=
    if_pos (by rwa [Bool.or_eq_true, decide_eq_true_eq, decide_eq_true_eq])
  show Host.Outcome.next (request .journalRelease tag (decideJournalRelease n) s) = _
  rw [request_replied ready .journalRelease tag (decideJournalRelease n) (by rw [refusal]; simp [refuseWith]) (by rw [refusal]; rfl)
    (by rw [refusal]; rfl), refusal]
  rfl

/-- Settles O34: the law of the journal turns numbers into places, and a release moves each POUR to its tap. -/
theorem journalRequests : Obligations.JournalRequests := by
  intro tag n s ready law
  obtain ⟨seqs, -⟩ := id law
  have gone := filter_le_seq seqs n
  have kept := filter_lt_seq seqs n
  have frame := releaseRecords_frame (n + 1 - s.acct.oldest) (hunting s)
  refine ⟨?_, journalRelease_refused ready, fun low high =>
    ⟨releaseRecords (n + 1 - s.acct.oldest) (hunting s), ?_, ?_, ?_, fun i hi => ?_⟩⟩
  · obtain ⟨found, first⟩ := journalRead_found law n
    refine exec_accepted ready rfl ?_ rfl
    show acceptWith (.records (readFrom s.acct n) (readRecords s.acct n) s.acct.status) (hunting s) = _
    rw [found, first]
    rfl
  · rw [gone]
    exact journalRelease_accepted ready low high
  · rw [frame]
    rfl
  · rw [gone, kept, frame]
    exact release_acct law _
  · rw [gone]
    exact foldl_releaseRecord_tap _ _ hi

/-! #### TOTALS READ and HISTOGRAM READ (R105) -/

/-- Settles O35: the scope names a tap, a product or a line, or nothing. -/
theorem totalsReads : Obligations.TotalsReads := by
  intro tag n s ready
  refine ⟨fun hn => ?_, fun hn => ?_, fun p hp => ?_, fun none => ?_, fun hn => ?_, fun hn => ?_, fun scope hs => ?_⟩
  · have scope : totalsScopeOf 0 n = some (.tap n) := if_neg (Nat.not_lt.mpr hn)
    exact exec_accepted ready rfl (by rw [decideTotalsRead, scope]; rfl) rfl
  · have scope : totalsScopeOf 0 n = none := if_pos hn
    exact exec_refused ready rfl (by rw [decideTotalsRead, scope])
  · have entry : productEntry (hunting s) n = some p := hp
    exact ⟨exec_accepted ready rfl (by simp only [decideTotalsRead, totalsScopeOf, entry]) rfl,
      exec_accepted ready rfl (by rw [decideHistogramRead, entry]) rfl⟩
  · have entry : productEntry (hunting s) n = .none := (productEntry_eq_none_iff (hunting s) n).mpr none
    exact ⟨exec_refused ready rfl (by simp only [decideTotalsRead, totalsScopeOf, entry]),
      exec_refused ready rfl (by rw [decideHistogramRead, entry])⟩
  · have scope : totalsScopeOf 2 n = some (.line n) := if_neg (Nat.not_lt.mpr hn)
    exact exec_accepted ready rfl (by rw [decideTotalsRead, scope]; rfl) rfl
  · have scope : totalsScopeOf 2 n = none := if_pos hn
    exact exec_refused ready rfl (by rw [decideTotalsRead, scope])
  · obtain ⟨k, rfl⟩ : ∃ k, scope = k + 3 := ⟨scope - 3, by omega⟩
    have unknown : totalsScopeOf (k + 3) n = none := rfl
    exact exec_refused ready rfl (by rw [decideTotalsRead, unknown])

/-! #### TOTALS CLEAR and RECONCILE (R106, R112) -/

theorem totalsClear_accepted (ready : Ready s) (empty : s.acct.journal = []) :
    exec (.totalsClear tag) s = .next (replied .totalsClear tag .ok .none (clearTotals (hunting s))) :=
  exec_accepted ready rfl (if_pos (List.isEmpty_iff.mpr empty)) rfl

theorem reconcile_accepted (ready : Ready s) {n : Nat} (hn : n ≤ 47) : exec (.reconcile tag n) s
    = .next (replied .reconcile tag .ok
        (.reconciled n (s.line n).cellarDrawn (s.line n).tapPoured (((s.line n).cellarDrawn : Int) - (s.line n).tapPoured)
          (headFigures (s.line n)).1 (headFigures (s.line n)).2.1 (headFigures (s.line n)).2.2)
        ((hunting s).setLine n { s.line n with cellarDrawn := 0, tapPoured := 0 })) :=
  exec_accepted ready rfl (if_neg (Nat.not_lt.mpr hn)) rfl

/-- Settles O36: a clear needs an empty journal, a reconcile a line of the part. -/
theorem clearAndReconcile : Obligations.ClearAndReconcile := by
  intro tag s ready
  refine ⟨fun held => ?_, fun empty => ⟨(clearTotals s).pour.taps, totalsClear_accepted ready empty, fun i hi => ?_⟩, fun n hn => ?_,
    fun n hn => ⟨fun chain => ?_, fun k rest chain => ?_⟩⟩
  · exact exec_refused ready rfl (if_neg fun empty => held (List.isEmpty_iff.mp empty))
  · have tap : s.pour.taps[i]? = some (s.tap i) := by simp [State.tap, hi]
    rw [clearTotals, Vector.getElem?_map, tap]
    rfl
  · exact exec_refused ready rfl (if_pos hn)
  · have figures : headFigures (s.line n) = (0, 0, 0) := by rw [headFigures, chain]
    rw [reconcile_accepted ready hn, figures]
  · have figures : headFigures (s.line n) = (k.id, k.frozen + (k.pulses * (s.line n).gain + 500) / 1000, k.poured) := by
      rw [headFigures, chain, ← drawnVolume_eq]
    rw [reconcile_accepted ready hn, figures]

end Sys2Proof.Machine
end

section
/-! ### The beginning of a step (O49) -/

namespace Sys2Proof.Machine

open Sys2Proof Sys2Proof.Safety

section begins

variable {c : Circuit} {s : State} {st : Step}

/-- The circuit with the figures of a beginning step (R148, R158). -/
def stepSet (c : Circuit) (st : Step) (s : State) : State := s.setCircuit c { s.circuit c with
  target := if st.kind = .pause then 0 else if st.kind = .soak ∨ st.kind = .circulate then st.amount
    else st.amount * (s.circuit c).batch.length
  progress := 0, pulses := 0, settle := 0, settling := false, flowTimer := 0 }

theorem stepTarget_eq (st : Step) (size : Nat) : stepTarget st size
    = if st.kind = .pause then 0 else if st.kind = .soak ∨ st.kind = .circulate then st.amount else st.amount * size := by
  unfold stepTarget
  cases st.kind <;> rfl

theorem atStep_eq_stepSet : s.modCircuit c (fun r => r.atStep st) = stepSet c st s := by
  rw [State.modCircuit_eq, CircuitRec.atStep, stepTarget_eq, stepSet]

theorem stepSet_batch : ((stepSet c st s).circuit c).batch = (s.circuit c).batch := by
  rw [stepSet, State.circuit_setCircuit_self]

/-- Some tap routed to a line of the batch is unlocked (R158). -/
def LooseBatch (c : Circuit) (s : State) : Prop :=
  ∃ n ∈ (s.circuit c).batch, ∃ i, i < 128 ∧ (s.tap i).route.line = some n ∧ (s.tap i).lockout = false

theorem batchLocked_iff : batchLocked (stepSet c st s) c = true ↔ ¬ LooseBatch c s := by
  have locked : ∀ n, tapsLocked (stepSet c st s) n = true ↔ Locked s n := fun n => tapsLocked_iff (stepSet c st s) n
  simp only [batchLocked, List.all_eq_true, stepSet_batch, locked]
  constructor
  · rintro h ⟨n, hn, i, -, routed, free⟩
    exact Bool.false_ne_true (free.symm.trans (h n hn i routed))
  · intro h n hn i routed
    by_contra free
    have hi : i < 128 := by
      by_contra hx
      rw [State.tap_of_ge (Nat.not_lt.mp hx)] at routed
      exact absurd routed (by simp [coldTap, Route.dark])
    exact h ⟨n, hn, i, hi, routed, by simpa using free⟩

/-- The step of the circuit's index begins: a fault ends the batch, otherwise the circuit is as `beginStep` leaves it. -/
theorem startStep_of_fault {f : FaultKind} (at_step : currentStep s c = some st)
    (fault : admissionFault (stepSet c st s) c st.kind = some f) : startStep c s = finishBatch c (.fault f) (stepSet c st s) := by
  rw [← atStep_eq_stepSet] at fault ⊢
  unfold startStep beginStep
  simp only [at_step, fault]

theorem startStep_of_admitted (at_step : currentStep s c = some st) (admitted : admissionFault (stepSet c st s) c st.kind = none) :
    (st.kind = .fill → startStep c s = markBatch c true (stepSet c st s))
      ∧ (st.kind = .pause → startStep c s = pauseCircuit c .pauseStep (stepSet c st s))
      ∧ (st.kind ≠ .fill → st.kind ≠ .pause → startStep c s = stepSet c st s) := by
  rw [← atStep_eq_stepSet] at admitted ⊢
  unfold startStep beginStep
  simp only [at_step, admitted]
  cases st.kind <;> simp

theorem markBatch_stepSet (on : Bool) : markBatch c on (stepSet c st s)
    = (s.circuit c).batch.foldl (fun u n => u.setLine n { u.line n with mark := on }) (stepSet c st s) := by
  rw [markBatch, stepSet_batch]
  rfl

/-- The faults that keep a step from beginning, in their order (R158). -/
theorem admissionFault_stepSet (c : Circuit) (st : Step) (s : State) :
    (st.kind = .fill → LooseBatch c s → admissionFault (stepSet c st s) c st.kind = some .lockout)
      ∧ (st.kind = .fill → ¬ LooseBatch c s → s.pins.solutionLow.sel c = true →
          admissionFault (stepSet c st s) c st.kind = some .supply)
      ∧ (st.kind = .fill → ¬ LooseBatch c s → s.pins.solutionLow.sel c = false → admissionFault (stepSet c st s) c st.kind = none)
      ∧ (st.kind = .purge ∨ st.kind = .rinse ∨ st.kind = .verify → s.pins.waterLow.sel c = true →
          admissionFault (stepSet c st s) c st.kind = some .supply)
      ∧ (st.kind = .purge ∨ st.kind = .rinse ∨ st.kind = .verify → s.pins.waterLow.sel c = false →
          admissionFault (stepSet c st s) c st.kind = none)
      ∧ (st.kind = .soak ∨ st.kind = .circulate ∨ st.kind = .pause → admissionFault (stepSet c st s) c st.kind = none) := by
  have pins : (stepSet c st s).pins = s.pins := rfl
  have locked : batchLocked (stepSet c st s) c = true ↔ ¬ LooseBatch c s := batchLocked_iff
  unfold admissionFault
  rw [pins]
  refine ⟨fun hk loose => ?_, fun hk tight low => ?_, fun hk tight full => ?_, fun hk low => ?_, fun hk full => ?_, fun hk => ?_⟩
  · have unlocked : batchLocked (stepSet c st s) c = false := by
      rw [← Bool.not_eq_true, locked]
      exact not_not_intro loose
    simp [hk, unlocked]
  · simp [hk, locked.mpr tight, low]
  · simp [hk, locked.mpr tight, full, StepKind.drawsWater]
  · obtain hk | hk | hk := hk <;> simp [hk, low, StepKind.drawsWater]
  · obtain hk | hk | hk := hk <;> simp [hk, full, StepKind.drawsWater]
  · obtain hk | hk | hk := hk <;> simp [hk, StepKind.drawsWater]

end begins

/-! #### The PURGE records of a step (R162) -/

section completes

variable {c : Circuit} {s u : State}

/-- From `s` to `u` at most circuit `c`'s unstored-purge count changes of what the completion of a step reads of the circuit. -/
structure SameRun (c : Circuit) (s u : State) : Prop where
  circuit : u.circuit c = { s.circuit c with unstoredPurge := (u.circuit c).unstoredPurge }
  programs : u.clean.programs = s.clean.programs

/-- A PURGE record taken, or the circuit's unstored-purge count raised where the journal has no room (R99, R162). -/
def purgeTaken (c : Circuit) (p : Nat) (u : State) (n : Nat) : State :=
  let v := takeRecord (.purge n c p (u.line n).config.fillVolume) u
  if u.acct.journal.length < 4096 ∧ u.acct.nextSeq ≤ 4294967295 ∧ u.acct.pourPurge < 4032 then v
  else v.setCircuit c { v.circuit c with unstoredPurge := min 4294967295 ((v.circuit c).unstoredPurge + 1) }

theorem takePurge_eq (c : Circuit) (n p : Nat) (u : State) :
    takePurge c n p (u.line n).config.fillVolume u = purgeTaken c p u n := by
  have room : u.acct.stores (.purge n c p (u.line n).config.fillVolume) = true
      ↔ u.acct.journal.length < 4096 ∧ u.acct.nextSeq ≤ 4294967295 ∧ u.acct.pourPurge < 4032 := by
    rw [stores_iff]
    exact and_congr_right fun _ => and_congr_right fun _ => ⟨fun h => h rfl, fun h _ => h⟩
  unfold takePurge purgeTaken
  simp only []
  by_cases h : u.acct.stores (.purge n c p (u.line n).config.fillVolume) = true
  · rw [if_pos h, if_pos (room.mp h)]
  · rw [if_neg h, if_neg fun hx => h (room.mpr hx)]
    rfl

theorem purgeTaken_sameRun (p n : Nat) (h : SameRun c s u) : SameRun c s (purgeTaken c p u n) := by
  have clean : (takeRecord (.purge n c p (u.line n).config.fillVolume) u).clean = u.clean :=
    (congrArg State.clean (takeRecord_frame _ u)).trans rfl
  have taken : SameRun c s (takeRecord (.purge n c p (u.line n).config.fillVolume) u) :=
    ⟨by rw [State.circuit_congr clean]; exact h.circuit, by rw [clean]; exact h.programs⟩
  refine ite_closed taken ⟨?_, taken.programs⟩
  rw [State.circuit_setCircuit_self, taken.circuit]

/-- The PURGE records of a batch name the circuit's program. -/
theorem postPurges_eq {p : Nat} (hp : (s.circuit c).program = some p) :
    postPurges c s = (s.circuit c).batch.foldl (purgeTaken c p) s ∧ SameRun c s (postPurges c s) := by
  have along : ∀ (L : List Nat) (u : State), SameRun c s u →
      L.foldl (fun s n => takePurge c n ((s.circuit c).program.getD 0) (s.line n).config.fillVolume s) u
        = L.foldl (purgeTaken c p) u ∧ SameRun c s (L.foldl (purgeTaken c p) u) := by
    intro L
    induction L with
    | nil => exact fun u hu => ⟨rfl, hu⟩
    | cons n rest ih =>
      intro u hu
      have program : (u.circuit c).program = some p := by rw [hu.circuit]; exact hp
      obtain ⟨same, run⟩ := ih _ (purgeTaken_sameRun p n hu)
      rw [List.foldl_cons, List.foldl_cons, program, Option.getD_some, takePurge_eq]
      exact ⟨same, run⟩
  obtain ⟨same, run⟩ := along (s.circuit c).batch s ⟨rfl, rfl⟩
  exact ⟨same, by rw [postPurges, same]; exact run⟩

/-! #### The completion of a step (R162) -/

theorem atLastStep_iff {p i : Nat} {g : Program} (hp : (u.circuit c).program = some p) (hg : u.programSlot p = some g)
    (hi : (u.circuit c).stepIndex = some i) : atLastStep u c = true ↔ g.steps.length ≤ i := by
  simp [atLastStep, stepsIn, hp, hg, hi]

/-- The part once a completed step is counted (R162). -/
def stepDone (c : Circuit) (s : State) : State := s.setCircuit c { s.circuit c with stepsDone := (s.circuit c).stepsDone + 1 }

/-- The part once the PURGE records of a completed step are taken (R162). -/
def stepPurged (c : Circuit) (p : Nat) (st : Step) (s : State) : State :=
  if st.kind = .purge then (s.circuit c).batch.foldl (purgeTaken c p) (stepDone c s) else stepDone c s

/-- The part once a completed step with a notify flag has posted its notice (R162). -/
def stepNotified (c : Circuit) (st : Step) (u : State) : State := if st.notify then post (.circuit c) .circuitStep u else u

/-- What follows a completed step: the batch ends, the circuit pauses, or the next step begins (R162). -/
def stepFollowed (c : Circuit) (u : State) : State :=
  if atLastStep u c then finishBatch c .completed u
  else if (u.circuit c).state = .stopping then pauseCircuit c .stop u
  else nextStep c u

theorem stepDone_circuit (c : Circuit) (s : State) :
    (stepDone c s).circuit c = { s.circuit c with stepsDone := (s.circuit c).stepsDone + 1 } := State.circuit_setCircuit_self s c _

theorem stepPurged_eq {p : Nat} (st : Step) (hp : (s.circuit c).program = some p) :
    (if st.kind = .purge then postPurges c (stepDone c s) else stepDone c s) = stepPurged c p st s
      ∧ SameRun c (stepDone c s) (stepPurged c p st s) := by
  obtain ⟨purges, ran⟩ := postPurges_eq (s := stepDone c s) (c := c) (p := p) (by rw [stepDone_circuit]; exact hp)
  have same : (if st.kind = .purge then postPurges c (stepDone c s) else stepDone c s) = stepPurged c p st s := by
    rw [purges, stepDone_circuit]
    rfl
  refine ⟨same, ?_⟩
  rw [← same]
  exact ite_closed (P := SameRun c (stepDone c s)) ran ⟨rfl, rfl⟩

theorem completeStep_followed {p : Nat} (st : Step) (hp : (s.circuit c).program = some p) :
    completeStep c st s = stepFollowed c (stepNotified c st (stepPurged c p st s)) := by
  rw [← (stepPurged_eq st hp).1]
  rfl

theorem stepNotified_sameRun (st : Step) (h : SameRun c s u) : SameRun c s (stepNotified c st u) :=
  ite_closed (P := SameRun c s) ⟨h.circuit, h.programs⟩ h

/-- What follows is decided by the program and the index of the step that has been completed. -/
theorem stepFollowed_eq {p i : Nat} {g : Program} (run : SameRun c (stepDone c s) u) (hp : (s.circuit c).program = some p)
    (hg : s.programSlot p = some g) (hi : (s.circuit c).stepIndex = some i) : stepFollowed c u
      = if g.steps.length ≤ i then finishBatch c .completed u
        else if (s.circuit c).state = .stopping then pauseCircuit c .stop u
        else startStep c (u.setCircuit c { u.circuit c with stepIndex := some (i + 1) }) := by
  have own := run.circuit
  rw [stepDone_circuit] at own
  have index : (u.circuit c).stepIndex = some i := by rw [own]; exact hi
  have program : (u.circuit c).program = some p := by rw [own]; exact hp
  have state : (u.circuit c).state = (s.circuit c).state := by rw [own]
  have slot : u.programSlot p = some g := by
    rw [State.programSlot, run.programs]
    exact hg
  unfold stepFollowed
  rw [state, nextStep, State.modCircuit_eq, index]
  simp only [atLastStep_iff program slot index]
  rfl

end completes

/-- Settles O49: the checks of R158 in their order, then the steps of R162 in theirs. -/
theorem steps : Obligations.Steps := by
  intro c s st
  refine ⟨fun at_step => ?_, fun p g i hp hg hi => ?_⟩
  · obtain ⟨loose, dry, filled, low, full, others⟩ := admissionFault_stepSet c st s
    have admitted := startStep_of_admitted (c := c) (s := s) (st := st) at_step
    refine ⟨fun hk hl => startStep_of_fault at_step (loose hk hl), fun hk hl hs => startStep_of_fault at_step (dry hk hl hs),
      fun hk hl hs => ?_, fun hk hw => startStep_of_fault at_step (low hk hw), fun hk hw => ?_, fun hk => ?_, fun hk => ?_⟩
    · exact ((admitted (filled hk hl hs)).1 hk).trans (markBatch_stepSet true)
    · exact (admitted (full hk hw)).2.2 (fun hx => by simp [hx] at hk) (fun hx => by simp [hx] at hk)
    · exact (admitted (others (hk.imp_right .inl))).2.2 (fun hx => by simp [hx] at hk) (fun hx => by simp [hx] at hk)
    · exact (admitted (others (.inr (.inr hk)))).2.1 hk
  · have run := stepNotified_sameRun st (stepPurged_eq st hp).2
    have completed := (completeStep_followed st hp).trans (stepFollowed_eq run hp hg hi)
    refine ⟨fun last => ?_, fun more stopping => ?_, fun more runs => ?_⟩
    · rw [completed, if_pos last]
      rfl
    · rw [completed, if_neg (Nat.not_le.mpr more), if_pos stopping]
      rfl
    · rw [completed, if_neg (Nat.not_le.mpr more), if_neg runs]
      rfl

end Sys2Proof.Machine
end

section
/-! ### Every request is decided by its owner and counted (O4)

Of all requests CAL OPEN alone changes the calibration window, and not while it is open; so the window that is counted down at the
reply is the window that was open when the request came. -/

namespace Sys2Proof.Machine

open Sys2Proof Sys2Proof.Safety

/-! #### Requests that do what the rules of the plant do -/

section requests

variable {P : State → Prop} (h : PlantClosed P) {s : State}
include h

theorem leaveOffline_closed (n : Nat) (hs : P s) : P (leaveOffline n s) :=
  ite_closed (moveLine_closed h.cleaning _ _ _ (h.cellar _ _ hs)) hs

theorem productChanged_closed (n old : Nat) (hs : P s) : P (productChanged n old s) := by
  refine ite_closed hs ?_
  split
  · exact hs
  · exact changeHolds_closed h.cleaning _ _ _ hs

theorem lineSetState_closed (n : Nat) (c : LineConfig) (hs : P s) : P (lineSetState n c s) :=
  h.post _ _ _ (productChanged_closed h _ _ (recomputeStock_closed h _ _ (checkPrime_closed h _ _
    (leaveOffline_closed h n (h.cellar _ _ hs)))))

theorem clearLine_closed (n : Nat) (hs : P s) : P (clearLine n s) := by
  have posted : ∀ b key cause u, P u → P (postIf b key cause u) := fun _ _ _ _ hu => ite_closed (h.post _ _ _ hu) hu
  have removed : P (removeKegs n s) := foldl_closed (fun _ _ hu => h.record _ _ hu) _ _ hs
  exact h.post _ _ _ (h.post _ _ _ (posted _ _ _ _ (posted _ _ _ _ (posted _ _ _ _ (h.cellar _ _ removed)))))

theorem removeKeg_closed (n id : Nat) (hs : P s) : P (removeKeg n id s) :=
  h.post _ _ _ (recomputeStock_closed h _ _ (h.cellar _ _ hs))

theorem assignTap_closed (t bar : Nat) (hs : P s) : P (assignTap t bar s) :=
  ite_closed (recomputeThreshold_closed h _ _ (h.pour _ _ hs)) (h.bus _ _ (h.pour _ _ hs))

theorem unassignTap_closed (t : Nat) (hs : P s) : P (unassignTap t s) :=
  ite_closed (dropNode_closed h _ _ (h.pour _ _ hs)) (recomputeThreshold_closed h _ _ (h.pour _ _ hs))

theorem swapMaps_closed (hs : P s) : P (swapMaps s) :=
  foldl_closed (fun _ t hu => ite_closed (copyRoute_closed h t _ _ (h.pour _ _ hu)) (h.pour _ _ hu)) _ _ (h.pour _ _ hs)

theorem queueLine_closed (n p : Nat) (hs : P s) : P (queueLine n p s) :=
  evalDrain_closed h.cleaning _ _ (moveLine_closed h.cleaning _ _ _ (h.cellar _ _ (h.clean _ _ hs)))

theorem withdrawLine_closed (n : Nat) (hs : P s) : P (withdrawLine n s) :=
  moveLine_closed h.cleaning _ _ _ (h.clean _ _ hs)

theorem resumeCircuit_closed (c : Circuit) (hs : P s) : P (resumeCircuit c s) := by
  have running := h.cleaning.circuit s c { s.circuit c with state := .running, pauseCause := none } hs
  unfold resumeCircuit
  split
  · exact completeStep_closed h.cleaning _ _ _ running
  · exact nextStep_closed h.cleaning _ _ running

theorem applyCal_closed (m : Meter) (gain offset : Nat) (rReset : Bool) (hs : P s) : P (applyCal m gain offset rReset s) := by
  cases m with
  | tap n => exact recomputeThreshold_closed h _ _ (h.pour _ _ hs)
  | line n => exact h.cellar _ _ hs
  | circuit c => exact h.cleaning.circuit _ _ _ hs

end requests

/-! #### No owner changes the open window -/

/-- The calibration window is `w`. -/
def WindowIs (w : Window) (s : State) : Prop := s.acct.window = w

theorem windowIs_closed (w : Window) : PlantClosed (WindowIs w) where
  cellar _ _ hs := hs
  pour _ _ hs := hs
  bus _ _ hs := hs
  clean _ _ hs := hs
  watch _ _ _ hs := hs
  warm _ _ hs := hs
  post _ _ _ hs := hs
  record _ b hs := (takeRecord_window _ b).trans hs

section window

variable {w : Window} {s : State}

/-- A decision between two that leave the window leaves it. -/
theorem decision_ite_windowIs {c : Prop} [Decidable c] {d e : Decision} (hd : WindowIs w d.state) (he : WindowIs w e.state) :
    WindowIs w (if c then d else e).state := by
  split
  · exact hd
  · exact he

theorem setChiller_windowIs (count points : Nat) (hs : WindowIs w s) : WindowIs w (setChiller count points s) := by
  have set : ∀ c : Prop, [Decidable c] → ∀ u, WindowIs w u → WindowIs w (if c then u else allocate u) :=
    fun _ _ _ hu => ite_closed hu hu
  exact ite_closed (set _ _ hs) (set _ _ hs)

theorem releaseRecords_windowIs (k : Nat) (hs : WindowIs w s) : WindowIs w (releaseRecords k s) := by
  rw [releaseRecords_frame]
  exact hs

/-- CAL OPEN is refused while the window is open (R121). -/
theorem calOpen_windowIs (isOpen : w.isOpen = true) (hs : WindowIs w s) : WindowIs w (decideCalOpen s).state := by
  have already : s.acct.window.isOpen = true := by rwa [show s.acct.window = w from hs]
  refine decision_ite_windowIs hs ?_
  rw [if_pos already]
  exact hs

/-- The owner's decision of any request leaves an open window (R122). -/
theorem decision_windowIs {c : Instr} {f : State → Decision} (hd : decisionOf c = some f) (isOpen : w.isOpen = true)
    (hs : WindowIs w s) : WindowIs w (f s).state := by
  have plant := windowIs_closed w
  cases c <;> cases hd
  case calOpen => exact calOpen_windowIs isOpen hs
  case lineSet n c => exact decision_ite_windowIs hs (lineSetState_closed plant n c hs)
  case lineClear n =>
    exact decision_ite_windowIs hs (decision_ite_windowIs hs (decision_ite_windowIs hs (clearLine_closed plant n hs)))
  case lineHoldApply n stop =>
    have held := changeHolds_closed plant.cleaning n { (s.line n).holds with host := true } s hs
    exact decision_ite_windowIs hs (decision_ite_windowIs hs (ite_closed (stopLine_closed plant n _ held) held))
  case lineHoldRelease n c =>
    exact decision_ite_windowIs hs (decision_ite_windowIs hs (changeHolds_closed plant.cleaning n _ s hs))
  case kegAdd n id p v b =>
    exact decision_ite_windowIs hs (decision_ite_windowIs hs (decision_ite_windowIs hs (decision_ite_windowIs hs
      (addKeg_closed plant n _ s hs))))
  case kegRemove n id =>
    exact decision_ite_windowIs hs (decision_ite_windowIs hs (decision_ite_windowIs hs (removeKeg_closed plant n id hs)))
  case kegSwitch n => exact decision_ite_windowIs hs (decision_ite_windowIs hs (retireHead_closed plant n .switched s hs))
  case returnToService n =>
    exact decision_ite_windowIs hs (decision_ite_windowIs hs (moveLine_closed plant.cleaning n .priming _
      (plant.cellar _ _ hs)))
  case tapSetAssign t b => exact decision_ite_windowIs hs (assignTap_closed plant t b hs)
  case tapSetUnassign t b => exact decision_ite_windowIs hs (decision_ite_windowIs hs (unassignTap_closed plant t hs))
  case tapSetCloseOrphan t b =>
    exact decision_ite_windowIs hs (decision_ite_windowIs hs (recomputeThreshold_closed plant _ _ (closeLost_closed plant t s hs)))
  case chillerSet c p => exact decision_ite_windowIs hs (decision_ite_windowIs hs (setChiller_windowIs c p hs))
  case cleanWithdraw n => exact decision_ite_windowIs hs (decision_ite_windowIs hs (withdrawLine_closed plant n hs))
  case journalRelease n => exact decision_ite_windowIs hs (releaseRecords_windowIs _ hs)
  case watchClear n => exact decision_ite_windowIs hs (replaceWatch_closed plant n _ s hs)
  case routeSwap =>
    refine decision_ite_windowIs hs ?_
    split
    · exact hs
    · simp only [acceptWith_state]
      exact swapMaps_closed plant hs
  case cleanRequest n p =>
    unfold decideCleanRequest
    split
    · exact hs
    · exact queueLine_closed plant n p hs
  case cleanContinue c =>
    unfold decideCleanContinue
    split
    · exact hs
    · exact decision_ite_windowIs hs (resumeCircuit_closed plant _ hs)
  case cleanAbort c =>
    unfold decideCleanAbort
    split
    · exact hs
    · exact decision_ite_windowIs hs (finishBatch_closed plant.cleaning _ _ s hs)
  case watchSet n e =>
    refine decision_ite_windowIs hs ?_
    split
    · exact hs
    · exact replaceWatch_closed plant n _ s hs
  case calWrite k n g o r =>
    refine decision_ite_windowIs hs ?_
    split
    · exact hs
    · refine decision_ite_windowIs hs ?_
      split
      · exact hs
      · exact plant.record _ _ (applyCal_closed plant _ g o r hs)
  case routeWrite m first es =>
    unfold decideRouteWrite
    split
    · exact decision_ite_windowIs hs (decision_ite_windowIs hs hs)
    · exact hs
  case status | timeSet | timeGet | restart | freeLimitsRead | barStateSet | barStateClear | barStateToggle | journalRead =>
    exact hs
  case lineGet | kegList | tapGet | sizeSetWrite | sizeSetRead | freeLimitsWrite | routeCheck | trunkSet | surgeRemove | programRead
      | reconcile | totalsClear =>
    exact decision_ite_windowIs hs hs
  case factoryClear => exact decision_ite_windowIs hs (decision_ite_windowIs hs hs)
  case productRegister | surgeAdd =>
    exact decision_ite_windowIs hs (decision_ite_windowIs hs (decision_ite_windowIs hs hs))
  -- the other requests look a record, a code or an operand up and leave the accounts
  all_goals
    simp only [decideNoticePace, decideProductRemove, decideProductRead, decideRouteRead, decideCoolingGet, decideProgramLoad,
      decideCleanStop, decideCircuitGet, decideTotalsRead, decideHistogramRead, decideWatchGet, decideCalRead]
    repeat' split
  all_goals exact hs

end window

/-! #### The request -/

/-- A command that spells a request has a body, and is the request of that body's kind. -/
theorem encoded_of_decision {c : Instr} {f : State → Decision} (h : decisionOf c = some f) :
    ∃ k b, encodeRequest c = some (k, b) ∧ ∀ s, exec c s = .next (request k (tagOf c) f s) := by
  cases c <;> cases h <;> exact ⟨_, _, rfl, fun _ => rfl⟩

/-- The count of a request whose effect leaves an open window (R122). -/
theorem countFurther_of_window {s e : State} (st : Status) (hw : s.acct.window.isOpen = true → e.acct.window = s.acct.window) :
    countFurther s.acct.window.isOpen st e = if s.acct.window.isOpen = true ∧ st ≠ .busy then counted e else e := by
  split
  · rename_i further
    exact countFurther_eq_counted further.2 (hw further.1)
  · rename_i not_further
    refine if_neg fun counts => not_further ?_
    simp only [Bool.and_eq_true, decide_eq_true_eq] at counts
    exact ⟨counts.1.1, counts.2⟩

/-- Settles O4: the request takes the slot, and its owner leaves the window that is counted down. -/
theorem requestAnswered : Obligations.RequestAnswered := by
  intro c f s hd ready
  obtain ⟨k, b, encoded, run⟩ := encoded_of_decision hd
  have window : s.acct.window.isOpen = true → (f (hunting s)).state.acct.window = s.acct.window := fun isOpen =>
    decision_windowIs (s := hunting s) hd isOpen rfl
  refine ⟨k, b, encoded, ?_⟩
  rw [run, request_of_ready ready, countFurther_of_window _ window]

end Sys2Proof.Machine
end

section
/-! ### STATUS (O32) -/

namespace Sys2Proof.Machine

open Sys2Proof Sys2Proof.Safety

/-- A line is held while its hold set has a cause (R12). -/
theorem holds_ne_empty_eq (h : HoldSet) :
    decide (h ≠ HoldSet.empty) = (h.host || h.keg || h.temp || h.watch || h.overdue) := by
  rw [Bool.eq_iff_iff, decide_eq_true_eq, Ne, holds_eq_empty_iff]
  simp only [Bool.or_eq_true]
  grind

/-- Settles O32: the summary is read from the part as it stands, its held lines by the causes of their hold sets. -/
theorem statusReport : Obligations.StatusReport := by
  intro tag s h
  refine exec_accepted h rfl ?_ rfl
  simp only [decideStatus, summary, holds_ne_empty_eq]
  rfl

end Sys2Proof.Machine
end

section
/-! ### The calibration window and CAL READ (O39) -/

namespace Sys2Proof.Machine

open Sys2Proof Sys2Proof.Safety

section

variable {tag : Byte} {s : State}

/-- CAL OPEN by the switch and the window (R121). An accepted one leaves another window than it found, and is not counted itself. -/
theorem calOpen_spec (h : Ready s) :
    (s.pins.calSwitch = false → exec (.calOpen tag) s = .next (refused .calOpen tag .locked (hunting s)))
      ∧ (s.pins.calSwitch = true → s.acct.window.isOpen = true →
          exec (.calOpen tag) s = .next (refused .calOpen tag .state (hunting s)))
      ∧ (s.pins.calSwitch = true → s.acct.window.isOpen = false →
          exec (.calOpen tag) s = .next (withReply .calOpen tag .ok (.window { isOpen := true, remaining := 4, secondsLeft := 30 })
            none { hunting s with acct := { s.acct with window := { isOpen := true, remaining := 4, openTime := 0 } } })) := by
  refine ⟨fun off => exec_refused h rfl ?_, fun on opened => exec_refused h rfl ?_, fun on shut => ?_⟩
  · simp [decideCalOpen, off]
  · simp [decideCalOpen, on, opened]
  · have decided : decideCalOpen (hunting s) = acceptWith (.window { isOpen := true, remaining := 4, secondsLeft := 30 })
        { hunting s with acct := { s.acct with window := { isOpen := true, remaining := 4, openTime := 0 } } } := by
      simp [decideCalOpen, on, shut, windowView, Config.windowRequests, Config.windowSeconds]
    have run : exec (.calOpen tag) s = .next (request .calOpen tag decideCalOpen s) := rfl
    rw [run, request_of_ready h, decided, shut]
    rfl

/-- The window closes at its expiry and with the switch, and stays as it is when the switch turns on (R122). -/
theorem window_events (takes : s.takesEvents = true) :
    exec .calWindowTimeout s = .next (transmit (closeWindow s))
      ∧ exec (.calSwitchOff true) s = .next (transmit (closeWindow (setCalSwitch false s)))
      ∧ exec (.calSwitchOff false) s = .next (transmit (setCalSwitch true s)) :=
  ⟨congrArg _ (event_of_takes takes), congrArg _ (event_of_takes (s := setCalSwitch false s) takes),
    congrArg _ (event_of_takes (s := setCalSwitch true s) takes)⟩

/-- CAL READ of a named meter: its figures and the window as it stands (R126). -/
theorem calRead_named (h : Ready s) {kind n : Nat} {m : Meter} (hm : meterOf kind n = some m) :
    exec (.calRead tag kind n) s = .next (replied .calRead tag .ok
      (.meterAndWindow (meterFigures s m).1 (meterFigures s m).2.1 (meterFigures s m).2.2 (windowView s)) (hunting s)) := by
  refine exec_accepted h rfl ?_ rfl
  simp only [decideCalRead, hm]
  cases m <;> rfl

/-- CAL READ of a kind or number that names no meter. -/
theorem calRead_unnamed (h : Ready s) {kind n : Nat} (hm : ¬ MeterNamed kind n) :
    exec (.calRead tag kind n) s = .next (refused .calRead tag .range (hunting s)) :=
  exec_refused h rfl (by simp only [decideCalRead, meterOf_unnamed hm])

end

/-- Settles O39: CAL OPEN by its checks, the window's ends, and CAL READ by the meter that is named. -/
theorem calWindowAndRead : Obligations.CalWindowAndRead := by
  refine ⟨⟨fun tag s h => calOpen_spec h, fun s takes => window_events takes⟩, fun tag n s h => ?_⟩
  have unnamed : ∀ kind, ¬ MeterNamed kind n →
      exec (.calRead tag kind n) s = .next (refused .calRead tag .range (hunting s)) := fun _ => calRead_unnamed h
  refine ⟨fun hn => calRead_named h (meterOf_tap hn), fun hn => unnamed 0 ?_, fun hn => calRead_named h (meterOf_line hn),
    fun hn => unnamed 1 ?_, fun hn => ?_, fun hn => ?_, fun hn => unnamed 2 ?_, fun kind hk => unnamed kind ?_⟩
  · unfold MeterNamed; omega
  · unfold MeterNamed; omega
  · subst hn
    exact calRead_named h (m := .circuit .a) rfl
  · subst hn
    exact calRead_named h (m := .circuit .b) rfl
  · unfold MeterNamed; omega
  · unfold MeterNamed; omega

end Sys2Proof.Machine
end

section
/-! ### What the laws of cooling read (O58, O59)

The laws of allocation and of staging read a few figures of each trunk, which stages run, the chiller's settings, the stage inputs and
whether the part takes events. `CoolLaw P` lists what a step can do beyond leaving these; a property that has these parts is kept by
every step. -/

namespace Sys2Proof.Machine

open Sys2Proof Sys2Proof.Safety

/-- The figures of a trunk that the law of allocation reads. -/
structure TrunkFigures where
  demand : Nat
  allocation : Nat
  duty : Nat
  cls : Nat
  allocCls : Nat

def Trunk.figures (t : Trunk) : TrunkFigures := ⟨t.demand, t.allocation, t.dutyInForce, t.cls, t.allocCls⟩

/-- What the laws of cooling read of the part. -/
structure CoolView where
  trunks : Vector TrunkFigures 12
  running : Vector Bool 4
  count : Nat
  points : Nat
  faults : Vector Bool 4
  takes : Bool

def State.coolView (s : State) : CoolView :=
  ⟨s.cool.trunks.map Trunk.figures, s.cool.stages.map (·.running), s.cool.count, s.cool.points, s.pins.stageFault, s.takesEvents⟩

/-- `P` is kept by everything a step can do to what the laws of cooling read. -/
structure CoolLaw (P : State → Prop) : Prop where
  same : ∀ s t, t.coolView = s.coolView → P s → P t
  settings : ∀ s n setpoint kp cls alarm, 1 ≤ cls ∧ cls ≤ 3 → P s → P (s.modTrunk n fun t => t.settings setpoint kp cls alarm)
  chiller : ∀ s count points, runsAbove s count = false → P s → P (setChiller count points s)
  window : ∀ s, P s → P (dutyWindow s)
  period : ∀ s, s.takesEvents = true → P s → P (controlPeriod s)
  off : ∀ s, P s → P (allocate (stopStages s))
  halt : ∀ s store, P s → P { stopPart s with store := store }
  fails : ∀ s (i : Fin 4), P s → P (stageFails i.val (setStagePin i.val true s))
  idlePin : ∀ s i, s.takesEvents = false → P s → P (setStagePin i true s)
  returns : ∀ s i, P s → P (setStagePin i false s)
  restart : ∀ s straps, P s → P (restart straps s)
  coldStart : ∀ s cause straps, P s → P (coldStart cause straps s)

/-! #### Operations that leave the view -/

section view

variable (s : State)

/-- Figures that one trunk's change leaves are left on every trunk. -/
theorem map_setTrunk_same {α : Type} {f : Trunk → α} {n : Nat} {r : Trunk} (h : f r = f (s.trunk n)) :
    (s.setTrunk n r).cool.trunks.map f = s.cool.trunks.map f := by
  refine Vector.ext fun i hi => ?_
  rw [Vector.getElem_map, Vector.getElem_map, State.setTrunk, Vector.getElem_setIfInBounds]
  split
  · rename_i hn
    subst hn
    rw [h]
    simp [State.trunk, hi]
  · rfl

theorem takeRecord_coolView (b : RecordBody) : (takeRecord b s).coolView = s.coolView := by
  rw [takeRecord_frame]
  rfl

/-- A trunk may change in what the laws do not read. -/
theorem setTrunk_coolView {n : Nat} {r : Trunk} (h : r.figures = (s.trunk n).figures) : (s.setTrunk n r).coolView = s.coolView := by
  have trunks : (s.setTrunk n r).cool.trunks.map Trunk.figures = s.cool.trunks.map Trunk.figures := map_setTrunk_same s h
  simp only [State.coolView, trunks]
  rfl

theorem countWarm_coolView (n : Nat) : (countWarm n s).coolView = s.coolView := setTrunk_coolView s rfl

theorem ageStages_coolView (n : Nat) : (ageStages n s).coolView = s.coolView := by
  have running : (s.cool.stages.map fun g => { g with time := satAdd Config.maxStageTime g.time n }).map (·.running)
      = s.cool.stages.map (·.running) := by
    rw [Vector.map_map]
    rfl
  simp only [State.coolView, ageStages, running, State.takesEvents]

theorem coolingSecond_coolView : (coolingSecond s).coolView = s.coolView := by
  unfold coolingSecond
  by_cases h : s.cool.controlTimer < Config.controlSeconds
  · rw [if_pos h]
    exact ageStages_coolView s 1
  · rw [if_neg h]
    rfl

end view

namespace CoolLaw

variable {P : State → Prop} (h : CoolLaw P) {s : State}
include h

/-- No rule of the plant reaches the view. -/
theorem plant : PlantClosed P where
  cellar s _ hs := h.same s _ rfl hs
  pour s _ hs := h.same s _ rfl hs
  bus s _ hs := h.same s _ rfl hs
  clean s _ hs := h.same s _ rfl hs
  watch s _ _ hs := h.same s _ rfl hs
  warm s n hs := h.same s _ (countWarm_coolView s n) hs
  post s _ _ hs := h.same s _ rfl hs
  record s b hs := h.same s _ (takeRecord_coolView s b) hs

theorem post (k : NoticeKey) (c : NoticeCause) (hs : P s) : P (post k c s) := h.plant.post s k c hs

/-! #### Requests -/

omit h in
/-- A decision between two that keep the law keeps it; a refusal keeps it because it leaves the state. -/
theorem decision_ite {c : Prop} [Decidable c] {d e : Decision} (hd : P d.state) (he : P e.state) :
    P (if c then d else e).state := by
  split
  · exact hd
  · exact he

theorem trunkSet (n : Nat) (setpoint : Int) (kp cls : Nat) (alarm : Int) (hs : P s) :
    P (decideTrunkSet n setpoint kp cls alarm s).state := by
  unfold decideTrunkSet
  split
  · exact hs
  · rename_i ok
    have range : 1 ≤ cls ∧ cls ≤ 3 := by
      simp only [trunkOk, Bool.or_eq_true, Bool.not_eq_true', not_or, Bool.and_eq_true, decide_eq_true_eq, Bool.not_eq_false] at ok
      exact ok.2.1.2
    exact h.post _ _ (h.settings s n setpoint kp cls alarm range hs)

theorem chillerSet (count points : Nat) (hs : P s) : P (decideChillerSet count points s).state := by
  unfold decideChillerSet
  refine decision_ite hs ?_
  split
  · exact hs
  · exact h.chiller s count points (Bool.eq_false_iff.mpr ‹_›) hs

theorem releaseRecords (k : Nat) (hs : P s) : P (releaseRecords k s) := by
  rw [releaseRecords_frame]
  exact h.same s _ rfl hs

/-- The owner's decision of any request keeps the law. -/
theorem decision {i : Instr} {f : State → Decision} (hd : decisionOf i = some f) (hs : P s) : P (f s).state := by
  have plant := h.plant
  have same : ∀ t : State, t.coolView = s.coolView → P t := fun t ht => h.same s t ht hs
  cases i <;> cases hd
  case trunkSet n setpoint kp cls alarm => exact h.trunkSet n setpoint kp cls alarm hs
  case chillerSet c p => exact h.chillerSet c p hs
  case lineSet n c => exact decision_ite hs (lineSetState_closed plant n c hs)
  case lineClear n => exact decision_ite hs (decision_ite hs (decision_ite hs (clearLine_closed plant n hs)))
  case lineHoldApply n stop =>
    have held := changeHolds_closed plant.cleaning n { (s.line n).holds with host := true } s hs
    exact decision_ite hs (decision_ite hs (ite_closed (stopLine_closed plant n _ held) held))
  case lineHoldRelease n c => exact decision_ite hs (decision_ite hs (changeHolds_closed plant.cleaning n _ s hs))
  case kegAdd n id p v b =>
    exact decision_ite hs (decision_ite hs (decision_ite hs (decision_ite hs (addKeg_closed plant n _ s hs))))
  case kegRemove n id => exact decision_ite hs (decision_ite hs (decision_ite hs (removeKeg_closed plant n id hs)))
  case kegSwitch n => exact decision_ite hs (decision_ite hs (retireHead_closed plant n .switched s hs))
  case returnToService n =>
    exact decision_ite hs (decision_ite hs (moveLine_closed plant.cleaning n .priming _ (plant.cellar _ _ hs)))
  case tapSetAssign t b => exact decision_ite hs (assignTap_closed plant t b hs)
  case tapSetUnassign t b => exact decision_ite hs (decision_ite hs (unassignTap_closed plant t hs))
  case tapSetCloseOrphan t b =>
    exact decision_ite hs (decision_ite hs (recomputeThreshold_closed plant _ _ (closeLost_closed plant t s hs)))
  case cleanWithdraw n => exact decision_ite hs (decision_ite hs (withdrawLine_closed plant n hs))
  case journalRelease n => exact decision_ite hs (h.releaseRecords _ hs)
  case watchClear n => exact decision_ite hs (replaceWatch_closed plant n _ s hs)
  case routeSwap =>
    refine decision_ite hs ?_
    split
    · exact hs
    · simp only [acceptWith_state]
      exact swapMaps_closed plant hs
  case cleanRequest n p =>
    unfold decideCleanRequest
    split
    · exact hs
    · exact queueLine_closed plant n p hs
  case cleanContinue c =>
    unfold decideCleanContinue
    split
    · exact hs
    · exact decision_ite hs (resumeCircuit_closed plant _ hs)
  case cleanAbort c =>
    unfold decideCleanAbort
    split
    · exact hs
    · exact decision_ite hs (finishBatch_closed plant.cleaning _ _ s hs)
  case watchSet n e =>
    refine decision_ite hs ?_
    split
    · exact hs
    · exact replaceWatch_closed plant n _ s hs
  case calWrite k n g o r =>
    refine decision_ite hs ?_
    split
    · exact hs
    · refine decision_ite hs ?_
      split
      · exact hs
      · exact plant.record _ _ (applyCal_closed plant _ g o r hs)
  -- the other requests leave the view
  all_goals
    simp only [decideStatus, decideNoticePace, decideTimeSet, decideTimeGet, decideRestart, decideFactoryClear,
      decideProductRegister, decideProductRemove, decideProductRead, decideLineGet, decideKegList, decideTapGet,
      decideSizeSetWrite, decideSizeSetRead, decideFreeLimitsWrite, decideFreeLimitsRead, decideRouteWrite, decideRouteRead,
      decideRouteCheck, decideBarStateSet, decideBarStateClear, decideBarStateToggle, decideBarState,
      decideSurgeAdd, decideSurgeRemove, decideCoolingGet, decideProgramLoad, decideProgramRead, decideCleanStop, decideReconcile,
      decideCircuitGet, decideJournalRead, decideTotalsRead, decideTotalsClear, decideHistogramRead, decideWatchGet, decideCalOpen,
      decideCalRead]
    repeat' split
  all_goals exact same _ rfl

/-! #### The link (R173 to R177) -/

theorem setLink (l : Link) (hs : P s) : P (s.setLink l) := h.same s _ rfl hs

theorem transmit (hs : P s) : P (transmit s) := by
  obtain ⟨l, hl⟩ := transmit_eq_setLink s
  rw [hl]
  exact h.setLink l hs

/-- An event acts on a part that takes events. -/
theorem event {f : State → State} (hf : ∀ u, u.takesEvents = true → P u → P (f u)) (hs : P s) : P (event f s) := by
  unfold Machine.event
  split
  · exact h.transmit (hf s ‹_› hs)
  · exact hs

theorem receiveFrame (kind tag : Byte) {f : State → Decision} (hf : ∀ u, P u → P (f u).state) (hs : P s) :
    P (receiveFrame kind tag f s) := by
  have hunts : P (huntAgain s) := h.setLink _ hs
  have decided := hf _ hunts
  exact ite_closed (ite_closed (h.setLink _ hunts) (h.setLink _ hunts))
    (h.setLink _ (ite_closed (h.same _ _ (by rfl) decided) decided))

theorem dispatchFrame (kind tag : Byte) (body : List Byte) (hs : P s) : P (dispatchFrame kind tag body s).state := by
  unfold Machine.dispatchFrame
  repeat' split
  · exact hs
  · exact hs
  · exact hs
  · unfold decideSpelled
    split
    · exact h.decision ‹_› hs
    · exact hs

theorem receiveWhole (kind tag : Byte) (body : List Byte) (hs : P s) : P (receiveWhole kind tag body s) :=
  ite_closed (h.same s _ rfl hs) (h.receiveFrame kind tag (fun _ hu => h.dispatchFrame kind tag body hu) hs)

theorem receiveByte (b : Byte) (hs : P s) : P (receiveByte b s) := by
  have link : ∀ t : State, t.coolView = s.coolView → P t := fun t ht => h.same s t ht hs
  unfold Machine.receiveByte
  split
  · exact ite_closed (link _ rfl) hs
  · exact link _ rfl
  · exact ite_closed (link _ rfl) (link _ rfl)
  · refine ite_closed (link _ rfl) ?_
    unfold frameRead
    split
    · exact ite_closed (h.receiveWhole _ _ _ hs) (link _ rfl)
    · exact link _ rfl

theorem frameArrives (bytes : List Byte) (e : Bool) (hs : P s) : P (frameArrives bytes e s) := by
  have read : P (receiveBytes bytes s) := foldl_closed (fun _ b hu => h.receiveByte b hu) bytes s hs
  exact ite_closed (ite_closed read (h.same _ _ (by rfl) read)) read

/-! #### Stops and starts -/

theorem beginStart (cause : StartCause) (straps : Straps) (cut : Option StartCut) (hs : P s) : P (beginStart cause straps cut s) := by
  cases cut with
  | some x => exact h.halt s _ hs
  | none =>
    cases cause with
    | restart => exact h.restart s straps hs
    | retentionLost => exact h.coldStart s _ straps hs
    | factoryClear => exact h.coldStart s _ straps hs

theorem replyEnds (straps : Straps) (cut : Option StartCut) (hs : P s) : P (replyEnds straps cut s) := by
  unfold Machine.replyEnds
  split
  · exact ite_closed (h.beginStart _ straps cut hs) hs
  · refine h.event (fun u _ hu => ?_) hs
    unfold replySent
    split
    · exact h.setLink _ hu
    · exact h.setLink _ hu
    · exact hu
    · exact hu

/-- A power-up under reset leaves the part stopped (R190). -/
theorem powerUp (ok : Bool) (straps : Straps) (cut : Option StartCut) (hs : P s) : P (powerUp ok straps cut s) := by
  unfold Machine.powerUp
  simp only []
  split
  · exact hs
  · rename_i off
    split
    · rename_i held
      exact h.same s _ (by simp [State.coolView, State.takesEvents, off, held]) hs
    · exact h.beginStart _ straps cut hs

/-- Reset released without main power leaves the part stopped (R190). -/
theorem releaseReset (straps : Straps) (cut : Option StartCut) (hs : P s) : P (releaseReset straps cut s) := by
  unfold Machine.releaseReset
  split
  · exact hs
  · split
    · exact h.beginStart _ straps cut hs
    · rename_i off
      exact h.same s _ (by simp [State.coolView, State.takesEvents, off]) hs

theorem countSecond (hs : P s) : P (countSecond s) := by
  refine h.same s _ ?_ hs
  unfold Machine.countSecond
  cases s.takesEvents <;> rfl

theorem ageCheck (hs : P s) : P (ageCheck s) := by
  have checked := foldl_closed (fun u n hu => checkDueAge_closed h.plant n u hu) (List.range 48) s hs
  have noted : ∀ u, P u → P { u with store := { u.store with minuteReached := false } } := fun u hu => h.same u _ rfl hu
  exact ite_closed (noted _ checked) hs

/-! #### Cooling -/

theorem sampleTrunk (n : Nat) (reading : Option Int) (hs : P s) : P (sampleTrunk n reading s) := by
  unfold Machine.sampleTrunk
  simp only []
  split
  · have failed : P (s.setTrunk n { s.trunk n with sensorFault := true, alarmTimer := 0, releaseTimer := 0 }) :=
      h.same s _ (setTrunk_coolView s rfl) hs
    exact ite_closed failed (h.post _ _ failed)
  · rename_i v _
    have read : P (s.setTrunk n ((s.trunk n).sampled v)) := h.same s _ (setTrunk_coolView s rfl) hs
    have restored := ite_closed (c := (s.trunk n).sensorFault = true) (h.post (.trunk n) .trunkSensorRestored read) read
    exact ite_closed (h.post _ _ restored) restored

theorem freezeGuard (v : Int) (hs : P s) : P (freezeGuard v s) := by
  have held : ∀ b, P { s with cool := { s.cool with freezeHold := b } } := fun b => h.same s _ rfl hs
  exact ite_closed (ite_closed (h.post _ _ (held false)) hs) (ite_closed (h.post _ _ (h.off _ (held true))) hs)

theorem sampleBath (reading : Option Int) (hs : P s) : P (sampleBath reading s) := by
  unfold Machine.sampleBath
  split
  · exact ite_closed hs (h.same s _ rfl hs)
  · exact h.freezeGuard _ (ite_closed (h.same s _ rfl hs) (h.same s _ rfl hs))

theorem sampleAll (returns : Vector (Option Int) 12) (bath : Option Int) (hs : P s) : P (sampleAll returns bath s) := by
  have second : P (coolingSecond s) := h.same s _ (coolingSecond_coolView s) hs
  have first : P (firstFaultReading (coolingSecond s)) := ite_closed (h.same _ _ (by rfl) second) (h.same _ _ (by rfl) second)
  exact h.sampleBath bath (foldl_closed (fun _ n hu => h.sampleTrunk n _ hu) _ _ first)

theorem alarmExpiry (n : Nat) (hs : P s) : P (alarmExpiry n s) := by
  have alarmed : P (s.setTrunk n { s.trunk n with alarm := true }) := h.same s _ (setTrunk_coolView s rfl) hs
  exact ite_closed (h.post _ _ alarmed) hs

theorem releaseExpiry (n : Nat) (hs : P s) : P (releaseExpiry n s) := by
  have timer : P (s.modTrunk n fun t => { t with releaseTimer := 0 }) := h.same s _ (setTrunk_coolView s rfl) hs
  exact ite_closed
    (foldl_closed (fun _ i hu => ite_closed (changeHolds_closed h.plant.cleaning i _ _ hu) hu) _ _ timer) hs

theorem dutyExpiry (n : Nat) (hs : P s) : P (dutyExpiry n s) :=
  ite_closed (h.same s _ (setTrunk_coolView s rfl) hs) hs

theorem stageReturns (i : Nat) (hs : P s) : P (stageReturns i s) := ite_closed hs (h.same s _ rfl hs)

/-- A stage fault input that becomes active (R138); a stopped part takes its level alone. -/
theorem stageFault (i : Fin 4) (hs : P s) : P (Machine.event (stageFails i.val) (setStagePin i.val true s)) := by
  unfold Machine.event
  split
  · exact h.transmit (h.fails s i hs)
  · rename_i stopped
    exact h.idlePin s i.val (Bool.eq_false_iff.mpr stopped) hs

/-! #### The step -/

/-- An event that leads to `t` leads to a state that has the law. -/
theorem exec_event {i : Instr} (hd : decisionOf i = none) {t : State} (ht : Machine.exec i s = .next t) (hs : P s) : P t := by
  have plant := h.plant
  have events : ∀ {f : State → State}, (∀ u, P u → P (f u)) → ∀ {u}, P u → P (Machine.event f u) := fun hf _ hu =>
    h.event (fun v _ hv => hf v hv) hu
  have same : ∀ t : State, t.coolView = s.coolView → P t := fun t ht => h.same s t ht hs
  have views : ∀ {f : State → State}, (∀ u, (f u).coolView = u.coolView) → ∀ {u}, P u → P (Machine.event f u) := fun hf _ hu =>
    events (fun v hv => h.same v _ (hf v) hv) hu
  cases i <;> cases hd
  case unknownRequest k g b => cases ht; exact events (fun _ => h.receiveWhole k g b) hs
  case busyReply k g b => cases ht; exact events (fun _ => h.receiveWhole k g b) hs
  case frameDiscarded f => cases ht; exact events (fun _ => h.frameArrives _ _) hs
  case interByteTimeout => cases ht; exact events (fun u hu => ite_closed hu (h.same u (discardFrame u) rfl hu)) hs
  case startMarkerReceived => cases ht; exact events (fun _ => h.receiveByte _) hs
  case replyTransmitted x => cases ht; exact h.replyEnds _ _ hs
  case noticeTransmitted =>
    cases ht
    refine events (fun u hu => ?_) hs
    unfold noticeSent
    split
    · exact h.setLink _ hu
    · exact hu
    · exact hu
    · exact hu
  case noticePaceWaitEnd => cases ht; exact views (f := paceWaitEnds) (fun _ => rfl) hs
  case clockSecond => cases ht; exact h.countSecond hs
  case cleaningDueAgeCheck => cases ht; exact events (fun _ => h.ageCheck) hs
  case mainPowerFail => cases ht; exact h.halt s _ hs
  case backupSupplyBelowMinimum => cases ht; exact ite_closed hs (same _ rfl)
  case powerUp b x => cases ht; exact h.powerUp b _ _ hs
  case resetAsserted => cases ht; exact h.halt s _ hs
  case resetReleased x => cases ht; exact h.releaseReset _ _ hs
  case replyWindowExpiry => cases ht; exact events (missExchange_closed plant) hs
  case replyByteGapTimeout => cases ht; exact events (missExchange_closed plant) hs
  case replyFormatBroken => cases ht; exact events (missExchange_closed plant) hs
  case replyReceived b => cases ht; exact events (receiveReply_closed plant b) hs
  case emptyRoundExpiry => cases ht; exact events (emptyRoundEnds_closed plant) hs
  case foamOnBeerTrip n => cases ht; exact events (detectorTrip_closed plant n) (same (setDetectorPin n false s) rfl)
  case detectorRearm n => cases ht; exact events (detectorFull_closed plant n) (same (setDetectorPin n true s) rfl)
  case cellarMeterPulse n => cases ht; exact events (cellarPulse_closed plant n) hs
  case sensorSample r b => cases ht; exact events (fun _ => h.sampleAll r b) hs
  case alarmTimerExpiry n => cases ht; exact events (fun _ => h.alarmExpiry n) hs
  case releaseTimerExpiry n => cases ht; exact events (fun _ => h.releaseExpiry n) hs
  case controlPeriodExpiry => cases ht; exact h.event h.period hs
  case dutyWindowStart => cases ht; exact events h.window hs
  case valveDutyExpiry n => cases ht; exact events (fun _ => h.dutyExpiry n) hs
  case stageFault i =>
    simp only [Machine.exec, execStageFault] at ht
    split at ht <;> cases ht
    · exact hs
    · exact h.stageFault i hs
  case stageRestored i =>
    simp only [Machine.exec, execStageRestored] at ht
    split at ht <;> cases ht
    · exact events (fun _ => h.stageReturns i) (h.returns s i hs)
    · exact hs
  case circuitMeterPulse c => cases ht; exact events (circuitPulse_closed plant.cleaning c) hs
  case conductivityReading c r => cases ht; exact events (conductivity_closed plant.cleaning c r) hs
  case supplyLow c u b =>
    cases ht
    exact events (fun _ hu => ite_closed (supplyFault_closed plant.cleaning c u _ hu) hu) (by cases u <;> exact same _ rfl)
  case flowTimerExpiry c => cases ht; exact events (flowExpiry_closed plant.cleaning c) hs
  case timedStepExpiry c => cases ht; exact events (timedExpiry_closed plant.cleaning c) hs
  case calSwitchOff b =>
    cases ht
    exact events (fun u hu => ite_closed (h.same u (closeWindow u) rfl hu) hu) (same (setCalSwitch (!b) s) rfl)
  case calWindowTimeout => cases ht; exact views (f := closeWindow) (fun _ => rfl) hs

/-- Every step keeps `P`. -/
theorem step {t : State} (ht : Machine.step s = .next t) (hs : P s) : P t := by
  unfold Machine.step at ht
  split at ht
  · cases ht
    exact hs
  · rename_i i _ _
    have rest : ∀ q, P { s with pending := q } := fun q => h.same s _ rfl hs
    cases hd : decisionOf i with
    | some f =>
      obtain ⟨k, hk⟩ := exec_of_decision hd _
      rw [hk] at ht
      cases ht
      exact h.event (fun _ _ => h.receiveFrame _ _ fun _ => h.decision hd) (rest _)
    | none => exact h.exec_event hd ht (rest _)

end CoolLaw

end Sys2Proof.Machine
end

section
/-! ### The staging of a control period (R137) -/

namespace Sys2Proof.Machine

open Sys2Proof Sys2Proof.Safety

variable {s t : State} {i : Nat}

/-! #### The number of stages that run -/

/-- One stage switched changes the number by that stage alone. -/
theorem running_switchStage (hi : i < 4) (on : Bool) (s : State) :
    (switchStage i on s).cool.running = s.cool.running - (s.stage i).running.toNat + on.toNat := by
  have here : s.cool.stages.toList[i]'(by simpa using hi) = s.stage i := by simp [State.stage, hi]
  simp only [switchStage, State.setStage, Cooling.running, Vector.toList_setIfInBounds]
  rw [List.countP_set (by simpa using hi), here]
  cases (s.stage i).running <;> cases on <;> rfl

theorem stage_switchStage (i : Nat) (on : Bool) (s : State) (j : Nat) :
    (switchStage i on s).stage j = if i = j ∧ i < 4 then { running := on, time := 0 } else s.stage j :=
  State.stage_setStage s i j _

/-- A number above 3 names no stage. -/
theorem State.stage_of_ge (h : 4 ≤ i) : s.stage i = startStage := by simp [State.stage, h]

theorem lt_of_running (h : (s.stage i).running = true) : i < 4 := by
  by_contra hi
  rw [State.stage_of_ge (Nat.not_lt.mp hi)] at h
  exact absurd h (by simp [startStage])

/-- No stage runs once every stage is stopped. -/
theorem stage_stopStages (s : State) (i : Nat) :
    (stopStages s).stage i = if (s.stage i).running = true then { running := false, time := 0 } else s.stage i := by
  by_cases hi : i < 4
  · simp [stopStages, State.stage, hi]
  · rw [State.stage_of_ge (Nat.not_lt.mp hi), State.stage_of_ge (Nat.not_lt.mp hi)]
    rfl

theorem stopStages_off (s : State) (i : Nat) : ((stopStages s).stage i).running = false := by
  rw [stage_stopStages]
  split
  · rfl
  · exact Bool.eq_false_iff.mpr ‹_›

/-! #### The one stage that switches -/

/-- The lowest available stage that is off. -/
theorem candidateOn_eq_some : candidateOn s = some i ↔ (stageAvailable s i = true ∧ (s.stage i).running = false)
    ∧ i < 4 ∧ ∀ j, j < i → ¬ (stageAvailable s j = true ∧ (s.stage j).running = false) := by
  unfold candidateOn
  rw [List.find?_range_eq_some]
  simp only [Bool.and_eq_true, Bool.not_eq_true', List.mem_range, Bool.eq_false_iff, ne_eq]

/-- In a descending list the first number with a property is the highest. -/
theorem find?_descending {p : Nat → Bool} {l : List Nat} (down : l.Pairwise (· > ·)) :
    l.find? p = some i ↔ p i = true ∧ i ∈ l ∧ ∀ j, i < j → j ∈ l → p j = false := by
  induction l with
  | nil => simp
  | cons x rest ih =>
    obtain ⟨above, down⟩ := List.pairwise_cons.mp down
    rw [List.find?_cons]
    grind

/-- The highest stage that runs. -/
theorem candidateOff_eq_some : candidateOff s = some i
    ↔ (s.stage i).running = true ∧ ∀ j, i < j → j < 4 → (s.stage j).running = false := by
  have place : ∀ j, j ∈ ([3, 2, 1, 0] : List Nat) ↔ j < 4 := fun j => by simp; omega
  rw [candidateOff, find?_descending (by decide)]
  simp only [place]
  exact ⟨fun ⟨runs, _, above⟩ => ⟨runs, above⟩, fun ⟨runs, above⟩ => ⟨runs, lt_of_running runs, above⟩⟩

/-- Stage `i` is due to switch on at the end of a control period. -/
def SwitchesOn (s : State) (i : Nat) : Prop :=
  s.cool.running < stageTarget s ∧ candidateOn s = some i ∧ Config.stageOffSeconds ≤ (s.stage i).time

/-- Stage `i` is due to switch off at the end of a control period. -/
def SwitchesOff (s : State) (i : Nat) : Prop :=
  stageTarget s < s.cool.running ∧ candidateOff s = some i ∧ Config.stageOnSeconds ≤ (s.stage i).time

/-- The part with the period's stage target stored. -/
def targeted (s : State) : State := { s with cool := { s.cool with target := stageTarget s } }

theorem stageStep_on (h : SwitchesOn s i) : stageStep s = switchStage i true (targeted s) := by
  obtain ⟨below, candidate, waited⟩ := h
  simp only [stageStep, if_pos below, candidate, if_pos waited]
  rfl

theorem stageStep_off (h : SwitchesOff s i) : stageStep s = allocateInPeriod (switchStage i false (targeted s)) := by
  obtain ⟨above, candidate, waited⟩ := h
  simp only [stageStep, if_neg (Nat.not_lt_of_lt above), if_pos above, candidate, if_pos waited]
  rfl

theorem stageStep_none (on : ∀ i, ¬ SwitchesOn s i) (off : ∀ i, ¬ SwitchesOff s i) : stageStep s = targeted s := by
  unfold stageStep
  simp only []
  split
  · split
    · exact if_neg fun waited => on _ ⟨‹_›, ‹_›, waited⟩
    · rfl
  · split
    · split
      · exact if_neg fun waited => off _ ⟨‹_›, ‹_›, waited⟩
      · rfl
    · rfl

/-- At most one stage switches in a period. -/
theorem stageStep_cases (s : State) : stageStep s = targeted s
    ∨ (∃ i, SwitchesOn s i ∧ stageStep s = switchStage i true (targeted s))
    ∨ ∃ i, SwitchesOff s i ∧ stageStep s = allocateInPeriod (switchStage i false (targeted s)) := by
  by_cases on : ∃ i, SwitchesOn s i
  · obtain ⟨i, hi⟩ := on
    exact .inr (.inl ⟨i, hi, stageStep_on hi⟩)
  · by_cases off : ∃ i, SwitchesOff s i
    · obtain ⟨i, hi⟩ := off
      exact .inr (.inr ⟨i, hi, stageStep_off hi⟩)
    · exact .inl (stageStep_none (not_exists.mp on) (not_exists.mp off))

end Sys2Proof.Machine
end

section
/-! ### Every step keeps the law of allocation (O58)

Every operation that takes capacity away computes the allocation again, and the allocation stays within the capacity it is computed
from. -/

namespace Sys2Proof.Machine

open Sys2Proof Sys2Proof.Safety

variable {s t : State}

/-! #### What the law reads -/

/-- The ranges of the law of allocation. -/
def TrunkFigures.InRange (f : TrunkFigures) : Prop :=
  f.demand ≤ 100 ∧ f.allocation ≤ 100 ∧ f.duty ≤ 100 ∧ 1 ≤ f.cls ∧ f.cls ≤ 3 ∧ 1 ≤ f.allocCls ∧ f.allocCls ≤ 3

/-- Figures of trunks that meet the law at a capacity. -/
def Shared (figures : Vector TrunkFigures 12) (capacity : Nat) : Prop :=
  (figures.toList.map (·.allocation)).sum ≤ capacity ∧ ∀ f ∈ figures.toList, f.InRange

theorem allocationLaw_iff (s : State) : AllocationLaw s ↔ Shared (s.cool.trunks.map Trunk.figures) s.cool.capacityNow := by
  have total : ((s.cool.trunks.map Trunk.figures).toList.map (·.allocation)).sum = totalAllocation s := by
    rw [Vector.toList_map, List.map_map]
    rfl
  rw [Shared, total, Vector.toList_map, List.forall_mem_map]
  exact Iff.rfl

/-- The law is kept where the figures stay and the capacity does not fall. -/
theorem allocationLaw_of_figures (trunks : t.cool.trunks.map Trunk.figures = s.cool.trunks.map Trunk.figures)
    (capacity : s.cool.capacityNow ≤ t.cool.capacityNow) (hs : AllocationLaw s) : AllocationLaw t := by
  obtain ⟨total, ranges⟩ := (allocationLaw_iff s).mp hs
  rw [allocationLaw_iff, trunks]
  exact ⟨total.trans capacity, ranges⟩

theorem capacity_of_view (h : t.coolView = s.coolView) : t.cool.capacityNow = s.cool.capacityNow := by
  have number : ∀ u : State, u.cool.capacityNow = u.coolView.running.toList.countP id * u.coolView.points := fun u => by
    rw [State.coolView, Vector.toList_map, List.countP_map]
    rfl
  rw [number, number, h]

/-! #### The allocation is computed again -/

/-- The figures that an allocation is computed from, and the duty, lie in their ranges. -/
def Trunk.Sound (t : Trunk) : Prop :=
  t.demand ≤ 100 ∧ t.dutyInForce ≤ 100 ∧ (1 ≤ t.cls ∧ t.cls ≤ 3) ∧ 1 ≤ t.allocCls ∧ t.allocCls ≤ 3

theorem allocationLaw_sound (hs : AllocationLaw s) : ∀ t ∈ s.cool.trunks.toList, t.Sound := fun t ht => by
  obtain ⟨demand, -, duty, cls1, cls3, alloc1, alloc3⟩ := hs.2 t ht
  exact ⟨demand, duty, ⟨cls1, cls3⟩, alloc1, alloc3⟩

theorem shareOf_le (demand total remaining : Nat) : shareOf demand total remaining ≤ demand := by
  unfold shareOf
  split
  · exact Nat.le_refl _
  · exact Nat.div_le_of_le_mul (by rw [Nat.mul_comm total]; exact Nat.mul_le_mul_left _ (by omega))

theorem allocationOf_le_demand (ts : List Trunk) (capacity : Nat) (t : Trunk) : allocationOf ts capacity t ≤ t.demand := by
  unfold allocationOf
  split
  · exact Nat.le_refl _
  · exact shareOf_le _ _ _

/-- An allocation computed from sound figures meets the law. -/
theorem allocate_allocationLaw (sound : ∀ t ∈ s.cool.trunks.toList, t.Sound) : AllocationLaw (allocate s) := by
  refine ⟨allocate_sum_le s fun t ht => (sound t ht).2.2.2, ?_⟩
  simp only [allocate, Vector.toList_map, List.forall_mem_map]
  intro t ht
  obtain ⟨demand, duty, ⟨cls1, cls3⟩, alloc1, alloc3⟩ := sound t ht
  exact ⟨demand, (allocationOf_le_demand _ _ t).trans demand, duty, cls1, cls3, alloc1, alloc3⟩

/-- The allocation computed again for the same trunks, whatever capacity is left. -/
theorem allocate_allocationLaw_of_same (trunks : t.cool.trunks = s.cool.trunks) (hs : AllocationLaw s) : AllocationLaw (allocate t) :=
  allocate_allocationLaw (by rw [trunks]; exact allocationLaw_sound hs)

theorem demandOf_le (s : State) (n : Nat) (t : Trunk) : demandOf s n t ≤ 100 := by
  unfold demandOf
  split
  · exact Nat.zero_le _
  · split
    · exact Nat.le_refl _
    · exact Nat.min_le_left _ _

/-- A period computes sound figures. -/
theorem computeDemands_sound (sound : ∀ t ∈ s.cool.trunks.toList, t.Sound) :
    ∀ t ∈ (computeDemands s).cool.trunks.toList, t.Sound := by
  simp only [computeDemands, Vector.toList_mapIdx, List.mem_mapIdx]
  rintro _ ⟨n, hn, rfl⟩
  obtain ⟨-, duty, cls, -⟩ := sound _ (List.getElem_mem hn)
  exact ⟨demandOf_le _ _ _, duty, cls, cls⟩

theorem stageStep_allocationLaw (hs : AllocationLaw s) : AllocationLaw (stageStep s) := by
  obtain stays | ⟨i, ⟨-, candidate, -⟩, on⟩ | ⟨i, -, off⟩ := stageStep_cases s
  · rw [stays]
    exact hs
  · rw [on]
    obtain ⟨⟨-, stopped⟩, hi, -⟩ := candidateOn_eq_some.mp candidate
    refine allocationLaw_of_figures (s := s) rfl (Nat.mul_le_mul_right _ ?_) hs
    rw [running_switchStage hi]
    have more : s.cool.running - (s.stage i).running.toNat + 1 = s.cool.running + 1 := by rw [stopped]; rfl
    exact (Nat.le_succ _).trans more.ge
  · rw [off]
    exact allocate_allocationLaw_of_same (s := s) rfl hs

theorem controlPeriod_allocationLaw (hs : AllocationLaw s) : AllocationLaw (controlPeriod s) := by
  have sound : ∀ t ∈ s.cool.trunks.toList, t.Sound := allocationLaw_sound hs
  exact stageStep_allocationLaw (allocate_allocationLaw (s := recordCapacity _) (computeDemands_sound (s := updateSurges _) sound))

/-! #### The other changes -/

/-- The chiller's settings stored, and the faults of the start on stages that leave dropped (R136, R138). -/
def chillerStored (count points : Nat) (s : State) : State := { s with cool := { s.cool with
  count := count, points := points, startFaults := s.cool.startFaults.mapIdx fun i b => b && decide (i < count) } }

/-- The settings stored, and the allocation computed again where S changes. -/
def chillerShared (count points : Nat) (s : State) : State :=
  if s.cool.points = points then chillerStored count points s else allocate (chillerStored count points s)

theorem setChiller_eq (count points : Nat) (s : State) : setChiller count points s
    = if bringsInFault s count = true then post .chiller .stageFault (chillerShared count points s) else chillerShared count points s := rfl

theorem setChiller_allocationLaw (count points : Nat) (hs : AllocationLaw s) : AllocationLaw (setChiller count points s) := by
  have shared : AllocationLaw (chillerShared count points s) := by
    unfold chillerShared
    split
    · rename_i same
      exact allocationLaw_of_figures (s := s) rfl (Nat.mul_le_mul_left _ same.le) hs
    · exact allocate_allocationLaw_of_same (s := s) rfl hs
  rw [setChiller_eq]
  exact ite_closed shared shared

theorem trunk_inRange (hs : AllocationLaw s) (n : Nat) : (s.trunk n).figures.InRange := by
  by_cases hn : n < 12
  · have found : s.trunk n = s.cool.trunks[n] := by simp [State.trunk, hn]
    exact found ▸ hs.2 _ (Vector.mem_toList_iff.mpr (Vector.getElem_mem hn))
  · have cold : s.trunk n = coldTrunk := by simp [State.trunk, hn]
    simp [cold, coldTrunk, startTrunk, Trunk.figures, TrunkFigures.InRange]

/-- TRUNK SET changes the class of one trunk. -/
theorem settings_allocationLaw (n : Nat) (setpoint : Int) (kp cls : Nat) (alarm : Int) (range : 1 ≤ cls ∧ cls ≤ 3)
    (hs : AllocationLaw s) : AllocationLaw (s.modTrunk n fun t => t.settings setpoint kp cls alarm) := by
  rw [State.modTrunk_eq]
  obtain ⟨demand, allocation, duty, -, -, allocCls⟩ := trunk_inRange hs n
  refine ⟨?_, fun t ht => ?_⟩
  · have lists := congrArg Vector.toList (map_setTrunk_same s (f := (·.allocation)) (n := n)
      (r := (s.trunk n).settings setpoint kp cls alarm) rfl)
    rw [Vector.toList_map, Vector.toList_map] at lists
    rw [totalAllocation, lists]
    exact hs.1
  · rw [State.setTrunk, Vector.toList_setIfInBounds] at ht
    obtain old | rfl := List.mem_or_eq_of_mem_set ht
    · exact hs.2 t old
    · exact ⟨demand, allocation, duty, range.1, range.2, allocCls⟩

theorem dutyWindow_allocationLaw (hs : AllocationLaw s) : AllocationLaw (dutyWindow s) := by
  have total : totalAllocation (dutyWindow s) = totalAllocation s := by
    rw [totalAllocation, dutyWindow_eq, Vector.toList_map, List.map_map]
    rfl
  refine ⟨total.le.trans hs.1, ?_⟩
  rw [dutyWindow_eq, Vector.toList_map, List.forall_mem_map]
  intro t ht
  obtain ⟨demand, allocation, -, classes⟩ := hs.2 t ht
  exact ⟨demand, allocation, allocation, classes⟩

theorem stopStages_allocationLaw (hs : AllocationLaw s) : AllocationLaw (allocate (stopStages s)) :=
  allocate_allocationLaw_of_same (s := s) rfl hs

theorem stopCooling_figures (s : State) :
    (stopCooling s).cool.trunks.map Trunk.figures = (allocate (stopStages s)).cool.trunks.map Trunk.figures := by
  rw [stopCooling, Vector.map_map]
  rfl

theorem stageFails_allocationLaw (i : Nat) (hs : AllocationLaw s) : AllocationLaw (stageFails i (setStagePin i true s)) := by
  have pinned : AllocationLaw (setStagePin i true s) := hs
  have switched : AllocationLaw (allocate (switchStage i false (setStagePin i true s))) :=
    allocate_allocationLaw_of_same (s := s) rfl hs
  have left := ite_closed (c := ((setStagePin i true s).stage i).running = true) switched pinned
  exact ite_closed pinned left

/-- Trunks that begin with an allocation of 0 and a class in range meet the law. -/
theorem allocationLaw_of_started (hs : ∀ t ∈ s.cool.trunks.toList, ∃ setpoint kp cls alarm, (1 ≤ cls ∧ cls ≤ 3)
    ∧ t = startTrunk setpoint kp cls alarm) : AllocationLaw s := by
  have none : totalAllocation s = 0 := by
    refine List.sum_eq_zero fun a ha => ?_
    obtain ⟨t, ht, rfl⟩ := List.mem_map.mp ha
    obtain ⟨_, _, _, _, -, rfl⟩ := hs t ht
    rfl
  refine ⟨none ▸ Nat.zero_le _, fun t ht => ?_⟩
  obtain ⟨_, _, cls, _, ⟨low, high⟩, rfl⟩ := hs t ht
  exact ⟨Nat.zero_le _, Nat.zero_le _, Nat.zero_le _, low, high, low, high⟩

theorem restart_allocationLaw (straps : Straps) (hs : AllocationLaw s) : AllocationLaw (restart straps s) := by
  refine allocationLaw_of_started ?_
  rw [restart_eq, restartCooling, Vector.toList_map, List.forall_mem_map]
  exact fun t ht => ⟨_, _, _, _, (allocationLaw_sound hs t ht).2.2.1, rfl⟩

theorem coldStart_allocationLaw (cause : StartCause) (straps : Straps) (s : State) : AllocationLaw (coldStart cause straps s) := by
  refine allocationLaw_of_started fun t ht => ⟨40, 10, 2, 70, by decide, ?_⟩
  have cold : t = coldTrunk := by simpa [coldStart, coldCooling] using ht
  exact cold

theorem coolLaw_allocationLaw : CoolLaw AllocationLaw where
  same _ _ view := allocationLaw_of_figures (congrArg CoolView.trunks view) (capacity_of_view view).ge
  settings _ n setpoint kp cls alarm range := settings_allocationLaw n setpoint kp cls alarm range
  chiller _ count points _ := setChiller_allocationLaw count points
  window _ := dutyWindow_allocationLaw
  period _ _ := controlPeriod_allocationLaw
  off _ := stopStages_allocationLaw
  halt s _ hs := allocationLaw_of_figures (stopCooling_figures s) (Nat.le_refl _) (stopStages_allocationLaw hs)
  fails _ i := stageFails_allocationLaw i.val
  idlePin _ _ _ hs := hs
  returns _ _ hs := hs
  restart _ straps := restart_allocationLaw straps
  coldStart s cause straps _ := coldStart_allocationLaw cause straps s

/-- Settles O58: whatever takes capacity away shares it out again, and a new allocation stays within the capacity. -/
theorem stepKeepsAllocation : Obligations.StepKeepsAllocation := fun _ _ hs ht => coolLaw_allocationLaw.step ht hs

end Sys2Proof.Machine
end

section
/-! ### Every step keeps the law of staging (O59) -/

namespace Sys2Proof.Machine

open Sys2Proof Sys2Proof.Safety

variable {s t : State} {i : Nat}

theorem running_of_view (h : t.coolView = s.coolView) (i : Nat) : (t.stage i).running = (s.stage i).running := by
  have read : ∀ u : State, (u.stage i).running = (u.coolView.running[i]?).getD false := fun u => by
    simp only [State.coolView, State.stage, Vector.getElem?_map, startStage]
    cases u.cool.stages[i]? <;> rfl
  rw [read, read, h]

theorem stageAvailable_of_view (h : t.coolView = s.coolView) (i : Nat) : stageAvailable t i = stageAvailable s i := by
  have count : t.cool.count = s.cool.count := congrArg CoolView.count h
  have faults : t.pins.stageFault = s.pins.stageFault := congrArg CoolView.faults h
  simp only [stageAvailable, count, faults]

theorem stageAvailable_iff : stageAvailable s i = true ↔ i < s.cool.count ∧ (s.pins.stageFault[i]?).getD false = false := by
  simp [stageAvailable]

/-- Where every stage that runs afterwards ran before, and what lets it run is left, the law is kept. -/
theorem stagingLaw_of_running (runs : ∀ i, (t.stage i).running = true → (s.stage i).running = true)
    (available : ∀ i, (t.stage i).running = true → stageAvailable s i = true → stageAvailable t i = true)
    (takes : t.takesEvents = s.takesEvents) (hs : StagingLaw s) : StagingLaw t := fun i hi hr => by
  obtain ⟨ready, on⟩ := hs i hi (runs i hr)
  exact ⟨available i hr ready, takes.trans on⟩

theorem stagingLaw_of_view (h : t.coolView = s.coolView) : StagingLaw s → StagingLaw t :=
  stagingLaw_of_running (fun i hr => running_of_view h i ▸ hr) (fun i _ ready => (stageAvailable_of_view h i).trans ready)
    (congrArg CoolView.takes h)

/-- A part in which no stage runs meets the law. -/
theorem stagingLaw_of_off (off : ∀ i, (t.stage i).running = false) : StagingLaw t := fun i _ hr => by simp [off i] at hr

/-- The law reads neither trunks nor the figures of a period. -/
theorem stagingLaw_of_stages (stages : t.cool.stages = s.cool.stages) (count : t.cool.count = s.cool.count) (pins : t.pins = s.pins)
    (takes : t.takesEvents = s.takesEvents) : StagingLaw s → StagingLaw t :=
  stagingLaw_of_running (fun i hr => by rwa [State.stage, stages] at hr)
    (fun i _ ready => by rwa [stageAvailable, count, pins]) takes

/-- A stage that switches on is configured and available. -/
theorem stageStep_stagingLaw (takes : s.takesEvents = true) (hs : StagingLaw s) : StagingLaw (stageStep s) := by
  obtain stays | ⟨i, ⟨-, candidate, -⟩, on⟩ | ⟨i, -, off⟩ := stageStep_cases s
  · rw [stays]
    exact hs
  · obtain ⟨⟨ready, -⟩, -⟩ := candidateOn_eq_some.mp candidate
    rw [on]
    intro j hj hr
    rw [stage_switchStage] at hr
    refine ⟨?_, takes⟩
    split at hr
    · rename_i h
      exact h.1 ▸ ready
    · exact (hs j hj hr).1
  · rw [off]
    refine stagingLaw_of_running (s := s) (fun j hr => ?_) (fun _ _ ready => ready) rfl hs
    have left : ((switchStage i false (targeted s)).stage j).running = true := hr
    rw [stage_switchStage] at left
    split at left
    · exact absurd left (by simp)
    · exact left

theorem controlPeriod_stagingLaw (takes : s.takesEvents = true) (hs : StagingLaw s) : StagingLaw (controlPeriod s) := by
  have aged : StagingLaw (ageStages (Config.controlSeconds - s.cool.controlTimer) s) := stagingLaw_of_view (ageStages_coolView s _) hs
  exact stageStep_stagingLaw takes (stagingLaw_of_stages (by rfl) (by rfl) (by rfl) (by rfl) aged)

/-- CHILLER SET leaves no running stage above the count (R136). -/
theorem setChiller_stagingLaw (count points : Nat) (below : runsAbove s count = false) (hs : StagingLaw s) :
    StagingLaw (setChiller count points s) := by
  have configured : ∀ i, (s.stage i).running = true → i < count := fun i hr => by
    by_contra hi
    simp only [runsAbove, List.any_eq_false, List.mem_range, Bool.and_eq_true, decide_eq_true_eq, not_and] at below
    exact below i (lt_of_running hr) (Nat.not_lt.mp hi) hr
  have stored : StagingLaw (chillerStored count points s) := by
    refine stagingLaw_of_running (s := s) (fun _ hr => hr) (fun i hr ready => ?_) rfl hs
    exact stageAvailable_iff.mpr ⟨configured i hr, (stageAvailable_iff.mp ready).2⟩
  have shared : StagingLaw (chillerShared count points s) :=
    ite_closed stored (stagingLaw_of_stages (by rfl) (by rfl) (by rfl) (by rfl) stored)
  rw [setChiller_eq]
  exact ite_closed shared shared

/-- The level of one input reaches the stage of that input alone. -/
theorem stageAvailable_setStagePin {j : Nat} (on : Bool) (h : j ≠ i ∨ on = false) (ready : stageAvailable s j = true) :
    stageAvailable (setStagePin i on s) j = true := by
  obtain ⟨count, fault⟩ := stageAvailable_iff.mp ready
  refine stageAvailable_iff.mpr ⟨count, ?_⟩
  rw [setStagePin, getD_setIfInBounds]
  split
  · rename_i same
    exact h.resolve_left fun ne => ne same.1.symm
  · exact fault

theorem stageAvailable_stageFails (j : Nat) : stageAvailable (stageFails i s) j = stageAvailable s j := by
  unfold stageFails
  repeat' split
  · rfl
  · rfl
  · rfl

/-- A stage whose input has become active was not configured, or does not run on (R138). -/
theorem stageFails_stagingLaw (i : Fin 4) (hs : StagingLaw s) : StagingLaw (stageFails i.val (setStagePin i.val true s)) := by
  by_cases configured : i.val < s.cool.count
  · obtain ⟨failed, others, takes⟩ := stage_stageFails i.isLt (s := setStagePin i.val true s) configured
    have other : ∀ j, ((stageFails i.val (setStagePin i.val true s)).stage j).running = true → j ≠ i.val := fun j hr hj => by
      rw [hj, failed] at hr
      exact absurd hr (by simp)
    refine stagingLaw_of_running (s := s) (fun j hr => ?_) (fun j hr ready => ?_) takes hs
    · rwa [others j (other j hr)] at hr
    · rw [stageAvailable_stageFails]
      exact stageAvailable_setStagePin true (.inl (other j hr)) ready
  · rw [stageFails_unconfigured (s := setStagePin i.val true s) configured]
    refine stagingLaw_of_running (s := s) (fun _ hr => hr) (fun j hr ready => ?_) rfl hs
    refine stageAvailable_setStagePin true (.inl fun hj => ?_) ready
    exact configured (hj ▸ (stageAvailable_iff.mp ready).1)

/-- No stage runs in a stopped part. -/
theorem off_of_stopped (stopped : s.takesEvents = false) (hs : StagingLaw s) (j : Nat) : (s.stage j).running = false := by
  by_contra on
  have runs := Bool.not_eq_false _ ▸ on
  have takes := (hs j (lt_of_running runs) runs).2
  simp [stopped] at takes

/-- A start begins with every stage off. -/
theorem off_of_started (h : t.cool.stages = Vector.replicate 4 startStage) (j : Nat) : (t.stage j).running = false := by
  by_contra on
  have runs := Bool.not_eq_false _ ▸ on
  simp [State.stage, h, lt_of_running runs, startStage] at runs

theorem coolLaw_stagingLaw : CoolLaw StagingLaw where
  same _ _ := stagingLaw_of_view
  settings _ _ _ _ _ _ _ hs := hs
  chiller _ count points := setChiller_stagingLaw count points
  window _ hs := hs
  period _ := controlPeriod_stagingLaw
  off s _ := stagingLaw_of_off (stopStages_off s)
  halt s _ _ := stagingLaw_of_off (stopStages_off s)
  fails _ i := stageFails_stagingLaw i
  idlePin s i stopped hs := stagingLaw_of_off (t := setStagePin i true s) (off_of_stopped (s := s) stopped hs)
  returns _ _ := stagingLaw_of_running (fun _ hr => hr) (fun _ _ ready => stageAvailable_setStagePin false (.inr rfl) ready) rfl
  restart s straps _ := stagingLaw_of_off (off_of_started (by rw [restart_eq]; rfl))
  coldStart _ _ _ _ := stagingLaw_of_off (off_of_started rfl)

/-- Settles O59: a stage switches on only where it is available, and stops before it loses what lets it run. -/
theorem stepKeepsStaging : Obligations.StepKeepsStaging := fun _ _ hs ht => coolLaw_stagingLaw.step ht hs

end Sys2Proof.Machine
end

section
/-! ### The requests of cooling (O41) -/

namespace Sys2Proof.Machine

open Sys2Proof Sys2Proof.Safety

section requests

variable {s : State} {tag : Byte} (h : Ready s)

/-! #### TRUNK SET (R127) -/

/-- A TRUNK SET that its first check refuses. -/
def trunkSetBad (n : Nat) (setpoint : Int) (kp cls : Nat) (alarm : Int) : Bool := 11 < n || !trunkOk setpoint kp cls alarm

/-- The ranges of TRUNK SET. -/
theorem trunkSetBad_iff (n : Nat) (setpoint : Int) (kp cls : Nat) (alarm : Int) : trunkSetBad n setpoint kp cls alarm = true
    ↔ ¬ (n ≤ 11 ∧ 0 ≤ setpoint ∧ setpoint ≤ 120 ∧ 1 ≤ kp ∧ kp ≤ 50 ∧ 1 ≤ cls ∧ cls ≤ 3 ∧ setpoint + 10 ≤ alarm ∧ alarm ≤ 400) := by
  rw [← Bool.not_eq_false, not_iff_not]
  simp only [trunkSetBad, trunkOk, Bool.or_eq_false_iff, decide_eq_false_iff_not, Bool.not_eq_false', Bool.and_eq_true, decide_eq_true_eq]
  omega

include h

theorem trunkSet_taken {n : Nat} {setpoint : Int} {kp cls : Nat} {alarm : Int}
    (ok : trunkSetBad n setpoint kp cls alarm ≠ true) : exec (.trunkSet tag n setpoint kp cls alarm) s
      = .next (replied .trunkSet tag .ok (.trunk ((s.trunk n).settings setpoint kp cls alarm))
          (post (.trunk n) .trunkConfig ((hunting s).setTrunk n ((s.trunk n).settings setpoint kp cls alarm)))) := by
  refine exec_accepted h rfl ?_ rfl
  have hn : n < 12 := by
    rw [Ne, trunkSetBad_iff, not_not] at ok
    omega
  have stored : ((hunting s).setTrunk n ((s.trunk n).settings setpoint kp cls alarm)).trunk n
      = (s.trunk n).settings setpoint kp cls alarm := State.trunk_setTrunk_self _ _ _ hn
  exact (if_neg ok).trans (congrArg (fun r => acceptWith (.trunk r) _) stored)

theorem trunkSet_refused {n : Nat} {setpoint : Int} {kp cls : Nat} {alarm : Int}
    (bad : trunkSetBad n setpoint kp cls alarm = true) :
    exec (.trunkSet tag n setpoint kp cls alarm) s = .next (refused .trunkSet tag .range (hunting s)) :=
  exec_refused h rfl (if_pos bad)

/-! #### CHILLER SET (R136) -/

/-- A CHILLER SET that its first check refuses. -/
def chillerSetBad (count points : Nat) : Bool := count < 1 || 4 < count || points < 50 || 400 < points

omit h in
/-- The ranges of CHILLER SET. -/
theorem chillerSetBad_iff (count points : Nat) :
    chillerSetBad count points = true ↔ ¬ (1 ≤ count ∧ count ≤ 4 ∧ 50 ≤ points ∧ points ≤ 400) := by
  simp only [chillerSetBad, Bool.or_eq_true, decide_eq_true_eq]
  omega

omit h in
theorem runsAbove_iff (s : State) (count : Nat) :
    runsAbove s count = true ↔ ∃ i, count ≤ i ∧ i < 4 ∧ (s.stage i).running = true := by
  simp only [runsAbove, List.any_eq_true, List.mem_range, Bool.and_eq_true, decide_eq_true_eq]
  exact ⟨fun ⟨i, hi, hc, hr⟩ => ⟨i, hc, hi, hr⟩, fun ⟨i, hc, hi, hr⟩ => ⟨i, hi, hc, hr⟩⟩

omit h in
theorem bringsInFault_iff (s : State) (count : Nat) :
    bringsInFault s count = true ↔ ∃ i : Fin 4, s.cool.count ≤ i.val ∧ i.val < count ∧ s.pins.stageFault[i] = true := by
  simp only [bringsInFault, List.any_eq_true, List.mem_range, Bool.and_eq_true, decide_eq_true_eq, and_assoc]
  constructor
  · rintro ⟨i, hi, old, new, fault⟩
    exact ⟨⟨i, hi⟩, old, new, by simpa [hi] using fault⟩
  · rintro ⟨i, old, new, fault⟩
    exact ⟨i.val, i.isLt, old, new, by simpa using fault⟩

theorem chillerSet_range {count points : Nat} (bad : chillerSetBad count points = true) :
    exec (.chillerSet tag count points) s = .next (refused .chillerSet tag .range (hunting s)) :=
  exec_refused h rfl (if_pos bad)

theorem chillerSet_state {count points : Nat} (ok : chillerSetBad count points ≠ true)
    (above : runsAbove s count = true) : exec (.chillerSet tag count points) s = .next (refused .chillerSet tag .state (hunting s)) :=
  exec_refused h rfl ((if_neg ok).trans (if_pos above))

theorem chillerSet_taken {count points : Nat} (ok : chillerSetBad count points ≠ true)
    (below : runsAbove s count ≠ true) : exec (.chillerSet tag count points) s
      = .next (replied .chillerSet tag .ok (.chiller (chillerView (setChiller count points (hunting s))))
          (setChiller count points (hunting s))) := by
  refine exec_accepted h rfl ((if_neg ok).trans (if_neg below)) ?_
  rw [setChiller_eq, chillerShared]
  repeat' split
  all_goals rfl

omit h in
/-- The faults of the start that stay on configured stages (R136). -/
theorem chillerShared_cool (count points : Nat) (s : State) : (chillerShared count points s).cool = { s.cool with
    count := count, points := points, trunks := (chillerShared count points s).cool.trunks
    startFaults := s.cool.startFaults.mapIdx fun i b => b && decide (i < count) } := by
  unfold chillerShared
  split <;> rfl

omit h in
theorem setChiller_frame (count points : Nat) (s : State) : setChiller count points s = { s with
    cool := (chillerShared count points s).cool
    link := { s.link with
      notices := if bringsInFault s count = true then mergeNotice .chiller .stageFault s.link.notices else s.link.notices } } := by
  have shared : chillerShared count points s = { s with cool := (chillerShared count points s).cool } := by
    unfold chillerShared
    split <;> rfl
  rw [setChiller_eq, shared]
  split <;> rfl

omit h in
/-- The allocation is computed again where S changes (R136). -/
theorem chillerShared_trunk (count points : Nat) (s : State) {n : Nat} (hn : n < 12) : (chillerShared count points s).trunk n
    = { s.trunk n with
        allocation := if s.cool.points = points then (s.trunk n).allocation
          else allocationOf s.cool.trunks.toList (s.cool.stages.toList.countP (·.running) * points) (s.trunk n) } := by
  unfold chillerShared
  split
  · rfl
  · exact allocate_trunk _ hn

/-- What an accepted CHILLER SET leaves. -/
theorem chillerSet_accepted {count points : Nat} (ok : chillerSetBad count points ≠ true)
    (below : runsAbove s count ≠ true) : ∃ t, exec (.chillerSet tag count points) s
        = .next (replied .chillerSet tag .ok (.chiller (chillerView t)) t)
      ∧ (∀ n, n < 12 → t.trunk n = { s.trunk n with
          allocation := if s.cool.points = points then (s.trunk n).allocation
            else allocationOf s.cool.trunks.toList (s.cool.stages.toList.countP (·.running) * points) (s.trunk n) })
      ∧ t = { hunting s with
          cool := { s.cool with count := count, points := points, trunks := t.cool.trunks, startFaults := t.cool.startFaults }
          link := { (hunting s).link with notices := t.link.notices } }
      ∧ (∀ i : Fin 4, t.cool.startFaults[i] = (s.cool.startFaults[i] && decide (i.val < count)))
      ∧ t.link.notices = if bringsInFault s count = true then mergeNotice .chiller .stageFault s.link.notices else s.link.notices := by
  refine ⟨setChiller count points (hunting s), chillerSet_taken h ok below, fun n hn => ?_, ?_, fun i => ?_, ?_⟩
  · have same : (setChiller count points (hunting s)).cool = (chillerShared count points (hunting s)).cool := by rw [setChiller_frame]
    rw [State.trunk_congr same]
    exact chillerShared_trunk count points (hunting s) hn
  · rw [setChiller_frame, chillerShared_cool]
    rfl
  · rw [setChiller_frame, chillerShared_cool]
    simp
  · rw [setChiller_frame]
    rfl

/-! #### The surge plan (R133) -/

/-- A SURGE ADD that its first check refuses. -/
def surgeAddBad (s : State) (start duration lead boost : Nat) : Bool :=
  duration < 60 || 3600 < duration || 1800 < lead || 50 < boost || (!s.store.unset && start + duration ≤ s.store.clock)

omit h in
/-- The ranges of SURGE ADD; while the clock is unset no entry has ended. -/
theorem surgeAddBad_iff (s : State) (start duration lead boost : Nat) : surgeAddBad s start duration lead boost = true
    ↔ ¬ (60 ≤ duration ∧ duration ≤ 3600 ∧ lead ≤ 1800 ∧ boost ≤ 50
      ∧ (s.store.unset = true ∨ s.store.clock < start + duration)) := by
  unfold surgeAddBad
  cases s.store.unset
  · simp only [Bool.not_false, Bool.true_and, Bool.or_eq_true, decide_eq_true_eq, Bool.false_eq_true, false_or]
    omega
  · simp only [Bool.not_true, Bool.false_and, Bool.or_false, Bool.or_eq_true, decide_eq_true_eq, true_or, and_true]
    omega

omit h in
theorem surges_any_iff (es : List Surge) (start : Nat) : (es.any fun e => e.start = start) = true ↔ ∃ e ∈ es, e.start = start := by
  simp

omit h in
/-- An entry goes in after the entries that start before it. -/
theorem insertSurge_spec (e : Surge) {es : List Surge} (fresh : ¬ ∃ x ∈ es, x.start = e.start) : ∃ before after, es = before ++ after
    ∧ (∀ x ∈ before, x.start < e.start) ∧ (∀ x, after.head? = some x → e.start < x.start)
    ∧ insertSurge e es = before ++ e :: after := by
  induction es with
  | nil => exact ⟨[], [], rfl, by simp, by simp, rfl⟩
  | cons x rest ih =>
    have other : x.start ≠ e.start := fun hx => fresh ⟨x, List.mem_cons_self, hx⟩
    by_cases first : e.start < x.start
    · exact ⟨[], x :: rest, rfl, by simp, by simpa using first, if_pos first⟩
    · obtain ⟨before, after, split, earlier, later, inserted⟩ := ih fun ⟨y, hy, he⟩ => fresh ⟨y, List.mem_cons_of_mem _ hy, he⟩
      refine ⟨x :: before, after, by rw [split, List.cons_append], ?_, later, ?_⟩
      · rintro y (_ | ⟨_, hy⟩)
        · omega
        · exact earlier y hy
      · rw [insertSurge, if_neg first, inserted, List.cons_append]

theorem surgeAdd_taken {start duration lead boost : Nat}
    (ok : surgeAddBad s start duration lead boost ≠ true)
    (fresh : ¬ ∃ e ∈ s.cool.surges, e.start = start) (room : s.cool.surges.length < 4) :
    let entry : Surge := { start := start, duration := duration, lead := lead, boost := boost, active := false }
    exec (.surgeAdd tag start duration lead boost) s = .next (replied .surgeAdd tag .ok (.surgePlan (insertSurge entry s.cool.surges))
      { hunting s with cool := { s.cool with surges := insertSurge entry s.cool.surges } }) := by
  refine exec_accepted h rfl ?_ rfl
  exact (if_neg ok).trans ((if_neg fun held => fresh ((surges_any_iff _ _).mp held)).trans (if_neg (Nat.not_le.mpr room)))

/-- SURGE ADD by its checks in their order (R133). -/
theorem surgeAdd_refused (start duration lead boost : Nat) :
    let c : Instr := .surgeAdd tag start duration lead boost
    let bad := surgeAddBad s start duration lead boost
    (bad = true → exec c s = .next (refused .surgeAdd tag .range (hunting s)))
      ∧ (bad ≠ true → (∃ e ∈ s.cool.surges, e.start = start) → exec c s = .next (refused .surgeAdd tag .duplicate (hunting s)))
      ∧ (bad ≠ true → ¬ (∃ e ∈ s.cool.surges, e.start = start) → 4 ≤ s.cool.surges.length →
          exec c s = .next (refused .surgeAdd tag .full (hunting s))) :=
  ⟨fun bad => exec_refused h rfl (if_pos bad),
    fun ok held => exec_refused h rfl ((if_neg ok).trans (if_pos ((surges_any_iff _ _).mpr held))),
    fun ok fresh full => exec_refused h rfl ((if_neg ok).trans
      ((if_neg fun held => fresh ((surges_any_iff _ _).mp held)).trans (if_pos full)))⟩

theorem surgeRemove_spec (start : Nat) :
    ((∃ e ∈ s.cool.surges, e.start = start) → exec (.surgeRemove tag start) s = .next (replied .surgeRemove tag .ok
        (.surgePlan (s.cool.surges.filter fun e => e.start ≠ start))
        { hunting s with cool := { s.cool with surges := s.cool.surges.filter fun e => e.start ≠ start } }))
      ∧ ((∀ e ∈ s.cool.surges, e.start ≠ start) →
          exec (.surgeRemove tag start) s = .next (refused .surgeRemove tag .notFound (hunting s))) := by
  refine ⟨fun held => exec_accepted h rfl (if_pos ((surges_any_iff _ _).mpr held)) rfl,
    fun none => exec_refused h rfl (if_neg fun held => ?_)⟩
  obtain ⟨e, he, same⟩ := (surges_any_iff _ _).mp held
  exact none e he same

/-! #### COOLING GET (R143) -/

theorem coolingGet_read {scope n : Nat} {body : ReplyBody}
    (read : decideCoolingGet scope n (hunting s) = acceptWith body (hunting s)) :
    exec (.coolingGet tag scope n) s = .next (replied .coolingGet tag .ok body (hunting s)) :=
  exec_accepted h rfl read rfl

theorem coolingGet_refused {scope n : Nat} (unnamed : coolingScopeOf scope n = none) :
    exec (.coolingGet tag scope n) s = .next (refused .coolingGet tag .range (hunting s)) :=
  exec_refused h rfl (by rw [decideCoolingGet, unnamed])

omit h in
/-- The chiller's stages as they are reported (R143, R144). -/
theorem chillerView_stages (s : State) (i : Fin 4) : (chillerView s).running[i] = (s.stage i.val).running
    ∧ (chillerView s).times[i] = (s.stage i.val).time
    ∧ (chillerView s).available[i] = (decide (i.val < s.cool.count) && !s.pins.stageFault[i]) := by
  simp [chillerView, stagesRunningOf, stagesAvailableOf, stageAvailable, State.stage]

end requests

/-- Settles O41: each request by its checks, the surge plan by the place of its entry. -/
theorem coolingRequests : Obligations.CoolingRequests := by
  intro tag s h
  refine ⟨fun n setpoint kp cls alarm => ⟨fun ok => ?_, fun bad => ?_⟩, fun count points => ⟨fun bad => ?_, fun ok above => ?_,
    fun ok below => ?_⟩, fun start duration lead boost => ?_, fun start => (surgeRemove_spec h start).1,
    fun start => (surgeRemove_spec h start).2, fun n hn => ?_, fun n hn => ?_, fun n => ⟨?_, ?_, ?_⟩, fun scope n hs => ?_⟩
  · exact trunkSet_taken h fun bad => (trunkSetBad_iff _ _ _ _ _).mp bad ok
  · exact trunkSet_refused h ((trunkSetBad_iff _ _ _ _ _).mpr bad)
  · exact chillerSet_range h ((chillerSetBad_iff _ _).mpr bad)
  · exact chillerSet_state h (fun bad => (chillerSetBad_iff _ _).mp bad ok) ((runsAbove_iff _ _).mpr above)
  · obtain ⟨t, run, trunks, frame, faults, notices⟩ := chillerSet_accepted (tag := tag) h
      (fun bad => (chillerSetBad_iff count points).mp bad ok) (fun runs => below ((runsAbove_iff _ _).mp runs))
    refine ⟨t, run, trunks, frame, faults, fun faulted => ?_, fun quiet => ?_⟩
    · rw [notices, if_pos ((bringsInFault_iff _ _).mpr faulted)]
    · rw [notices, if_neg fun faulted => quiet ((bringsInFault_iff _ _).mp faulted)]
  · have inRange := surgeAddBad_iff s start duration lead boost
    obtain ⟨range, duplicate, full⟩ := surgeAdd_refused (tag := tag) h start duration lead boost
    refine ⟨fun bad => range (inRange.mpr bad), fun ok => duplicate fun bad => inRange.mp bad ok,
      fun ok => full fun bad => inRange.mp bad ok, fun ok fresh room => ?_⟩
    obtain ⟨before, after, split, earlier, later, inserted⟩ := insertSurge_spec
      { start := start, duration := duration, lead := lead, boost := boost, active := false } fresh
    refine ⟨before, after, split, earlier, later, ?_⟩
    rw [← inserted]
    exact surgeAdd_taken h (fun bad => inRange.mp bad ok) fresh room
  · exact coolingGet_read h (by simp [decideCoolingGet, coolingScopeOf, Nat.not_lt.mpr hn])
  · exact coolingGet_refused h (if_pos hn)
  · exact coolingGet_read h rfl
  · exact coolingGet_read h rfl
  · exact ⟨chillerView (hunting s), coolingGet_read h rfl, rfl, rfl, rfl, rfl, rfl, rfl, chillerView_stages (hunting s), rfl, rfl, rfl⟩
  · obtain ⟨k, rfl⟩ : ∃ k, scope = k + 4 := ⟨scope - 4, by omega⟩
    exact coolingGet_refused h rfl

end Sys2Proof.Machine
end

section
/-! ### The figures of a control period (O43) -/

namespace Sys2Proof.Machine

open Sys2Proof Sys2Proof.Safety

/-! #### An allocation goes by demands and classes (R134) -/

/-- What an allocation reads of a trunk. -/
def Trunk.asked (t : Trunk) : Nat × Nat := (t.demand, t.allocCls)

theorem classTotal_of_asked {ts us : List Trunk} (h : us.map Trunk.asked = ts.map Trunk.asked) (k : Nat) :
    classTotal us k = classTotal ts k := by
  have read : ∀ l : List Trunk, classTotal l k = (((l.map Trunk.asked).filter fun x => x.2 = k).map (·.1)).sum := fun l => by
    rw [List.filter_map, List.map_map]
    rfl
  rw [read, read, h]

theorem allocationOf_of_asked {ts us : List Trunk} {t u : Trunk} (h : us.map Trunk.asked = ts.map Trunk.asked)
    (ht : u.asked = t.asked) (capacity : Nat) : allocationOf us capacity u = allocationOf ts capacity t := by
  have total : (us.map (·.demand)).sum = (ts.map (·.demand)).sum := by
    have demands := congrArg (List.map Prod.fst) h
    rw [List.map_map, List.map_map] at demands
    exact congrArg List.sum demands
  have demand : u.demand = t.demand := congrArg Prod.fst ht
  have cls : u.allocCls = t.allocCls := congrArg Prod.snd ht
  simp only [allocationOf, remainingFor, total, demand, cls, classTotal_of_asked h]

/-- Every trunk's allocation is the one that the stored capacity gives. -/
def AllocatedFrom (s : State) : Prop :=
  ∀ n, n < 12 → (s.trunk n).allocation = allocationOf s.cool.trunks.toList s.cool.capacity (s.trunk n)

theorem allocateInPeriod_allocatedFrom (s : State) : AllocatedFrom (allocateInPeriod s) := fun n hn => by
  have trunk : (allocateInPeriod s).trunk n
      = { s.trunk n with allocation := allocationOf s.cool.trunks.toList s.cool.capacityNow (s.trunk n) } :=
    allocate_trunk (recordCapacity s) hn
  have asked : (allocateInPeriod s).cool.trunks.toList.map Trunk.asked = s.cool.trunks.toList.map Trunk.asked := by
    rw [allocateInPeriod, allocate, Vector.toList_map, List.map_map]
    rfl
  rw [allocationOf_of_asked asked (t := s.trunk n) (by rw [trunk]; rfl), trunk]
  rfl

/-- The trunks in ascending number. -/
theorem trunks_toList (s : State) : s.cool.trunks.toList = (List.range 12).map s.trunk :=
  List.ext_getElem (by simp) fun n hn _ => by simp [State.trunk, show n < 12 by simpa using hn]

/-! #### The figures of an expiry (R129 to R132) -/

section figures

variable (s : State)

/-- The part as its figures are computed at an expiry: the rest of the period has passed and the surge plan is tested. -/
def periodBegun : State :=
  updateSurges { ageStages (Config.controlSeconds - s.cool.controlTimer) s with
    cool := { (ageStages (Config.controlSeconds - s.cool.controlTimer) s).cool with controlTimer := 0 } }

/-- The part with the demands and the allocation of the period. -/
def periodShared : State := allocateInPeriod (computeDemands (periodBegun s))

theorem controlPeriod_eq : controlPeriod s = stageStep (periodShared s) := rfl

theorem needsCold_eq (n : Nat) : needsCold s n = s.cellar.lines.toList.any fun l => decide (l.config.trunk = n ∧
    (l.state = .serving ∨ l.state = .priming ∨ l.state = .dry ∨ l.state = .draining ∨ l.state = .queued)) := by
  have wants : ∀ st : ServiceState,
      st.wantsCold = decide (st = .serving ∨ st = .priming ∨ st = .dry ∨ st = .draining ∨ st = .queued) := by
    intro st
    cases st <;> rfl
  simp only [needsCold, wants, Bool.decide_and, ← Vector.any_toList]

theorem foamOnTrunk_eq (n : Nat) : foamOnTrunk s n = s.cellar.lines.toList.any fun l => decide (l.config.trunk = n) && l.foamAlert := by
  simp only [foamOnTrunk, ← Vector.any_toList]

/-- The surge plan as an expiry leaves it (R132). -/
theorem periodBegun_surges : (periodBegun s).cool.surges = if s.store.unset then s.cool.surges.map fun e => { e with active := false }
    else (s.cool.surges.filter fun e => decide (s.store.clock < e.start + e.duration)).map fun e =>
      { e with active := decide (e.start - e.lead ≤ s.store.clock ∧ s.store.clock < e.start + e.duration) } := by
  have running : ∀ e : Surge, (!e.ended s.store.clock) = decide (s.store.clock < e.start + e.duration) := fun e => by
    rw [Surge.ended, ← decide_not, decide_eq_decide, Nat.not_le]
  have active : ∀ e : Surge, e.isActive s.store.clock
      = decide (e.start - e.lead ≤ s.store.clock ∧ s.store.clock < e.start + e.duration) := fun e => by
    rw [Surge.isActive, Bool.decide_and]
  simp only [← running, ← active]
  rfl

/-- The demand of trunk `n` at an expiry (R131). -/
def periodDemand (n : Nat) : Nat := demandOf (periodBegun s) n (s.trunk n)

theorem periodDemand_eq (n : Nat) : periodDemand s n = if needsCold s n = false then 0
    else if (s.trunk n).sensorFault then 100
    else min 100 (((s.trunk n).reading - (s.trunk n).setpoint).toNat * (s.trunk n).kp / 10 + min 30 (5 * (s.trunk n).warm)
      + (if foamOnTrunk s n then 10 else 0) + (((periodBegun s).cool.surges.filter (·.active)).map (·.boost)).foldl max 0) := by
  have needs : needsCold (periodBegun s) n = needsCold s n := rfl
  have foam : foamOnTrunk (periodBegun s) n = foamOnTrunk s n := rfl
  rw [periodDemand, demandOf, needs, foam]
  simp only [Bool.not_eq_true']
  rfl

omit s in
theorem computeDemands_trunk (u : State) {n : Nat} (hn : n < 12) : (computeDemands u).trunk n = { u.trunk n with
    demand := demandOf u n (u.trunk n), allocCls := (u.trunk n).cls, needed := needsCold u n, warm := 0 } := by
  simp [computeDemands, State.trunk, hn]

/-- A trunk takes its demand, its class and its need of cold, and counts warm pours from 0 (R130). -/
theorem periodShared_trunk {n : Nat} (hn : n < 12) : (periodShared s).trunk n = { s.trunk n with
    demand := periodDemand s n, allocCls := (s.trunk n).cls, needed := needsCold s n, warm := 0
    allocation := ((periodShared s).trunk n).allocation } := by
  have allocated : (periodShared s).trunk n = { (computeDemands (periodBegun s)).trunk n with
      allocation := ((periodShared s).trunk n).allocation } := by
    have shared : (periodShared s).trunk n = _ := allocate_trunk (recordCapacity (computeDemands (periodBegun s))) hn
    rw [shared]
    rfl
  rw [computeDemands_trunk _ hn] at allocated
  exact allocated

/-- The stages have waited the rest of the period (section 7.5). -/
theorem periodShared_stage {i : Nat} (hi : i < 4) : (periodShared s).stage i
    = { s.stage i with time := min 65535 ((s.stage i).time + (10 - s.cool.controlTimer)) } := by
  have aged : (ageStages (Config.controlSeconds - s.cool.controlTimer) s).stage i
      = { s.stage i with time := min 65535 ((s.stage i).time + (10 - s.cool.controlTimer)) } := by
    simp [ageStages, State.stage, hi, satAdd, Config.controlSeconds, Config.maxStageTime]
  exact aged

theorem periodShared_running : (periodShared s).cool.running = s.cool.running := by
  have aged : (ageStages (Config.controlSeconds - s.cool.controlTimer) s).cool.running = s.cool.running := by
    simp [ageStages, Cooling.running, Function.comp_def]
  exact aged

/-- The stage target of the period (R137). -/
theorem stageTarget_periodShared : stageTarget (periodShared s) =
    let wanted := min ((((List.range 12).map (periodDemand s)).sum + s.cool.points - 1) / s.cool.points)
      ((List.range 4).countP fun i => stageAvailable s i)
    let limited := if s.cool.bathFault then min wanted 2 else wanted
    if s.cool.freezeHold then 0 else limited := by
  have demands : (periodShared s).cool.sumOfDemands = ((List.range 12).map (periodDemand s)).sum := by
    rw [Cooling.sumOfDemands, trunks_toList, List.map_map]
    refine congrArg List.sum (List.map_congr_left fun n hn => ?_)
    rw [Function.comp_apply, periodShared_trunk s (List.mem_range.mp hn)]
  rw [stageTarget, demands]
  rfl

end figures

end Sys2Proof.Machine
end

section
/-! ### The expiry of the control period (O43) -/

namespace Sys2Proof.Machine

open Sys2Proof Sys2Proof.Safety

/-! #### What the one stage change leaves (R137) -/

section stageStep

variable (s : State)

theorem stageStep_frame : stageStep s = { s with cool := { s.cool with
    trunks := (stageStep s).cool.trunks, stages := (stageStep s).cool.stages, capacity := (stageStep s).cool.capacity
    target := stageTarget s } } := by
  obtain stays | ⟨i, -, on⟩ | ⟨i, -, off⟩ := stageStep_cases s
  · rw [stays]; rfl
  · rw [on]; rfl
  · rw [off]; rfl

theorem stageStep_trunk {n : Nat} (hn : n < 12) :
    (stageStep s).trunk n = { s.trunk n with allocation := ((stageStep s).trunk n).allocation } := by
  obtain stays | ⟨i, -, on⟩ | ⟨i, -, off⟩ := stageStep_cases s
  · rw [stays]; rfl
  · rw [on]; rfl
  · have shared : (stageStep s).trunk n = _ :=
      (congrArg (State.trunk · n) off).trans (allocate_trunk (recordCapacity (switchStage i false (targeted s))) hn)
    rw [shared]
    rfl

theorem stageStep_allocatedFrom (hs : AllocatedFrom s) : AllocatedFrom (stageStep s) := by
  obtain stays | ⟨i, -, on⟩ | ⟨i, -, off⟩ := stageStep_cases s
  · rw [stays]; exact hs
  · rw [on]; exact hs
  · rw [off]; exact allocateInPeriod_allocatedFrom _

/-- The capacity falls where a stage switches off, and a stage that switches on counts from the next period (assumption 31). -/
theorem stageStep_capacity (hs : s.cool.capacity = s.cool.capacityNow) :
    (stageStep s).cool.capacity = min s.cool.running (stageStep s).cool.running * s.cool.points := by
  have fits : ∀ {r}, s.cool.running ≤ r → s.cool.capacity = min s.cool.running r * s.cool.points := fun le => by
    rw [Nat.min_eq_left le, hs]
    rfl
  obtain stays | ⟨i, ⟨-, candidate, -⟩, on⟩ | ⟨i, ⟨-, candidate, -⟩, off⟩ := stageStep_cases s
  · rw [stays]
    exact fits (Nat.le_refl _)
  · obtain ⟨⟨-, idle⟩, hi, -⟩ := candidateOn_eq_some.mp candidate
    have more := running_switchStage hi true (targeted s)
    have idle : ((targeted s).stage i).running = false := idle
    rw [idle] at more
    rw [on]
    exact fits (more ▸ Nat.le_succ _)
  · have hi := lt_of_running (candidateOff_eq_some.mp candidate).1
    have fewer := running_switchStage hi false (targeted s)
    have le : (switchStage i false (targeted s)).cool.running ≤ s.cool.running := fewer ▸ Nat.sub_le _ _
    rw [off]
    exact congrArg (· * s.cool.points) (Nat.min_eq_right le).symm

/-- Each stage by whether it switches. -/
theorem stageStep_stage (i : Nat) :
    (SwitchesOn s i → (stageStep s).stage i = { running := true, time := 0 })
      ∧ (SwitchesOff s i → (stageStep s).stage i = { running := false, time := 0 })
      ∧ (¬ SwitchesOn s i → ¬ SwitchesOff s i → (stageStep s).stage i = s.stage i) := by
  refine ⟨fun on => ?_, fun off => ?_, fun noOn noOff => ?_⟩
  · rw [stageStep_on on, stage_switchStage, if_pos ⟨rfl, (candidateOn_eq_some.mp on.2.1).2.1⟩]
  · have hi := lt_of_running (candidateOff_eq_some.mp off.2.1).1
    rw [stageStep_off off]
    exact (stage_switchStage i false (targeted s) i).trans (if_pos ⟨rfl, hi⟩)
  · obtain stays | ⟨j, on, ran⟩ | ⟨j, off, ran⟩ := stageStep_cases s
    · rw [stays]; rfl
    · rw [ran, stage_switchStage, if_neg fun same : j = i ∧ j < 4 => noOn (same.1 ▸ on)]
      rfl
    · rw [ran]
      exact (stage_switchStage j false (targeted s) i).trans (if_neg fun same : j = i ∧ j < 4 => noOff (same.1 ▸ off))

end stageStep

/-! #### The expiry -/

section expiry

variable {s : State}

theorem controlPeriodExpiry_run (takes : s.takesEvents = true) :
    exec .controlPeriodExpiry s = .next (transmit (controlPeriod s)) := congrArg _ (event_of_takes takes)

/-- No stage switches while the period's figures are computed. -/
theorem periodShared_stage_running (s : State) (i : Nat) : ((periodShared s).stage i).running = (s.stage i).running := by
  by_cases hi : i < 4
  · rw [periodShared_stage s hi]
  · rw [State.stage_of_ge (Nat.not_lt.mp hi), State.stage_of_ge (Nat.not_lt.mp hi)]

/-- The stage that switches on: the lowest available one that is off, after 300 s off (R137). -/
theorem switchesOn_periodShared {i : Nat} (hi : i < 4) : SwitchesOn (periodShared s) i ↔ s.cool.running < stageTarget (periodShared s)
    ∧ stageAvailable s i = true ∧ (s.stage i).running = false ∧ 300 ≤ ((periodShared s).stage i).time
    ∧ ∀ j, j < i → ¬ (stageAvailable s j = true ∧ (s.stage j).running = false) := by
  have ready : ∀ j, stageAvailable (periodShared s) j = stageAvailable s j := fun _ => rfl
  rw [SwitchesOn, candidateOn_eq_some, periodShared_running]
  simp only [ready, periodShared_stage_running]
  exact ⟨fun ⟨below, ⟨⟨ready, idle⟩, _, first⟩, waited⟩ => ⟨below, ready, idle, waited, first⟩,
    fun ⟨below, ready, idle, waited, first⟩ => ⟨below, ⟨⟨ready, idle⟩, hi, first⟩, waited⟩⟩

/-- The stage that switches off: the highest running one, after 180 s on (R137). -/
theorem switchesOff_periodShared {i : Nat} : SwitchesOff (periodShared s) i ↔ stageTarget (periodShared s) < s.cool.running
    ∧ (s.stage i).running = true ∧ 180 ≤ ((periodShared s).stage i).time ∧ ∀ j, i < j → j < 4 → (s.stage j).running = false := by
  rw [SwitchesOff, candidateOff_eq_some, periodShared_running]
  simp only [periodShared_stage_running]
  exact ⟨fun ⟨above, ⟨runs, last⟩, waited⟩ => ⟨above, runs, waited, last⟩,
    fun ⟨above, runs, waited, last⟩ => ⟨above, ⟨runs, last⟩, waited⟩⟩

theorem controlPeriod_trunk (s : State) {n : Nat} (hn : n < 12) : (controlPeriod s).trunk n = { s.trunk n with
    demand := periodDemand s n, allocCls := (s.trunk n).cls, needed := needsCold s n, warm := 0
    allocation := allocationOf (controlPeriod s).cool.trunks.toList (controlPeriod s).cool.capacity
      ((controlPeriod s).trunk n) } := by
  have allocated := stageStep_allocatedFrom (periodShared s) (allocateInPeriod_allocatedFrom _) n hn
  have trunk := stageStep_trunk (periodShared s) hn
  rw [periodShared_trunk s hn, allocated] at trunk
  exact trunk

theorem controlPeriod_valve (s : State) (n : Nat) : trunkValve (controlPeriod s) n = trunkValve s n := by
  have takes : (controlPeriod s).takesEvents = s.takesEvents := by
    rw [controlPeriod_eq, stageStep_frame]
    rfl
  have valve : ((controlPeriod s).trunk n).valveOpen = (s.trunk n).valveOpen := by
    by_cases hn : n < 12
    · rw [controlPeriod_trunk s hn]
    · simp [State.trunk, hn]
  rw [trunkValve, trunkValve, takes, valve]

theorem controlPeriod_frame (s : State) : controlPeriod s = { s with cool := { s.cool with
    surges := (periodBegun s).cool.surges, trunks := (controlPeriod s).cool.trunks
    stages := (controlPeriod s).cool.stages, capacity := (controlPeriod s).cool.capacity
    target := stageTarget (periodShared s), controlTimer := 0 } } := by
  rw [controlPeriod_eq, stageStep_frame]
  rfl

theorem stageOutput_of_stage (takes : s.takesEvents = true) (i : Nat) : stageOutput s i = (s.stage i).running := by
  rw [stageOutput, takes, Bool.true_and]

end expiry

/-- Settles O43: the figures of the period, and each stage by whether it is the one that is due. -/
theorem controlPeriod_holds : Obligations.ControlPeriod := by
  intro s takes clock surges boost needs foam demand sum available wanted limited target running aged up down
  have needed : ∀ n, needsCold s n = needs n := needsCold_eq s
  have planned : (periodBegun s).cool.surges = surges := periodBegun_surges s
  have demanded : ∀ n, periodDemand s n = demand n := fun n => by rw [periodDemand_eq, needed, foamOnTrunk_eq, planned]
  have targets : stageTarget (periodShared s) = target := by
    rw [stageTarget_periodShared, funext demanded]
    rfl
  have stages : ∀ i, i < 4 → (periodShared s).stage i = aged i := fun i hi => periodShared_stage s hi
  have on : ∀ i, i < 4 → (SwitchesOn (periodShared s) i ↔ up i) := fun i hi => by
    rw [switchesOn_periodShared hi, targets, stages i hi]
    exact Iff.rfl
  have off : ∀ i, i < 4 → (SwitchesOff (periodShared s) i ↔ down i) := fun i hi => by
    rw [switchesOff_periodShared, targets, stages i hi]
    exact Iff.rfl
  have taking : (controlPeriod s).takesEvents = true := by
    rw [controlPeriod_frame]
    exact takes
  have staged : ∀ i, i < 4 → (up i → (controlPeriod s).stage i = { running := true, time := 0 })
      ∧ (down i → (controlPeriod s).stage i = { running := false, time := 0 })
      ∧ (¬ up i → ¬ down i → (controlPeriod s).stage i = aged i) := fun i hi => by
    rw [← on i hi, ← off i hi, ← stages i hi]
    exact stageStep_stage (periodShared s) i
  refine ⟨controlPeriod s, controlPeriodExpiry_run takes, fun n hn => ?_, ?_, staged, fun i hi => ?_, controlPeriod_valve s, ?_⟩
  · rw [← demanded, ← needed]
    exact controlPeriod_trunk s hn
  · have capacity := stageStep_capacity (periodShared s) rfl
    rw [periodShared_running] at capacity
    exact capacity
  · obtain ⟨rises, falls, stays⟩ := staged i hi
    rw [stageOutput_of_stage taking, stageOutput_of_stage takes]
    exact ⟨fun h => by rw [rises h], fun h => by rw [falls h], fun noUp noDown => by rw [stays noUp noDown]⟩
  · rw [← planned, ← targets]
    exact controlPeriod_frame s

end Sys2Proof.Machine
end

section
/-! ### The samples of the return sensors (O44) -/

namespace Sys2Proof.Machine

open Sys2Proof Sys2Proof.Safety

/-! #### At most one cause posted on a subject (R181) -/

/-- Posts a cause on a subject, or nothing. -/
def postSome (k : NoticeKey) (c : Option NoticeCause) (s : State) : State :=
  match c with
  | none => s
  | some c => post k c s

/-- From `s` to `t` the subject's pending notice has taken the cause, or without one is as it was. -/
def Posted (k : NoticeKey) (c : Option NoticeCause) (s t : State) : Prop :=
  (∀ d, c = some d → { key := k, cause := d } ∈ t.link.notices)
    ∧ (c = none → ∀ x : Notice, x.key = k → (x ∈ t.link.notices ↔ x ∈ s.link.notices))

section posted

variable {k : NoticeKey} {keys : List NoticeKey} {c : Option NoticeCause} {s t u : State}

theorem postSome_cool (k : NoticeKey) (c : Option NoticeCause) (s : State) : (postSome k c s).cool = s.cool := by
  cases c <;> rfl

theorem postSome_frame (k : NoticeKey) (c : Option NoticeCause) (s : State) :
    postSome k c s = { s with link := { s.link with notices := (postSome k c s).link.notices } } := by
  cases c <;> rfl

/-- A cause posted where the list is that of `s`. -/
theorem postSome_posted (h : t.link = s.link) : Posted k c s (postSome k c t) := by
  cases c with
  | none =>
    refine ⟨fun _ hd => (by cases hd), fun _ x _ => ?_⟩
    simp only [postSome, h]
  | some c =>
    refine ⟨fun d hd => ?_, fun hn => by cases hn⟩
    cases hd
    exact mem_mergeNotice_self k c _

theorem postSome_only (h : t.link = s.link) : NoticesOnly [k] s (postSome k c t) := fun x hx => by
  cases c with
  | none => simp only [postSome, h]
  | some c =>
    refine (mem_mergeNotice_of_ne (by simpa using hx)).trans ?_
    rw [h]

theorem Posted.then_only (h : Posted k c s t) (only : NoticesOnly keys t u) (hk : k ∉ keys) : Posted k c s u :=
  ⟨fun d hd => (only _ hk).mpr (h.1 d hd), fun hn x hx => (only x (hx ▸ hk)).trans (h.2 hn x hx)⟩

theorem Posted.after_only (only : NoticesOnly keys s t) (hk : k ∉ keys) (h : Posted k c t u) : Posted k c s u :=
  ⟨h.1, fun hn x hx => (h.2 hn x hx).trans (only x (hx ▸ hk))⟩

end posted

/-! #### One return sensor (R128, R141, R142) -/

/-- A trunk after a sample of its sensor. -/
def Trunk.read (t : Trunk) (reading : Option Int) : Trunk :=
  match validReturn reading with
  | none => { t with sensorFault := true, alarmTimer := 0, releaseTimer := 0 }
  | some v => t.sampled v

/-- What a sample of a trunk's sensor posts; a cleared alarm replaces a restored sensor (assumption 18). -/
def Trunk.readCause (t : Trunk) (reading : Option Int) : Option NoticeCause :=
  match validReturn reading with
  | none => if t.sensorFault then none else some .trunkSensorFault
  | some v =>
    if t.alarm && !(t.sampled v).alarm then some .trunkAlarmClear
    else if t.sensorFault then some .trunkSensorRestored else none

theorem sampleTrunk_eq (n : Nat) (reading : Option Int) (s : State) : sampleTrunk n reading s
    = postSome (.trunk n) ((s.trunk n).readCause reading) (s.setTrunk n ((s.trunk n).read reading)) := by
  unfold sampleTrunk Trunk.readCause Trunk.read
  cases validReturn reading with
  | none =>
    simp only []
    split
    · rfl
    · rfl
  | some v =>
    simp only []
    split
    · split
      · exact post_post _ _ _ _
      · rfl
    · split
      · rfl
      · rfl

/-! #### The twelve sensors in turn -/

/-- One sample of each trunk of a list. -/
def sampleTrunks (readings : Nat → Option Int) (l : List Nat) (s : State) : State :=
  l.foldl (fun s n => sampleTrunk n (readings n) s) s

section trunks

variable (readings : Nat → Option Int)

theorem sampleTrunk_frame (n : Nat) (reading : Option Int) (s : State) : sampleTrunk n reading s = { s with
    cool := { s.cool with trunks := (sampleTrunk n reading s).cool.trunks }
    link := { s.link with notices := (sampleTrunk n reading s).link.notices } } := by
  rw [sampleTrunk_eq, postSome_frame]
  rfl

theorem sampleTrunks_frame (l : List Nat) (s : State) : sampleTrunks readings l s = { s with
    cool := { s.cool with trunks := (sampleTrunks readings l s).cool.trunks }
    link := { s.link with notices := (sampleTrunks readings l s).link.notices } } := by
  refine foldl_closed (P := fun u => u = { s with
    cool := { s.cool with trunks := u.cool.trunks }, link := { s.link with notices := u.link.notices } }) (fun u n hu => ?_) l s rfl
  rw [sampleTrunk_frame, hu]

/-- Each trunk is read by its own sensor, and posts what its own sample gives. -/
theorem sampleTrunks_spec {l : List Nat} (nodup : l.Nodup) (s : State) :
    (∀ n, n < 12 → (sampleTrunks readings l s).trunk n = if n ∈ l then (s.trunk n).read (readings n) else s.trunk n)
      ∧ NoticesOnly (l.map .trunk) s (sampleTrunks readings l s)
      ∧ ∀ n ∈ l, Posted (.trunk n) ((s.trunk n).readCause (readings n)) s (sampleTrunks readings l s) := by
  induction l generalizing s with
  | nil => exact ⟨fun _ _ => rfl, noticesOnly_refl _ _, fun _ hn => absurd hn (by simp)⟩
  | cons a rest ih =>
    obtain ⟨fresh, nodup⟩ := List.nodup_cons.mp nodup
    have first : sampleTrunk a (readings a) s = _ := sampleTrunk_eq a (readings a) s
    have step : sampleTrunks readings (a :: rest) s = sampleTrunks readings rest (sampleTrunk a (readings a) s) := rfl
    have only : NoticesOnly [.trunk a] s (sampleTrunk a (readings a) s) := by
      rw [first]
      exact postSome_only rfl
    have trunk : ∀ n, (sampleTrunk a (readings a) s).trunk n = if a = n ∧ a < 12 then (s.trunk a).read (readings a) else s.trunk n := by
      intro n
      rw [first, State.trunk_congr (postSome_cool _ _ _), State.trunk_setTrunk]
    obtain ⟨trunks, others, posted⟩ := ih nodup (sampleTrunk a (readings a) s)
    have apart : NoticeKey.trunk a ∉ rest.map NoticeKey.trunk := by simpa using fresh
    rw [step]
    refine ⟨fun n hn => ?_, ?_, fun n hn => ?_⟩
    · rw [trunks n hn, trunk n]
      by_cases han : a = n
      · subst han
        rw [if_neg fresh, if_pos ⟨rfl, hn⟩, if_pos List.mem_cons_self]
      · simp only [han, false_and, if_false, List.mem_cons, Ne.symm han, false_or]
    · refine noticesOnly_trans (noticesOnly_mono only ?_) (noticesOnly_mono others ?_)
      · simp
      · simp
    · obtain rfl | hr := List.mem_cons.mp hn
      · have here : Posted (.trunk n) ((s.trunk n).readCause (readings n)) s (sampleTrunk n (readings n) s) := by
          rw [first]
          exact postSome_posted rfl
        exact here.then_only others apart
      · have han : a ≠ n := fun h => fresh (h ▸ hr)
        have later := posted n hr
        rw [trunk n, if_neg fun h => han h.1] at later
        exact later.after_only only (by simpa using Ne.symm han)

end trunks

end Sys2Proof.Machine
end

section
/-! ### The sample of the bath (O44) -/

namespace Sys2Proof.Machine

open Sys2Proof Sys2Proof.Safety

section posted

variable {k : NoticeKey} {c d : Option NoticeCause} {s t u : State}

/-- Of two causes posted in turn the later one stands. -/
theorem Posted.trans (first : Posted k d s t) (second : Posted k c t u) : Posted k (c.or d) s u := by
  cases c with
  | none =>
    exact ⟨fun x hx => (second.2 rfl _ rfl).mpr (first.1 x hx), fun hn x hx => (second.2 rfl x hx).trans (first.2 hn x hx)⟩
  | some c => exact ⟨fun x hx => second.1 x hx, fun hn => (by cases hn)⟩

end posted

/-! #### Capacity 0 (R134) -/

theorem allocationOf_zero {ts : List Trunk} {t : Trunk} (ht : t ∈ ts) : allocationOf ts 0 t = 0 := by
  have member : ∀ {l : List Trunk}, t ∈ l → t.demand ≤ (l.map (·.demand)).sum := fun hl =>
    List.le_sum_of_mem (List.mem_map_of_mem hl)
  have own : t.demand ≤ classTotal ts t.allocCls := member (List.mem_filter.mpr ⟨ht, decide_eq_true rfl⟩)
  have nothing : remainingFor ts 0 t.allocCls = 0 := by simp [remainingFor, leaveOf]
  rw [allocationOf, nothing, shareOf]
  split
  · exact Nat.le_zero.mp ((member ht).trans ‹_›)
  · split
    · exact Nat.le_zero.mp (own.trans ‹_›)
    · rw [Nat.mul_zero, Nat.zero_div]

theorem stopStages_capacity (s : State) : (stopStages s).cool.capacityNow = 0 := by
  have none : (stopStages s).cool.running = 0 := by
    rw [Cooling.running, stopStages, Vector.toList_map, List.countP_map, List.countP_eq_zero]
    rintro g -
    cases hg : g.running <;> simp [hg]
  rw [Cooling.capacityNow, none, Nat.zero_mul]

/-- Without a stage that runs no trunk is given anything. -/
theorem allocate_stopStages_trunk (s : State) {n : Nat} (hn : n < 12) :
    (allocate (stopStages s)).trunk n = { s.trunk n with allocation := 0 } := by
  have held : s.trunk n ∈ s.cool.trunks.toList := by simp [State.trunk, hn]
  have shared := allocate_trunk (stopStages s) hn
  rw [stopStages_capacity, allocationOf_zero (ts := (stopStages s).cool.trunks.toList) (t := (stopStages s).trunk n) held] at shared
  exact shared

/-! #### The bath sensor and the freeze guard (R139, R140) -/

/-- A valid bath reading trips the freeze guard. -/
abbrev FreezeTrips (c : Cooling) (v : Int) : Prop := c.freezeHold = false ∧ v ≤ -60

/-- A valid bath reading clears the hold of the freeze guard. -/
abbrev FreezeThaws (c : Cooling) (v : Int) : Prop := c.freezeHold = true ∧ -40 ≤ v

/-- What a bath sample posts; the freeze guard acts after the reading is taken (assumption 61). -/
def bathCause (c : Cooling) (reading : Option Int) : Option NoticeCause :=
  match validBath reading with
  | none => if c.bathFault then none else some .bathFault
  | some v =>
    if FreezeTrips c v then some .freeze else if FreezeThaws c v then some .freezeClear
    else if c.bathFault then some .bathRestored else none

/-- The part with the bath read and the freeze hold as the reading leaves it. -/
def bathTaken (v : Int) (hold : Bool) (s : State) : State :=
  { s with cool := { s.cool with bath := v, bathFault := false, freezeHold := hold } }

/-- What a bath sample does beside its notice. -/
def bathRead (reading : Option Int) (s : State) : State :=
  match validBath reading with
  | none => { s with cool := { s.cool with bathFault := true } }
  | some v =>
    if FreezeTrips s.cool v then allocate (stopStages (bathTaken v true s))
    else bathTaken v (s.cool.freezeHold && decide (v < -40)) s

theorem freezeGuard_trips {v : Int} {s : State} (h : FreezeTrips s.cool v) : freezeGuard v s
    = post .chiller .freeze (allocate (stopStages { s with cool := { s.cool with freezeHold := true } })) := by
  rw [freezeGuard, h.1]
  exact if_pos h.2

theorem freezeGuard_thaws {v : Int} {s : State} (h : FreezeThaws s.cool v) : freezeGuard v s
    = post .chiller .freezeClear { s with cool := { s.cool with freezeHold := false } } := by
  rw [freezeGuard, h.1]
  exact if_pos h.2

theorem freezeGuard_calm {v : Int} {s : State} (noTrip : ¬ FreezeTrips s.cool v) (noThaw : ¬ FreezeThaws s.cool v) : freezeGuard v s = s := by
  unfold freezeGuard
  cases hold : s.cool.freezeHold
  · exact if_neg fun low => noTrip ⟨hold, low⟩
  · exact if_neg fun high => noThaw ⟨hold, high⟩

/-- A hold that no reading clears stays (R139). -/
theorem held_of_not_thaws {c : Cooling} {v : Int} (h : ¬ FreezeThaws c v) : (c.freezeHold && decide (v < -40)) = c.freezeHold := by
  cases hold : c.freezeHold
  · rfl
  · exact decide_eq_true (Int.not_le.mp fun high => h ⟨hold, high⟩)

theorem held_of_thaws {c : Cooling} {v : Int} (h : FreezeThaws c v) : (c.freezeHold && decide (v < -40)) = false := by
  rw [decide_eq_false (Int.not_lt.mpr h.2), Bool.and_false]

theorem sampleBath_eq (reading : Option Int) (s : State) :
    sampleBath reading s = postSome .chiller (bathCause s.cool reading) (bathRead reading s) := by
  unfold sampleBath bathCause bathRead
  cases validBath reading with
  | none =>
    simp only []
    cases fault : s.cool.bathFault
    · rfl
    · exact congrArg (fun b => { s with cool := { s.cool with bathFault := b } }) fault
  | some v =>
    have restored : ∀ c u, post .chiller c (post .chiller .bathRestored u) = post .chiller c u := fun c u => post_post _ _ _ u
    have taken : bathTaken v s.cool.freezeHold s = { s with cool := { s.cool with bath := v, bathFault := false } } := rfl
    simp only [← taken]
    by_cases trip : FreezeTrips s.cool v
    · rw [if_pos trip, if_pos trip]
      cases s.cool.bathFault
      · exact freezeGuard_trips (s := bathTaken v s.cool.freezeHold s) trip
      · exact (freezeGuard_trips (s := post .chiller .bathRestored (bathTaken v s.cool.freezeHold s)) trip).trans
          (restored .freeze (allocate (stopStages (bathTaken v true s))))
    · rw [if_neg trip, if_neg trip]
      by_cases thaw : FreezeThaws s.cool v
      · rw [if_pos thaw, held_of_thaws thaw]
        cases s.cool.bathFault
        · exact freezeGuard_thaws (s := bathTaken v s.cool.freezeHold s) thaw
        · exact (freezeGuard_thaws (s := post .chiller .bathRestored (bathTaken v s.cool.freezeHold s)) thaw).trans
            (restored .freezeClear (bathTaken v false s))
      · rw [if_neg thaw, held_of_not_thaws thaw]
        cases s.cool.bathFault
        · exact freezeGuard_calm (s := bathTaken v s.cool.freezeHold s) trip thaw
        · exact freezeGuard_calm (s := post .chiller .bathRestored (bathTaken v s.cool.freezeHold s)) trip thaw

/-! #### What a bath sample leaves -/

section bath

variable (reading : Option Int) (s : State)

/-- The bath sample trips the freeze guard. -/
def BathTrips : Prop := s.cool.freezeHold = false ∧ ∃ v, validBath reading = some v ∧ v ≤ -60

theorem bathRead_trips {reading : Option Int} {s : State} (h : BathTrips reading s) :
    ∃ v, bathRead reading s = allocate (stopStages (bathTaken v true s)) := by
  obtain ⟨free, v, valid, low⟩ := h
  refine ⟨v, ?_⟩
  rw [bathRead, valid]
  exact if_pos ⟨free, low⟩

/-- A sample that does not trip the guard reads the bath alone. -/
theorem bathRead_calm {reading : Option Int} {s : State} (h : ¬ BathTrips reading s) : bathRead reading s = { s with cool := { s.cool with
    bath := (bathRead reading s).cool.bath, bathFault := (bathRead reading s).cool.bathFault
    freezeHold := (bathRead reading s).cool.freezeHold } } := by
  unfold bathRead
  cases valid : validBath reading with
  | none => rfl
  | some v =>
    have noTrip : ¬ FreezeTrips s.cool v := fun trip => h ⟨trip.1, v, valid, trip.2⟩
    simp only [if_neg noTrip]
    rfl

theorem bathRead_frame : bathRead reading s = { s with cool := { s.cool with
    trunks := (bathRead reading s).cool.trunks, stages := (bathRead reading s).cool.stages
    bath := (bathRead reading s).cool.bath, bathFault := (bathRead reading s).cool.bathFault
    freezeHold := (bathRead reading s).cool.freezeHold } } := by
  by_cases h : BathTrips reading s
  · obtain ⟨v, read⟩ := bathRead_trips h
    rw [read]
    rfl
  · exact (bathRead_calm h).trans (by rw [bathRead_calm h])

theorem bathRead_trunk {n : Nat} (hn : n < 12) :
    (bathRead reading s).trunk n = { s.trunk n with allocation := ((bathRead reading s).trunk n).allocation }
      ∧ (BathTrips reading s → ((bathRead reading s).trunk n).allocation = 0)
      ∧ (¬ BathTrips reading s → ((bathRead reading s).trunk n).allocation = (s.trunk n).allocation) := by
  by_cases h : BathTrips reading s
  · obtain ⟨v, read⟩ := bathRead_trips h
    have shared : (bathRead reading s).trunk n = { s.trunk n with allocation := 0 } := by
      rw [read]
      exact allocate_stopStages_trunk (bathTaken v true s) hn
    rw [shared]
    exact ⟨rfl, fun _ => rfl, fun calm => absurd h calm⟩
  · have kept : (bathRead reading s).trunk n = s.trunk n := by
      rw [bathRead_calm h]
      rfl
    rw [kept]
    exact ⟨rfl, fun trip => absurd trip h, fun _ => rfl⟩

theorem bathRead_stage (i : Nat) :
    (BathTrips reading s → (s.stage i).running = true → (bathRead reading s).stage i = { running := false, time := 0 })
      ∧ (BathTrips reading s → ((bathRead reading s).stage i).running = false)
      ∧ (¬ (BathTrips reading s ∧ (s.stage i).running = true) → (bathRead reading s).stage i = s.stage i) := by
  by_cases h : BathTrips reading s
  · obtain ⟨v, read⟩ := bathRead_trips h
    have stopped : (bathRead reading s).stage i = if (s.stage i).running = true then { running := false, time := 0 } else s.stage i := by
      rw [read]
      exact stage_stopStages (bathTaken v true s) i
    have off : ((bathRead reading s).stage i).running = false := by
      rw [read]
      exact stopStages_off (bathTaken v true s) i
    exact ⟨fun _ runs => stopped.trans (if_pos runs), fun _ => off, fun idle => stopped.trans (if_neg fun runs => idle ⟨h, runs⟩)⟩
  · have kept : (bathRead reading s).stage i = s.stage i := by
      rw [bathRead_calm h]
      rfl
    exact ⟨fun trip => absurd trip h, fun trip => absurd trip h, fun _ => kept⟩

theorem bathRead_none {reading : Option Int} {s : State} (invalid : validBath reading = none) :
    (bathRead reading s).cool.bath = s.cool.bath ∧ (bathRead reading s).cool.bathFault = true
      ∧ (bathRead reading s).cool.freezeHold = s.cool.freezeHold
      ∧ (s.cool.bathFault = false → bathCause s.cool reading = some .bathFault) := by
  rw [bathRead, bathCause, invalid]
  exact ⟨rfl, rfl, rfl, fun fine => by simp only [fine]; rfl⟩

theorem bathRead_some {reading : Option Int} {s : State} {v : Int} (valid : validBath reading = some v) :
    (bathRead reading s).cool.bath = v ∧ (bathRead reading s).cool.bathFault = false
      ∧ (FreezeTrips s.cool v → (bathRead reading s).cool.freezeHold = true ∧ bathCause s.cool reading = some .freeze)
      ∧ (FreezeThaws s.cool v → (bathRead reading s).cool.freezeHold = false ∧ bathCause s.cool reading = some .freezeClear)
      ∧ (¬ FreezeTrips s.cool v → ¬ FreezeThaws s.cool v → (bathRead reading s).cool.freezeHold = s.cool.freezeHold
          ∧ bathCause s.cool reading = if s.cool.bathFault then some .bathRestored else none) := by
  rw [bathRead, bathCause, valid]
  simp only []
  by_cases trip : FreezeTrips s.cool v
  · rw [if_pos trip, if_pos trip]
    refine ⟨rfl, rfl, fun _ => ⟨rfl, rfl⟩, fun thaw => ?_, fun noTrip => absurd trip noTrip⟩
    exact absurd (trip.1.symm.trans thaw.1) (by decide)
  · rw [if_neg trip, if_neg trip]
    refine ⟨rfl, rfl, fun h => absurd h trip, fun thaw => ⟨held_of_thaws thaw, if_pos thaw⟩,
      fun _ noThaw => ⟨held_of_not_thaws noThaw, if_neg noThaw⟩⟩

end bath

end Sys2Proof.Machine
end

section
/-! ### The whole sample (O44) -/

namespace Sys2Proof.Machine

open Sys2Proof Sys2Proof.Safety

/-! #### What the sample reads as the manual says it -/

theorem validReturn_eq (x : Option Int) : validReturn x = x.bind fun v => if -100 ≤ v ∧ v ≤ 400 then some v else none := by
  cases x with
  | none => rfl
  | some v =>
    have out : ((v < -100 || 400 < v) = true) ↔ ¬ (-100 ≤ v ∧ v ≤ 400) := by
      simp only [Bool.or_eq_true, decide_eq_true_eq]
      omega
    simp only [validReturn, out, ite_not, Option.bind_some]

theorem validBath_eq (x : Option Int) : validBath x = x.bind fun v => if -200 ≤ v ∧ v ≤ 200 then some v else none := by
  cases x with
  | none => rfl
  | some v =>
    have out : ((v < -200 || 200 < v) = true) ↔ ¬ (-200 ≤ v ∧ v ≤ 200) := by
      simp only [Bool.or_eq_true, decide_eq_true_eq]
      omega
    simp only [validBath, out, ite_not, Option.bind_some]

theorem exists_some_iff {b : Option Int} {v : Int} (h : b = some v) {p : Int → Prop} : (∃ w, b = some w ∧ p w) ↔ p v := by
  subst h
  simp

section trunk

variable {t : Trunk} {x : Option Int} {v : Int}

theorem read_none (h : validReturn x = none) : t.read x = { t with sensorFault := true, alarmTimer := 0, releaseTimer := 0 } := by
  rw [Trunk.read, h]

/-- An ALARM ends at its threshold less 10 (R141). -/
theorem sampled_alarm (t : Trunk) (v : Int) : (t.sampled v).alarm = (t.alarm && decide (t.alarmThreshold - 10 < v)) := by
  show (if (t.alarm && decide (v ≤ t.alarmThreshold - 10)) = true then false else t.alarm) = _
  cases t.alarm
  · rfl
  · by_cases low : v ≤ t.alarmThreshold - 10
    · simp [low]
    · simp [low, Int.not_le.mp low]

theorem read_some (h : validReturn x = some v) : t.read x = { t with
    reading := v, sensorFault := false, alarm := t.alarm && decide (t.alarmThreshold - 10 < v)
    alarmTimer := if t.alarmThreshold < v then min 300 (t.alarmTimer + 1) else 0
    releaseTimer := if v ≤ t.setpoint then min 120 (t.releaseTimer + 1) else 0 } := by
  rw [Trunk.read, h, ← sampled_alarm]
  rfl

theorem read_allocation (t : Trunk) (x : Option Int) : (t.read x).allocation = t.allocation := by
  cases h : validReturn x with
  | none => rw [read_none h]
  | some v => rw [read_some h]

theorem readCause_none (h : validReturn x = none) : t.readCause x = if t.sensorFault then none else some .trunkSensorFault := by
  rw [Trunk.readCause, h]

theorem readCause_some (h : validReturn x = some v) : t.readCause x = if t.alarm = true ∧ v ≤ t.alarmThreshold - 10
    then some .trunkAlarmClear else if t.sensorFault then some .trunkSensorRestored else none := by
  have clears : ((t.alarm && !(t.sampled v).alarm) = true) ↔ t.alarm = true ∧ v ≤ t.alarmThreshold - 10 := by
    rw [sampled_alarm]
    cases t.alarm
    · simp
    · simp
  rw [Trunk.readCause, h]
  simp only [clears]

end trunk

/-! #### The second and the sensors -/

section sensors

variable (returns : Vector (Option Int) 12) (s : State)

/-- What the first sample after a start posts (R138). -/
def startFaultCause (c : Cooling) : Option NoticeCause := if c.startFaults.any id then some .stageFault else none

/-- A second has passed and the faults of the start are reported. -/
def secondPassed : State := postSome .chiller (startFaultCause s.cool)
  { coolingSecond s with cool := { (coolingSecond s).cool with startFaults := Vector.replicate 4 false } }

/-- The return sensors are sampled. -/
def sensorsRead : State := sampleTrunks (fun n => (returns[n]?).getD none) (List.range 12) (secondPassed s)

theorem coolingSecond_frame : coolingSecond s = { s with cool := { s.cool with
    stages := (coolingSecond s).cool.stages, controlTimer := (coolingSecond s).cool.controlTimer
    dutyTimer := (coolingSecond s).cool.dutyTimer } } := by
  unfold coolingSecond
  split <;> rfl

theorem coolingSecond_stage {i : Nat} (hi : i < 4) : (coolingSecond s).stage i = { s.stage i with
    time := if s.cool.controlTimer < 10 then min 65535 ((s.stage i).time + 1) else (s.stage i).time } := by
  have aged : (ageStages 1 s).stage i = { s.stage i with time := min 65535 ((s.stage i).time + 1) } := by
    simp [ageStages, State.stage, hi, satAdd, Config.maxStageTime]
  have stage : (coolingSecond s).stage i = (if s.cool.controlTimer < 10 then ageStages 1 s else s).stage i := rfl
  rw [stage]
  split
  · exact aged
  · rfl

theorem firstFaultReading_eq : firstFaultReading (coolingSecond s) = secondPassed s := by
  have faults : (coolingSecond s).cool.startFaults = s.cool.startFaults := by rw [coolingSecond_frame]
  unfold firstFaultReading secondPassed startFaultCause
  rw [faults]
  split <;> rfl

theorem sampleAll_eq (bath : Option Int) : sampleAll returns bath s
    = postSome .chiller (bathCause (sensorsRead returns s).cool bath) (bathRead bath (sensorsRead returns s)) := by
  rw [← sampleBath_eq, sensorsRead, ← firstFaultReading_eq]
  rfl

theorem sensorsRead_frame : sensorsRead returns s = { s with
    cool := { s.cool with
      trunks := (sensorsRead returns s).cool.trunks, stages := (coolingSecond s).cool.stages
      controlTimer := (coolingSecond s).cool.controlTimer, dutyTimer := (coolingSecond s).cool.dutyTimer
      startFaults := Vector.replicate 4 false }
    link := { s.link with notices := (sensorsRead returns s).link.notices } } := by
  have passed : secondPassed s = { s with
      cool := { s.cool with
        stages := (coolingSecond s).cool.stages, controlTimer := (coolingSecond s).cool.controlTimer
        dutyTimer := (coolingSecond s).cool.dutyTimer, startFaults := Vector.replicate 4 false }
      link := { s.link with notices := (secondPassed s).link.notices } } := by
    rw [secondPassed, postSome_frame, coolingSecond_frame]
  unfold sensorsRead
  rw [sampleTrunks_frame, passed]

theorem secondPassed_trunk (n : Nat) : (secondPassed s).trunk n = s.trunk n := by
  rw [secondPassed, State.trunk_congr (postSome_cool _ _ _), coolingSecond_frame]
  rfl

theorem sensorsRead_trunk (n : Fin 12) : (sensorsRead returns s).trunk n.val = (s.trunk n.val).read returns[n] := by
  have before := secondPassed_trunk s n.val
  obtain ⟨trunks, -⟩ := sampleTrunks_spec (fun n => (returns[n]?).getD none) List.nodup_range (secondPassed s)
  refine (trunks n.val n.isLt).trans ?_
  rw [if_pos (List.mem_range.mpr n.isLt), before]
  simp

theorem sensorsRead_stage {i : Nat} (hi : i < 4) : (sensorsRead returns s).stage i = { s.stage i with
    time := if s.cool.controlTimer < 10 then min 65535 ((s.stage i).time + 1) else (s.stage i).time } := by
  rw [← coolingSecond_stage s hi, sensorsRead_frame]
  rfl

/-- Only the report of the faults of the start is posted before the sensors are read. -/
theorem secondPassed_posted : Posted .chiller (startFaultCause s.cool) s (secondPassed s) ∧ NoticesOnly [.chiller] s (secondPassed s) := by
  have link : (coolingSecond s).link = s.link := by rw [coolingSecond_frame]
  exact ⟨postSome_posted link, postSome_only link⟩

theorem sensorsRead_posted (n : Fin 12) :
    Posted (.trunk n.val) ((s.trunk n.val).readCause returns[n]) s (sensorsRead returns s) := by
  obtain ⟨-, -, posted⟩ := sampleTrunks_spec (fun n => (returns[n]?).getD none) List.nodup_range (secondPassed s)
  have own := posted n.val (List.mem_range.mpr n.isLt)
  rw [secondPassed_trunk] at own
  have cause : (s.trunk n.val).readCause ((returns[n.val]?).getD none) = (s.trunk n.val).readCause returns[n] := by simp
  exact (cause ▸ own).after_only (secondPassed_posted s).2 (by simp)

theorem sensorsRead_chiller : Posted .chiller (startFaultCause s.cool) s (sensorsRead returns s) := by
  obtain ⟨-, only, -⟩ := sampleTrunks_spec (fun n => (returns[n]?).getD none) List.nodup_range (secondPassed s)
  exact (secondPassed_posted s).1.then_only only (by simp)

theorem sensorsRead_only : NoticesOnly (.chiller :: (List.range 12).map .trunk) s (sensorsRead returns s) := by
  obtain ⟨-, only, -⟩ := sampleTrunks_spec (fun n => (returns[n]?).getD none) List.nodup_range (secondPassed s)
  exact noticesOnly_trans (noticesOnly_mono (secondPassed_posted s).2 (by simp))
    (noticesOnly_mono only (List.subset_cons_self _ _))

end sensors

/-! #### The sample put together -/

section sample

variable (returns : Vector (Option Int) 12) (bath : Option Int) (s : State)

theorem sensorSample_run (takes : s.takesEvents = true) :
    exec (.sensorSample returns bath) s = .next (transmit (sampleAll returns bath s)) := congrArg _ (event_of_takes takes)

theorem bathCause_sensorsRead : bathCause (sensorsRead returns s).cool bath = bathCause s.cool bath := by
  rw [sensorsRead_frame]
  rfl

theorem bathTrips_sensorsRead : BathTrips bath (sensorsRead returns s) ↔ BathTrips bath s := by
  rw [sensorsRead_frame]
  exact Iff.rfl

theorem sampleAll_cool : (sampleAll returns bath s).cool = (bathRead bath (sensorsRead returns s)).cool := by
  rw [sampleAll_eq, postSome_cool]

theorem bathRead_link (u : State) : (bathRead bath u).link = u.link := by rw [bathRead_frame]

theorem sampleAll_posted :
    (∀ n : Fin 12, Posted (.trunk n.val) ((s.trunk n.val).readCause returns[n]) s (sampleAll returns bath s))
      ∧ Posted .chiller ((bathCause s.cool bath).or (startFaultCause s.cool)) s (sampleAll returns bath s)
      ∧ NoticesOnly (.chiller :: (List.range 12).map .trunk) s (sampleAll returns bath s) := by
  have link := bathRead_link bath (sensorsRead returns s)
  have only : NoticesOnly [.chiller] (sensorsRead returns s) (sampleAll returns bath s) := by
    rw [sampleAll_eq]
    exact postSome_only link
  have posted : Posted .chiller (bathCause s.cool bath) (sensorsRead returns s) (sampleAll returns bath s) := by
    rw [sampleAll_eq, bathCause_sensorsRead]
    exact postSome_posted link
  exact ⟨fun n => (sensorsRead_posted returns s n).then_only only (by simp), (sensorsRead_chiller returns s).trans posted,
    noticesOnly_trans (sensorsRead_only returns s) (noticesOnly_mono only (by simp))⟩

theorem sampleAll_trunk (n : Fin 12) : let t := sampleAll returns bath s
    t.trunk n.val = { (s.trunk n.val).read returns[n] with allocation := (t.trunk n.val).allocation }
      ∧ (BathTrips bath s → (t.trunk n.val).allocation = 0)
      ∧ (¬ BathTrips bath s → (t.trunk n.val).allocation = (s.trunk n.val).allocation) := by
  have taken := bathRead_trunk bath (sensorsRead returns s) n.isLt
  rw [sensorsRead_trunk, bathTrips_sensorsRead, read_allocation] at taken
  intro t
  have trunk : t.trunk n.val = _ := State.trunk_congr (sampleAll_cool returns bath s) n.val
  rw [trunk]
  exact taken

theorem sampleAll_stage {i : Nat} (hi : i < 4) : let t := sampleAll returns bath s
    (BathTrips bath s → (s.stage i).running = true → t.stage i = { running := false, time := 0 })
      ∧ (BathTrips bath s → (t.stage i).running = false)
      ∧ (¬ (BathTrips bath s ∧ (s.stage i).running = true) → t.stage i = { s.stage i with
          time := if s.cool.controlTimer < 10 then min 65535 ((s.stage i).time + 1) else (s.stage i).time }) := by
  have taken := bathRead_stage bath (sensorsRead returns s) i
  rw [sensorsRead_stage returns s hi, bathTrips_sensorsRead] at taken
  intro t
  have stage : t.stage i = _ := State.stage_congr (sampleAll_cool returns bath s) i
  rw [stage]
  exact taken

/-- A sample changes trunks, stages, the bath's figures and the timers; the faults of the start are reported once (R138). -/
theorem sampleAll_frame : let t := sampleAll returns bath s
    t = { s with
      cool := { s.cool with
        trunks := t.cool.trunks, stages := t.cool.stages, bath := t.cool.bath, bathFault := t.cool.bathFault
        freezeHold := t.cool.freezeHold, controlTimer := t.cool.controlTimer, dutyTimer := t.cool.dutyTimer
        startFaults := Vector.replicate 4 false }
      link := { s.link with notices := t.link.notices } } := by
  intro t
  have made : t = postSome .chiller (bathCause (sensorsRead returns s).cool bath) (bathRead bath (sensorsRead returns s)) :=
    sampleAll_eq returns s bath
  rw [made, postSome_frame, bathRead_frame, sensorsRead_frame]

/-- The settings and the figures of the last period stay. -/
theorem sampleAll_kept : let t := sampleAll returns bath s
    t.cool.count = s.cool.count ∧ t.cool.points = s.cool.points ∧ t.cool.target = s.cool.target ∧ t.cool.surges = s.cool.surges
      ∧ t.cool.capacity = s.cool.capacity ∧ ∀ i : Fin 4, t.cool.startFaults[i] = false := by
  intro t
  have cool : t.cool = _ := congrArg State.cool (sampleAll_frame returns bath s)
  rw [cool]
  exact ⟨rfl, rfl, rfl, rfl, rfl, fun i => by simp⟩

section figures

variable {returns bath s}

theorem sensorsRead_bath : (sensorsRead returns s).cool.bath = s.cool.bath
    ∧ (sensorsRead returns s).cool.bathFault = s.cool.bathFault ∧ (sensorsRead returns s).cool.freezeHold = s.cool.freezeHold := by
  rw [sensorsRead_frame]
  exact ⟨rfl, rfl, rfl⟩

theorem sampleAll_none (invalid : validBath bath = none) : let t := sampleAll returns bath s
    t.cool.bath = s.cool.bath ∧ t.cool.bathFault = true ∧ t.cool.freezeHold = s.cool.freezeHold
      ∧ (s.cool.bathFault = false → bathCause s.cool bath = some .bathFault) := by
  have read := bathRead_none (s := sensorsRead returns s) invalid
  obtain ⟨value, fault, hold⟩ := sensorsRead_bath (returns := returns) (s := s)
  rwa [← sampleAll_cool, bathCause_sensorsRead, value, fault, hold] at read

theorem sampleAll_some {v : Int} (valid : validBath bath = some v) : let t := sampleAll returns bath s
    t.cool.bath = v ∧ t.cool.bathFault = false
      ∧ (FreezeTrips s.cool v → t.cool.freezeHold = true ∧ bathCause s.cool bath = some .freeze)
      ∧ (FreezeThaws s.cool v → t.cool.freezeHold = false ∧ bathCause s.cool bath = some .freezeClear)
      ∧ (¬ FreezeTrips s.cool v → ¬ FreezeThaws s.cool v → t.cool.freezeHold = s.cool.freezeHold
          ∧ bathCause s.cool bath = if s.cool.bathFault then some .bathRestored else none) := by
  have read := bathRead_some (s := sensorsRead returns s) valid
  obtain ⟨-, fault, hold⟩ := sensorsRead_bath (returns := returns) (s := s)
  simp only [FreezeTrips, FreezeThaws, ← sampleAll_cool, bathCause_sensorsRead, fault, hold] at read
  exact read

/-- The trunk's notice by the changes that name its causes (R128, R141). -/
theorem sampleAll_trunk_none {n : Fin 12} (invalid : validReturn returns[n] = none) : let t := sampleAll returns bath s
    ((s.trunk n.val).sensorFault = false → { key := .trunk n.val, cause := .trunkSensorFault } ∈ t.link.notices)
      ∧ ((s.trunk n.val).sensorFault = true →
          ∀ x : Notice, x.key = .trunk n.val → (x ∈ t.link.notices ↔ x ∈ s.link.notices)) := by
  obtain ⟨told, quiet⟩ := (sampleAll_posted returns bath s).1 n
  rw [readCause_none invalid] at told quiet
  exact ⟨fun fine => told _ (by rw [fine]; rfl), fun faulted => quiet (by rw [faulted]; rfl)⟩

theorem sampleAll_trunk_some {n : Fin 12} {v : Int} (valid : validReturn returns[n] = some v) : let t := sampleAll returns bath s
    let r := s.trunk n.val
    let clears := r.alarm = true ∧ v ≤ r.alarmThreshold - 10
    (clears → { key := .trunk n.val, cause := .trunkAlarmClear } ∈ t.link.notices)
      ∧ (¬ clears → r.sensorFault = true → { key := .trunk n.val, cause := .trunkSensorRestored } ∈ t.link.notices)
      ∧ (¬ clears → r.sensorFault = false →
          ∀ x : Notice, x.key = .trunk n.val → (x ∈ t.link.notices ↔ x ∈ s.link.notices)) := by
  obtain ⟨told, quiet⟩ := (sampleAll_posted returns bath s).1 n
  rw [readCause_some valid] at told quiet
  exact ⟨fun clears => told _ (if_pos clears), fun stays faulted => told _ (by rw [if_neg stays, faulted]; rfl),
    fun stays fine => quiet (by rw [if_neg stays, fine]; rfl)⟩

/-- Where the bath changes nothing, the chiller's notice is the report of the faults of the start. -/
theorem sampleAll_chiller (calm : bathCause s.cool bath = none) : let t := sampleAll returns bath s
    ((∃ i : Fin 4, s.cool.startFaults[i] = true) → { key := .chiller, cause := .stageFault } ∈ t.link.notices)
      ∧ ((∀ i : Fin 4, s.cool.startFaults[i] = false) → ∀ x : Notice, x.key = .chiller → (x ∈ t.link.notices ↔ x ∈ s.link.notices)) := by
  obtain ⟨-, ⟨told, quiet⟩, -⟩ := sampleAll_posted returns bath s
  rw [calm, Option.none_or] at told quiet
  have any : s.cool.startFaults.any id = true ↔ ∃ i : Fin 4, s.cool.startFaults[i] = true := by
    rw [Vector.any_eq_true]
    exact ⟨fun ⟨i, hi, on⟩ => ⟨⟨i, hi⟩, on⟩, fun ⟨i, on⟩ => ⟨i.val, i.isLt, on⟩⟩
  refine ⟨fun faulted => told _ (if_pos (any.mpr faulted)), fun none => quiet (if_neg fun faulted => ?_)⟩
  obtain ⟨i, on⟩ := any.mp faulted
  exact absurd (on.symm.trans (none i)) (by decide)

end figures

end sample

/-- Settles O44: the sensors in turn, each by its own sample, and then the bath by its reading and the freeze guard. -/
theorem sensorSample : Obligations.SensorSample := by
  intro returns bath s takes valid b trips thaws
  have isBath : validBath bath = b := validBath_eq bath
  have isReturn : ∀ n : Fin 12, validReturn returns[n] = valid (-100) 400 returns[n] := fun n => validReturn_eq _
  have guard : BathTrips bath s ↔ trips := by
    rw [BathTrips, isBath]
  obtain ⟨-, ⟨told, -⟩, only⟩ := sampleAll_posted returns bath s
  have bathTold : ∀ c, bathCause s.cool bath = some c → { key := .chiller, cause := c } ∈ (sampleAll returns bath s).link.notices :=
    fun c hc => told c (by rw [hc]; rfl)
  obtain ⟨count, points, target, surges, capacity, faults⟩ := sampleAll_kept returns bath s
  have trip_iff : ∀ v, b = some v → (trips ↔ FreezeTrips s.cool v) := fun v isV => and_congr_right fun _ => exists_some_iff isV
  have thaw_iff : ∀ v, b = some v → (thaws ↔ FreezeThaws s.cool v) := fun v isV => and_congr_right fun _ => exists_some_iff isV
  refine ⟨sampleAll returns bath s, sensorSample_run returns bath s takes, fun n => ?_, fun i hi => ?_, fun invalid => ?_,
    fun v isV => ?_, only, count, points, target, surges, capacity, faults, fun same noTrip noThaw => sampleAll_chiller ?_, ?_⟩
  · obtain ⟨trunk, emptied, kept⟩ := sampleAll_trunk returns bath s n
    rw [guard] at emptied kept
    refine ⟨fun invalid => ?_, fun v isV => ?_, emptied, kept⟩
    · rw [← isReturn] at invalid
      rw [read_none invalid] at trunk
      exact ⟨trunk, sampleAll_trunk_none invalid⟩
    · rw [← isReturn] at isV
      rw [read_some isV] at trunk
      exact ⟨trunk, sampleAll_trunk_some isV⟩
  · obtain ⟨stopped, off, kept⟩ := sampleAll_stage returns bath s hi
    rw [guard] at stopped off kept
    refine ⟨stopped, fun trip => ?_, kept⟩
    rw [stageOutput, off trip, Bool.and_false]
  · obtain ⟨value, fault, hold, cause⟩ := sampleAll_none (returns := returns) (s := s) (isBath.trans invalid)
    exact ⟨value, fault, hold, fun fine => bathTold _ (cause fine)⟩
  · obtain ⟨value, fault, tripped, thawed, calm⟩ := sampleAll_some (returns := returns) (s := s) (isBath.trans isV)
    rw [← trip_iff v isV] at tripped calm
    rw [← thaw_iff v isV] at thawed calm
    refine ⟨value, fault, fun trip => ?_, fun thaw => ?_, fun noTrip noThaw => ?_⟩
    · obtain ⟨hold, cause⟩ := tripped trip
      exact ⟨hold, bathTold _ cause⟩
    · obtain ⟨hold, cause⟩ := thawed thaw
      exact ⟨hold, bathTold _ cause⟩
    · obtain ⟨hold, cause⟩ := calm noTrip noThaw
      exact ⟨hold, fun faulted => bathTold _ (cause.trans (if_pos faulted))⟩
  · cases isV : b with
    | none =>
      have faulted : s.cool.bathFault = true := by simpa [isV] using same
      rw [bathCause, isBath.trans isV]
      exact if_pos faulted
    | some v =>
      have fine : s.cool.bathFault = false := by simpa [isV] using same
      obtain ⟨-, -, -, -, calm⟩ := sampleAll_some (returns := returns) (s := s) (isBath.trans isV)
      rw [← trip_iff v isV, ← thaw_iff v isV] at calm
      exact (calm noTrip noThaw).2.trans (by rw [fine]; rfl)
  · have cool := congrArg State.cool (sampleAll_frame returns bath s)
    rw [cool]
    exact sampleAll_frame returns bath s

end Sys2Proof.Machine
end

section
/-! ### The program table (O45) -/

namespace Sys2Proof.Machine

open Sys2Proof Sys2Proof.Safety

/-! #### The steps a PROGRAM LOAD carries (R149, section 8.2) -/

section steps

variable {e : StepEntry} {es : List StepEntry} {threshold : Nat}

/-- The entry names a kind of step, and its figures are in the ranges of that kind (R149). -/
def StepFits (e : StepEntry) : Prop :=
  (e.kind ≤ 2 ∧ 1000 ≤ e.amount ∧ e.amount ≤ 1000000)
    ∨ ((e.kind = 3 ∨ e.kind = 4) ∧ 1 ≤ e.amount ∧ e.amount ≤ 3600)
    ∨ (e.kind = 5 ∧ e.amount = 0 ∧ e.limit = 0)
    ∨ (e.kind = 6 ∧ 1000 ≤ e.amount ∧ e.amount ≤ 200000 ∧ 1000 ≤ e.limit ∧ e.limit ≤ 2000000 ∧ e.amount < e.limit)

/-- The kinds of step in the order of the table of section 8.2. -/
def stepKinds : List StepKind := [.purge, .rinse, .fill, .soak, .circulate, .pause, .verify]

/-- The step a fitting entry is stored as (assumption 16). -/
def storedStep (e : StepEntry) : Step :=
  { kind := (stepKinds[e.kind]?).getD .pause, amount := e.amount, limit := if e.kind = 6 then e.limit else 0, notify := e.notify }

theorem stepKindOf_eq (k : Nat) : stepKindOf k = stepKinds[k]? := by
  rcases k with _ | _ | _ | _ | _ | _ | _ | k <;> rfl

theorem storedKind_eq_iff (k : Nat) :
    ((stepKinds[k]?).getD .pause = .fill ↔ k = 2) ∧ ((stepKinds[k]?).getD .pause = .verify ↔ k = 6) := by
  rcases k with _ | _ | _ | _ | _ | _ | _ | k <;> simp [stepKinds]

theorem stepFits_iff (e : StepEntry) :
    StepFits e ↔ ∃ k, stepKindOf e.kind = some k ∧ amountsOk k e.amount e.limit = true := by
  obtain ⟨kind, amount, limit, notify⟩ := e
  rcases kind with _ | _ | _ | _ | _ | _ | _ | k <;> simp [StepFits, stepKindOf, amountsOk, and_assoc]

theorem stepOf_eq_some_iff (st : Step) : stepOf e = some st ↔ StepFits e ∧ storedStep e = st := by
  have verify := (storedKind_eq_iff e.kind).2
  rw [stepFits_iff]
  unfold stepOf storedStep
  rw [stepKindOf_eq]
  cases hk : stepKinds[e.kind]? with
  | none => simp
  | some k =>
    rw [hk, Option.getD_some] at verify
    by_cases ok : amountsOk k e.amount e.limit = true
    · simp [ok, verify]
    · simp [ok]

theorem stepsOf_eq_some_iff (sts : List Step) :
    stepsOf es = some sts ↔ (∀ e ∈ es, StepFits e) ∧ es.map storedStep = sts := by
  induction es generalizing sts with
  | nil => simp [stepsOf]
  | cons e rest ih =>
    have joined : stepsOf (e :: rest) = some sts ↔ ∃ st tail, stepOf e = some st ∧ stepsOf rest = some tail ∧ st :: tail = sts := by
      rw [stepsOf]
      cases stepOf e <;> cases stepsOf rest <;> simp
    rw [joined]
    simp only [stepOf_eq_some_iff, ih, List.forall_mem_cons, List.map_cons]
    constructor
    · rintro ⟨_, _, ⟨fits, rfl⟩, ⟨rests, rfl⟩, rfl⟩
      exact ⟨⟨fits, rests⟩, rfl⟩
    · rintro ⟨⟨fits, rests⟩, rfl⟩
      exact ⟨_, _, ⟨fits, rfl⟩, ⟨rests, rfl⟩, rfl⟩

/-- Every FILL has a VERIFY at a later place (R149). -/
theorem fillsVerified_iff (sts : List Step) : fillsVerified sts = true ↔
    ∀ (i : Nat) (st : Step), sts[i]? = some st → st.kind = .fill → ∃ j x, i < j ∧ sts[j]? = some x ∧ x.kind = .verify := by
  induction sts with
  | nil => simp [fillsVerified]
  | cons first rest ih =>
    have later : (rest.any fun x => x.kind = .verify) = true ↔
        ∃ (j : Nat) (x : Step), 0 < j ∧ (first :: rest)[j]? = some x ∧ x.kind = .verify := by
      simp only [List.any_eq_true, decide_eq_true_eq, List.mem_iff_getElem?]
      constructor
      · rintro ⟨x, ⟨j, hj⟩, hx⟩
        exact ⟨j + 1, x, Nat.succ_pos j, hj, hx⟩
      · rintro ⟨_ | j, x, hj, hx, hk⟩
        · exact absurd hj (Nat.lt_irrefl 0)
        · exact ⟨x, ⟨j, hx⟩, hk⟩
    have headed : fillsVerified (first :: rest) = true ↔
        (first.kind = .fill → (rest.any fun x => x.kind = .verify) = true) ∧ fillsVerified rest = true := by
      simp [fillsVerified, imp_iff_not_or]
    rw [headed, later, ih]
    constructor
    · rintro ⟨here, there⟩ (_ | i) st hi hk
      · obtain rfl : first = st := by simpa using hi
        exact here hk
      · obtain ⟨j, x, hj, hx, hv⟩ := there i st hi hk
        exact ⟨j + 1, x, Nat.succ_lt_succ hj, hx, hv⟩
    · refine fun all => ⟨all 0 first rfl, fun i st hi hk => ?_⟩
      obtain ⟨_ | j, x, hj, hx, hv⟩ := all (i + 1) st hi hk
      · exact absurd hj (Nat.not_lt_zero _)
      · exact ⟨j, x, Nat.lt_of_succ_lt_succ hj, hx, hv⟩

/-- Every FILL among the entries is followed by a VERIFY (R149). -/
def EntriesVerified (es : List StepEntry) : Prop :=
  ∀ (i : Nat) (e : StepEntry), es[i]? = some e → e.kind = 2 → ∃ (j : Nat) (f : StepEntry), i < j ∧ es[j]? = some f ∧ f.kind = 6

theorem fillsVerified_stored : fillsVerified (es.map storedStep) = true ↔ EntriesVerified es := by
  have fill : ∀ e, (storedStep e).kind = .fill ↔ e.kind = 2 := fun e => (storedKind_eq_iff e.kind).1
  have verify : ∀ e, (storedStep e).kind = .verify ↔ e.kind = 6 := fun e => (storedKind_eq_iff e.kind).2
  rw [fillsVerified_iff, EntriesVerified]
  simp only [List.getElem?_map, Option.map_eq_some_iff]
  constructor
  · intro all i e hi hk
    obtain ⟨j, _, hj, ⟨f, hf, rfl⟩, hv⟩ := all i _ ⟨e, hi, rfl⟩ ((fill e).mpr hk)
    exact ⟨j, f, hj, hf, (verify f).mp hv⟩
  · rintro all i _ ⟨e, hi, rfl⟩ hk
    obtain ⟨j, f, hj, hf, hv⟩ := all i e hi ((fill e).mp hk)
    exact ⟨j, _, hj, ⟨f, hf, rfl⟩, (verify f).mpr hv⟩

/-- Checks 2 and 3 of PROGRAM LOAD pass (R149). -/
def ProgramFits (threshold : Nat) (es : List StepEntry) : Prop :=
  es ≠ [] ∧ es.length ≤ 16 ∧ 10 ≤ threshold ∧ threshold ≤ 5000 ∧ (∀ e ∈ es, StepFits e) ∧ EntriesVerified es

theorem programOf_eq_some_iff (g : Program) : programOf threshold es = some g ↔
    ProgramFits threshold es ∧ { threshold := threshold, steps := es.map storedStep } = g := by
  unfold programOf ProgramFits
  cases hs : stepsOf es with
  | none =>
    have unfit : ¬ ∀ e ∈ es, StepFits e := fun fits => by
      rw [(stepsOf_eq_some_iff _).mpr ⟨fits, rfl⟩] at hs
      exact absurd hs (by simp)
    simp [unfit]
  | some sts =>
    obtain ⟨fits, rfl⟩ := (stepsOf_eq_some_iff sts).mp hs
    rw [← fillsVerified_stored]
    simp only [Option.ite_none_left_eq_some, Option.some.injEq, Bool.or_eq_true, List.isEmpty_iff, List.map_eq_nil_iff, decide_eq_true_eq,
      List.length_map, Bool.not_eq_true', not_or, Nat.not_lt, Bool.not_eq_false, and_assoc, ne_eq]
    tauto

theorem programOf_of_unfit (h : ¬ ProgramFits threshold es) : programOf threshold es = none :=
  Option.eq_none_iff_forall_ne_some.mpr fun g hg => h ((programOf_eq_some_iff g).mp hg).1

end steps

/-! #### The use of a slot (R149) -/

/-- A batch runs the program of slot `p`, or an entry of the queue names it (R149). -/
def ProgramUsed (p : Nat) (s : State) : Prop :=
  (∃ c, (s.circuit c).state ≠ .idle ∧ (s.circuit c).program = some p) ∨ ∃ e ∈ s.clean.queue, e.program = p

theorem programInUse_iff (s : State) (p : Nat) : programInUse s p = true ↔ ProgramUsed p s := by
  have circuits : (∃ c, (s.circuit c).state ≠ .idle ∧ (s.circuit c).program = some p)
      ↔ ((s.circuit .a).state ≠ .idle ∧ (s.circuit .a).program = some p)
        ∨ ((s.circuit .b).state ≠ .idle ∧ (s.circuit .b).program = some p) := by
    refine ⟨fun ⟨c, h⟩ => ?_, fun h => h.elim (fun h => ⟨.a, h⟩) fun h => ⟨.b, h⟩⟩
    cases c with
    | a => exact .inl h
    | b => exact .inr h
  rw [ProgramUsed, circuits]
  simp [programInUse]

/-! #### PROGRAM LOAD and PROGRAM READ (R149, R150) -/

section load

variable {p threshold : Nat} {es : List StepEntry} {s : State}

theorem decideProgramLoad_unfit (hp : p ≤ 7) (h : ¬ ProgramFits threshold es) :
    decideProgramLoad p threshold es s = refuse .invalidProgram s := by
  rw [decideProgramLoad, if_neg (Nat.not_lt.mpr hp), programOf_of_unfit h]

theorem decideProgramLoad_fits (hp : p ≤ 7) (h : ProgramFits threshold es) :
    let stored : Program := { threshold := threshold, steps := es.map storedStep }
    (ProgramUsed p s → decideProgramLoad p threshold es s = refuse .state s)
      ∧ (¬ ProgramUsed p s → decideProgramLoad p threshold es s = acceptWith (.program (some stored))
          { s with clean := { s.clean with programs := s.clean.programs.setIfInBounds p (some stored) } }) := by
  rw [decideProgramLoad, if_neg (Nat.not_lt.mpr hp), (programOf_eq_some_iff _).mpr ⟨h, rfl⟩, ← programInUse_iff]
  exact ⟨fun used => if_pos used, fun free => if_neg free⟩

end load

/-- Settles O45: the checks of R149 in their order, and the read of R150. -/
theorem programTable : Obligations.ProgramTable := by
  intro tag p threshold es s h
  refine ⟨fun hp => ⟨exec_refused h rfl (if_pos hp), exec_refused h rfl (if_pos hp)⟩, fun hp bad => ?_, fun hp good used => ?_,
    fun hp good free => ?_, fun hp => ?_⟩
  · exact exec_refused h rfl (decideProgramLoad_unfit hp bad)
  · exact exec_refused h rfl ((decideProgramLoad_fits (s := hunting s) hp good).1 used)
  · exact exec_accepted h rfl ((decideProgramLoad_fits (s := hunting s) hp good).2 free) rfl
  · exact exec_accepted h rfl (if_neg (Nat.not_lt.mpr hp)) rfl

end Sys2Proof.Machine
end

section
/-! ### The requests to a circuit (O47) -/

namespace Sys2Proof.Machine

open Sys2Proof Sys2Proof.Safety

theorem setCircuit_setCircuit (s : State) (c : Circuit) (q r : CircuitRec) : (s.setCircuit c q).setCircuit c r = s.setCircuit c r := by
  cases c <;> rfl

theorem circuitOf_of_gt {code : Nat} (h : 1 < code) : circuitOf code = none := by
  obtain ⟨k, rfl⟩ := Nat.exists_eq_add_of_le' h
  rfl

theorem circuitOf_of_le {code : Nat} (h : code ≤ 1) : circuitOf code = some (if code = 0 then .a else .b) := by
  obtain rfl | rfl := Nat.le_one_iff_eq_zero_or_eq_one.mp h <;> rfl

section decisions

variable {code : Nat} {c : Circuit} {s : State}

/-- A code that names no circuit is refused with RANGE (R175). -/
theorem decideCircuit_range (h : 1 < code) : decideCleanStop code s = refuse .range s ∧ decideCleanContinue code s = refuse .range s
    ∧ decideCleanAbort code s = refuse .range s ∧ decideCircuitGet code s = refuse .range s := by
  unfold decideCleanStop decideCleanContinue decideCleanAbort decideCircuitGet
  rw [circuitOf_of_gt h]
  exact ⟨rfl, rfl, rfl, rfl⟩

theorem decideCleanStop_eq (hc : circuitOf code = some c) : decideCleanStop code s
    = if (s.circuit c).state ≠ .running then refuse .state s
      else acceptWith (.circuitState .stopping) (s.setCircuit c { s.circuit c with state := .stopping }) := by
  unfold decideCleanStop
  rw [hc]
  rfl

theorem decideCleanContinue_eq (hc : circuitOf code = some c) : decideCleanContinue code s
    = if (s.circuit c).state ≠ .paused then refuse .state s
      else acceptWith (.circuitState ((resumeCircuit c s).circuit c).state) (resumeCircuit c s) := by
  unfold decideCleanContinue
  rw [hc]

theorem decideCleanAbort_eq (hc : circuitOf code = some c) : decideCleanAbort code s
    = if (s.circuit c).state = .idle then refuse .state s else acceptWith .none (finishBatch c .aborted s) := by
  unfold decideCleanAbort
  rw [hc]
  rfl

theorem decideCircuitGet_eq (hc : circuitOf code = some c) : decideCircuitGet code s = acceptWith (.circuit (circuitView s c)) s := by
  unfold decideCircuitGet
  rw [hc]

/-- A circuit that stopped behind a step begins the step after it (R165). -/
theorem resumeCircuit_stopped (h : (s.circuit c).pauseCause = some .stop) : resumeCircuit c s = startStep c (s.setCircuit c
    { s.circuit c with state := .running, pauseCause := none, stepIndex := (s.circuit c).stepIndex.map (· + 1) }) := by
  unfold resumeCircuit
  rw [h]
  simp only [nextStep, State.modCircuit_eq, State.circuit_setCircuit_self, setCircuit_setCircuit]

/-- A circuit in its PAUSE step completes it (R165). -/
theorem resumeCircuit_pauseStep {st : Step} (h : (s.circuit c).pauseCause = some .pauseStep) (at_step : currentStep s c = some st) :
    resumeCircuit c s = completeStep c st (s.setCircuit c { s.circuit c with state := .running, pauseCause := none }) := by
  unfold resumeCircuit
  rw [h, at_step]
  rfl

end decisions

/-- Settles O47: the code first, then the state each request asks for. -/
theorem circuitRequests : Obligations.CircuitRequests := by
  intro tag code s ready
  refine ⟨fun range => ?_, fun named => ?_⟩
  · obtain ⟨stop, cont, abort, get⟩ := decideCircuit_range (s := hunting s) range
    exact ⟨exec_refused ready rfl stop, exec_refused ready rfl cont, exec_refused ready rfl abort, exec_refused ready rfl get⟩
  · have isCircuit := circuitOf_of_le named
    generalize (if code = 0 then Circuit.a else .b) = c at isCircuit ⊢
    have stop := decideCleanStop_eq (s := hunting s) isCircuit
    have cont := decideCleanContinue_eq (s := hunting s) isCircuit
    have abort := decideCleanAbort_eq (s := hunting s) isCircuit
    have plant := window_cleaningClosed s
    have resumes : ∀ t, (s.circuit c).state = .paused → resumeCircuit c (hunting s) = t → t.acct.window = s.acct.window →
        exec (.cleanContinue tag code) s = .next (replied .cleanContinue tag .ok (.circuitState (t.circuit c).state) t) := by
      rintro t paused rfl window
      exact exec_accepted ready rfl (cont.trans (if_neg (not_not_intro paused))) window
    refine ⟨fun running => ?_, fun other => ?_, fun other => ?_, fun paused stopped => ?_, fun st paused waits at_step => ?_,
      fun idle => ?_, fun busy => ?_, ?_⟩
    · exact exec_accepted ready rfl (stop.trans (if_neg (not_not_intro running))) rfl
    · exact exec_refused ready rfl (stop.trans (if_pos other))
    · exact exec_refused ready rfl (cont.trans (if_pos other))
    · exact resumes _ paused (resumeCircuit_stopped (s := hunting s) stopped) (startStep_closed plant c _ rfl)
    · exact resumes _ paused (resumeCircuit_pauseStep (s := hunting s) waits at_step) (completeStep_closed plant c st _ rfl)
    · exact exec_refused ready rfl (abort.trans (if_pos idle))
    · exact exec_accepted ready rfl (abort.trans (if_neg busy)) (finishBatch_closed plant c .aborted _ rfl)
    · exact exec_accepted ready rfl (decideCircuitGet_eq (s := hunting s) isCircuit) rfl

end Sys2Proof.Machine
end

section
/-! ### The outputs and the events of a circuit (O50) -/

namespace Sys2Proof.Machine

open Sys2Proof Sys2Proof.Safety

/-! #### The kinds of step (R147, R160) -/

theorem StepKind.pumps_iff (k : StepKind) : k.pumps = true ↔ k ≠ .soak ∧ k ≠ .pause := by cases k <;> simp [StepKind.pumps]

theorem StepKind.drawsWater_iff (k : StepKind) : k.drawsWater = true ↔ k = .purge ∨ k = .rinse ∨ k = .verify := by
  cases k <;> simp [StepKind.drawsWater]

theorem StepKind.timed_iff (k : StepKind) : k.timed = true ↔ k = .soak ∨ k = .circulate := by cases k <;> simp [StepKind.timed]

theorem StepKind.recirculates_iff (k : StepKind) : k.recirculates = true ↔ k = .circulate ∨ k = .soak ∨ k = .pause := by
  cases k <;> simp [StepKind.recirculates]

section circuit

variable {c : Circuit} {s : State} {st : Step}

/-! #### The step a circuit runs (R147) -/

/-- The circuit runs its step: it is RUNNING or STOPPING. -/
abbrev Runs (c : Circuit) (s : State) : Prop := (s.circuit c).state = .running ∨ (s.circuit c).state = .stopping

theorem runs_iff (c : Circuit) (s : State) : (s.circuit c).runs = true ↔ Runs c s := by simp [CircuitRec.runs]

theorem runningStep_of_runs (h : Runs c s) : runningStep s c = currentStep s c := if_pos ((runs_iff c s).mpr h)

theorem runningStep_of_rests (h : ¬ Runs c s) : runningStep s c = none := if_neg fun hr => h ((runs_iff c s).mp hr)

theorem runningStep_eq_some_iff : runningStep s c = some st ↔ Runs c s ∧ currentStep s c = some st := by
  by_cases h : Runs c s
  · simp [runningStep_of_runs h, h]
  · simp [runningStep_of_rests h, h]

/-! #### The outputs (R147) -/

theorem circuitOutputs_of_takes (c : Circuit) (takes : s.takesEvents = true) : circuitOutputs s c =
    { pump := pumpOn s c, water := waterOpen s c, solution := solutionOpen s c, recirculate := recirculating s c
      cleanValves := Vector.ofFn fun i => cleanValve s c i.val } := by
  simp only [circuitOutputs, takes, Bool.true_and]

/-- A circuit that runs no step has pump and supplies off. -/
theorem outputs_of_rests (h : ¬ Runs c s) : pumpOn s c = false ∧ waterOpen s c = false ∧ solutionOpen s c = false
    ∧ recirculating s c = decide ((s.circuit c).state = .paused) := by
  unfold pumpOn waterOpen solutionOpen recirculating
  rw [runningStep_of_rests h]
  exact ⟨rfl, rfl, rfl, Bool.or_false _⟩

/-- A circuit that runs a step has the outputs its kind calls for. -/
theorem outputs_of_step (run : Runs c s) (at_step : currentStep s c = some st) :
    pumpOn s c = st.kind.pumps ∧ waterOpen s c = st.kind.drawsWater ∧ solutionOpen s c = decide (st.kind = .fill)
      ∧ recirculating s c = st.kind.recirculates := by
  have unpaused : (s.circuit c).state ≠ .paused := by
    rcases run with h | h <;> simp [h]
  unfold pumpOn waterOpen solutionOpen recirculating
  rw [runningStep_of_runs run, at_step, decide_eq_false unpaused]
  exact ⟨rfl, rfl, rfl, Bool.false_or _⟩

theorem cleanValve_iff (s : State) (c : Circuit) (n : Nat) :
    cleanValve s c n = true ↔ (s.circuit c).state ≠ .idle ∧ n ∈ (s.circuit c).batch := by simp [cleanValve]

/-- The clean valves of a line are not open to both circuits (R147). -/
theorem cleanValve_once (law : BatchLaw s) (n : Nat) : cleanValve s .a n = false ∨ cleanValve s .b n = false := by
  obtain ⟨-, apart, -⟩ := law
  by_cases h : cleanValve s .a n = true
  · refine .inr (Bool.eq_false_iff.mpr fun hb => ?_)
    exact (apart n ((cleanValve_iff s .a n).mp h).2).2 ((cleanValve_iff s .b n).mp hb).2
  · exact .inl (Bool.eq_false_iff.mpr h)

/-! #### A pulse of the meter (R159, R161) -/

/-- The circuit after a counted pulse of a volume step (R159, R161). -/
def pulseCounted (c : Circuit) (st : Step) (s : State) : State :=
  let r := s.circuit c
  let v := ((r.pulses + 1 + r.offset) * r.gain + 500) / 1000
  let d := v - r.progress
  s.setCircuit c { r with
    pulses := r.pulses + 1, progress := v, flowTimer := 0
    settle := if st.kind = .verify ∧ r.settling = true then r.settle + d else r.settle
    water := if st.kind = .fill then r.water else r.water + d
    solution := if st.kind = .fill then r.solution + d else r.solution }

theorem countPulse_eq_pulseCounted : s.modCircuit c (fun r => r.countPulse st.kind) = pulseCounted c st s := by
  rw [State.modCircuit_eq, CircuitRec.countPulse, CircuitRec.draw, pulseVolume_eq, if_neg (Nat.succ_ne_zero _), pulseCounted]
  by_cases fill : st.kind = .fill <;> simp [fill]

theorem pulseCounted_circuit (c : Circuit) (st : Step) (s : State) :
    ((pulseCounted c st s).circuit c).batch = (s.circuit c).batch ∧ ((pulseCounted c st s).circuit c).target = (s.circuit c).target
      ∧ ((pulseCounted c st s).circuit c).progress
          = (((s.circuit c).pulses + 1 + (s.circuit c).offset) * (s.circuit c).gain + 500) / 1000 := by
  rw [pulseCounted, State.circuit_setCircuit_self]
  exact ⟨rfl, rfl, rfl⟩

theorem circuitPulse_still (at_step : runningStep s c = some st) (hk : st.kind = .soak ∨ st.kind = .pause) : circuitPulse c s = s := by
  unfold circuitPulse
  rw [at_step]
  rcases hk with hk | hk <;> simp only [hk]

theorem circuitPulse_circulate (at_step : runningStep s c = some st) (hk : st.kind = .circulate) :
    circuitPulse c s = s.setCircuit c { s.circuit c with flowTimer := 0 } := by
  unfold circuitPulse
  rw [at_step]
  simp only [hk]
  rfl

theorem circuitPulse_draws (at_step : runningStep s c = some st) (hk : st.kind = .purge ∨ st.kind = .rinse ∨ st.kind = .fill) :
    circuitPulse c s = if ((pulseCounted c st s).circuit c).target ≤ ((pulseCounted c st s).circuit c).progress
      then completeStep c st (pulseCounted c st s) else pulseCounted c st s := by
  rw [← countPulse_eq_pulseCounted]
  unfold circuitPulse
  rw [at_step]
  rcases hk with hk | hk | hk <;> simp only [hk]

theorem circuitPulse_verify (at_step : runningStep s c = some st) (hk : st.kind = .verify) :
    circuitPulse c s = decideVerify c st (pulseCounted c st s) := by
  rw [← countPulse_eq_pulseCounted]
  unfold circuitPulse
  rw [at_step]
  simp only [hk]

theorem markBatch_pulseCounted (on : Bool) : markBatch c on (pulseCounted c st s)
    = (s.circuit c).batch.foldl (fun x n => x.setLine n { x.line n with mark := on }) (pulseCounted c st s) := by
  rw [markBatch, (pulseCounted_circuit c st s).1]
  rfl

/-- A VERIFY passes at its settle target, and fails past its limit (R161). -/
theorem decideVerify_spec (c : Circuit) (st : Step) (s : State) :
    ((s.circuit c).target ≤ (s.circuit c).settle → decideVerify c st s = completeStep c st (markBatch c false s))
      ∧ ((s.circuit c).settle < (s.circuit c).target → st.limit * (s.circuit c).batch.length < (s.circuit c).progress →
          decideVerify c st s = finishBatch c (.fault .rinse) s)
      ∧ ((s.circuit c).settle < (s.circuit c).target → (s.circuit c).progress ≤ st.limit * (s.circuit c).batch.length →
          decideVerify c st s = s) := by
  unfold decideVerify
  refine ⟨fun passes => if_pos passes, fun short past => ?_, fun short within => ?_⟩
  · exact (if_neg (Nat.not_le.mpr short)).trans (if_pos past)
  · exact (if_neg (Nat.not_le.mpr short)).trans (if_neg (Nat.not_lt.mpr within))

/-! #### A reading of the sensor (R161, R167) -/

theorem not_still (run : Runs c s) : ¬ (!(s.circuit c).runs) = true := by simpa using (runs_iff c s).mpr run

theorem conductivity_none (run : Runs c s) : conductivity c none s = finishBatch c (.fault .sensor) s := if_neg (not_still run)

theorem conductivity_outside (run : Runs c s) {x : Int} (h : x < 0 ∨ 20000 < x) :
    conductivity c (some x) s = finishBatch c (.fault .sensor) (s.setCircuit c { s.circuit c with conductivity := x }) := by
  have outside : x < 0 ∨ Config.maxConductivity < x := h
  exact (if_neg (not_still run)).trans (if_pos (by simpa using outside))

/-- The step and the rinse threshold are read from a circuit's program and step index. -/
theorem currentStep_setCircuit {r : CircuitRec} (hp : r.program = (s.circuit c).program) (hi : r.stepIndex = (s.circuit c).stepIndex) :
    currentStep (s.setCircuit c r) c = currentStep s c := by
  unfold currentStep
  rw [State.circuit_setCircuit_self, hp, hi]
  rfl

theorem rinseThreshold_setCircuit {r : CircuitRec} (hp : r.program = (s.circuit c).program) :
    rinseThreshold (s.setCircuit c r) c = rinseThreshold s c := by
  unfold rinseThreshold
  rw [State.circuit_setCircuit_self, hp]
  rfl

theorem second_eq (r : CircuitRec) (k : StepKind) : r.second k = { r with
    flowTimer := if k = .soak ∨ k = .pause then r.flowTimer else min 10 (r.flowTimer + 1)
    progress := if k = .soak ∨ k = .circulate then min r.target (r.progress + 1) else r.progress } := by
  cases k <;> rfl

/-- A reading in range is kept and counts its second, and decides whether a VERIFY settles (R161, assumption 9). -/
theorem conductivity_step (run : Runs c s) (at_step : currentStep s c = some st) {x : Int} (low : 0 ≤ x) (top : x ≤ 20000) :
    let w : CircuitRec := { (s.circuit c).second st.kind with conductivity := x }
    conductivity c (some x) s = s.setCircuit c (if st.kind ≠ .verify then w
      else if (rinseThreshold s c : Int) ≤ x then { w with settle := 0, settling := false } else { w with settling := true }) := by
  intro w
  have below : ¬ Config.maxConductivity < x := not_lt.mpr top
  have inside : (decide (x < 0) || decide (Config.maxConductivity < x)) = false := by simp [low, below]
  have step : currentStep (s.setCircuit c { s.circuit c with conductivity := x }) c = some st :=
    (currentStep_setCircuit (r := { s.circuit c with conductivity := x }) rfl rfl).trans at_step
  have second : (s.setCircuit c { s.circuit c with conductivity := x }).modCircuit c (fun r => r.second st.kind) = s.setCircuit c w := by
    rw [State.modCircuit_eq, State.circuit_setCircuit_self, setCircuit_setCircuit]
    rfl
  have threshold : rinseThreshold (s.setCircuit c w) c = rinseThreshold s c := rinseThreshold_setCircuit rfl
  unfold conductivity
  rw [if_neg (not_still run)]
  simp only [inside, Bool.false_eq_true, if_false, step, second, threshold, State.modCircuit_eq, State.circuit_setCircuit_self,
    setCircuit_setCircuit]
  by_cases verify : st.kind = .verify
  · simp only [verify, if_true, ne_eq, not_true_eq_false, if_false]
    split <;> rfl
  · simp only [verify, if_false, ne_eq, not_false_eq_true, if_true]

/-! #### The timers (R160, R167) -/

/-- The flow timer counts under the kinds that pump (R167). -/
theorem flowExpiry_step (at_step : runningStep s c = some st) :
    (st.kind ≠ .soak ∧ st.kind ≠ .pause →
        flowExpiry c s = finishBatch c (.fault .flow) (s.setCircuit c { s.circuit c with flowTimer := 10 }))
      ∧ (st.kind = .soak ∨ st.kind = .pause → flowExpiry c s = s) := by
  have pump : pumpOn s c = st.kind.pumps := by
    unfold pumpOn
    rw [at_step]
  rw [← StepKind.pumps_iff, ← pump]
  refine ⟨fun on => if_pos on, fun hk => if_neg fun on => ?_⟩
  rw [pump, StepKind.pumps_iff] at on
  exact hk.elim on.1 on.2

/-- A time ends a step of the kinds that have one (R160). -/
theorem timedExpiry_step (at_step : runningStep s c = some st) :
    (st.kind = .soak ∨ st.kind = .circulate →
        timedExpiry c s = completeStep c st (s.setCircuit c { s.circuit c with progress := (s.circuit c).target }))
      ∧ (st.kind ≠ .soak → st.kind ≠ .circulate → timedExpiry c s = s) := by
  unfold timedExpiry
  rw [at_step, ← StepKind.timed_iff]
  refine ⟨fun ends => if_pos ends, fun noSoak noLoop => if_neg fun ends => ?_⟩
  exact ((StepKind.timed_iff _).mp ends).elim noSoak noLoop

/-- A circuit that runs no step heeds no pulse, no reading and no expiry. -/
theorem circuit_rests (h : ¬ Runs c s) :
    circuitPulse c s = s ∧ (∀ x, conductivity c x s = s) ∧ flowExpiry c s = s ∧ timedExpiry c s = s := by
  have still : (s.circuit c).runs = false := Bool.eq_false_iff.mpr fun hr => h ((runs_iff c s).mp hr)
  unfold circuitPulse conductivity flowExpiry timedExpiry
  rw [runningStep_of_rests h, still, (outputs_of_rests h).1]
  exact ⟨rfl, fun _ => rfl, rfl, rfl⟩

/-! #### The supplies (R167) -/

/-- The circuit runs a step of the kind. -/
def Draws (c : Circuit) (s : State) (k : StepKind) : Prop := Runs c s ∧ ∃ st, currentStep s c = some st ∧ st.kind = k

theorem draws_iff (k : StepKind) : Draws c s k ↔ ∃ st, runningStep s c = some st ∧ st.kind = k := by
  simp only [Draws, runningStep_eq_some_iff, and_assoc, exists_and_left]

theorem drawsFrom_water : drawsFrom s c .water = true ↔ Draws c s .purge ∨ Draws c s .rinse ∨ Draws c s .verify := by
  simp only [draws_iff, drawsFrom]
  cases runningStep s c with
  | none => simp
  | some st => simp [StepKind.drawsWater_iff]

theorem drawsFrom_solution : drawsFrom s c .solution = true ↔ Draws c s .fill := by
  simp only [draws_iff, drawsFrom]
  cases runningStep s c with
  | none => simp
  | some st => simp

/-- A supply-low input that changes is a fault where it becomes active under a step that draws from the supply. -/
theorem exec_supplyLow (takes : s.takesEvents = true) (c : Circuit) (u : Supply) (level : Bool) :
    (level = true → drawsFrom s c u = true → exec (.supplyLow c u level) s
        = .next (transmit (finishBatch c (.fault .supply) (setSupplyPin c u level s))))
      ∧ (level = false ∨ ¬ drawsFrom s c u = true → exec (.supplyLow c u level) s = .next (transmit (setSupplyPin c u level s))) := by
  have pin : (setSupplyPin c u level s).takesEvents = true ∧ drawsFrom (setSupplyPin c u level s) c u = drawsFrom s c u := by
    cases u <;> exact ⟨takes, rfl⟩
  have ran : exec (.supplyLow c u level) s
      = .next (transmit (if level then supplyFault c u (setSupplyPin c u level s) else setSupplyPin c u level s)) :=
    congrArg _ (event_of_takes pin.1)
  rw [ran, supplyFault, pin.2]
  refine ⟨fun active draws => by rw [if_pos active, if_pos draws], fun calm => ?_⟩
  rcases calm with inactive | idle
  · rw [inactive]
    rfl
  · rw [if_neg idle, ite_self]

end circuit

/-! #### The parts of O50 -/

/-- A command whose event a part that takes events handles. -/
theorem exec_event {s t : State} (takes : s.takesEvents = true) {i : Instr} {f : State → State} (hx : exec i s = .next (event f s))
    (hf : f s = t) : exec i s = .next (transmit t) := by
  rw [hx, event_of_takes takes, hf]

section events

variable {s : State}

theorem outputs_spec (c : Circuit) (takes : s.takesEvents = true) :
    let r := s.circuit c
    let o := circuitOutputs s c
    (r.state = .idle ∨ r.state = .paused → o.pump = false ∧ o.water = false ∧ o.solution = false)
      ∧ (r.state = .idle → o.recirculate = false) ∧ (r.state = .paused → o.recirculate = true)
      ∧ (∀ st, Runs c s → currentStep s c = some st → st.kind ≠ .pause →
          o.pump = decide (st.kind ≠ .soak)
          ∧ o.water = decide (st.kind = .purge ∨ st.kind = .rinse ∨ st.kind = .verify)
          ∧ o.solution = decide (st.kind = .fill)
          ∧ o.recirculate = decide (st.kind = .circulate ∨ st.kind = .soak))
      ∧ (∀ n : Fin 48, o.cleanValves[n] = true ↔ r.state ≠ .idle ∧ n.val ∈ r.batch)
      ∧ (BatchLaw s → ∀ n : Fin 48, (circuitOutputs s .a).cleanValves[n] = false ∨ (circuitOutputs s .b).cleanValves[n] = false) := by
  have valve : ∀ (d : Circuit) (n : Fin 48), (circuitOutputs s d).cleanValves[n] = cleanValve s d n := fun d n => by
    simp [circuitOutputs_of_takes d takes]
  intro r o
  have outputs : o = _ := circuitOutputs_of_takes c takes
  have rests : r.state = .idle ∨ r.state = .paused → ¬ Runs c s := fun h run => by
    have state : r.state = .running ∨ r.state = .stopping := run
    rcases h with h | h <;> simp [h] at state
  refine ⟨fun h => ?_, fun h => ?_, fun h => ?_, fun st run at_step hk => ?_, fun n => ?_, fun law n => ?_⟩
  · obtain ⟨pump, water, solution, -⟩ := outputs_of_rests (rests h)
    rw [outputs]
    exact ⟨pump, water, solution⟩
  · obtain ⟨-, -, -, valve⟩ := outputs_of_rests (rests (.inl h))
    rw [outputs]
    exact valve.trans (decide_eq_false fun paused => by rw [h] at paused; exact absurd paused (by decide))
  · obtain ⟨-, -, -, valve⟩ := outputs_of_rests (rests (.inr h))
    rw [outputs]
    exact valve.trans (decide_eq_true h)
  · obtain ⟨pump, water, solution, back⟩ := outputs_of_step run at_step
    rw [outputs, pump, water, solution, back]
    refine ⟨Bool.eq_iff_iff.mpr ?_, Bool.eq_iff_iff.mpr ?_, rfl, Bool.eq_iff_iff.mpr ?_⟩
    · simp [StepKind.pumps_iff, hk]
    · simp [StepKind.drawsWater_iff]
    · simp [StepKind.recirculates_iff, hk]
  · rw [valve, cleanValve_iff]
  · rw [valve, valve]
    exact cleanValve_once law n

/-- Each kind of step takes a pulse in its own way (R159 to R161). -/
theorem pulse_spec {c : Circuit} {st : Step} (at_step : runningStep s c = some st) :
    let r := s.circuit c
    let u := pulseCounted c st s
    let v := ((r.pulses + 1 + r.offset) * r.gain + 500) / 1000
    let settle := (u.circuit c).settle
    (st.kind = .soak ∨ st.kind = .pause → circuitPulse c s = s)
      ∧ (st.kind = .circulate → circuitPulse c s = s.setCircuit c { r with flowTimer := 0 })
      ∧ (st.kind = .purge ∨ st.kind = .rinse ∨ st.kind = .fill →
          (r.target ≤ v → circuitPulse c s = completeStep c st u) ∧ (v < r.target → circuitPulse c s = u))
      ∧ (st.kind = .verify →
          (r.target ≤ settle → circuitPulse c s = completeStep c st
            (r.batch.foldl (fun x n => x.setLine n { x.line n with mark := false }) u))
          ∧ (settle < r.target → st.limit * r.batch.length < v → circuitPulse c s = finishBatch c (.fault .rinse) u)
          ∧ (settle < r.target → v ≤ st.limit * r.batch.length → circuitPulse c s = u)) := by
  obtain ⟨batch, target, progress⟩ := pulseCounted_circuit c st s
  refine ⟨circuitPulse_still at_step, circuitPulse_circulate at_step, fun draws => ?_, fun verify => ?_⟩
  · rw [circuitPulse_draws at_step draws, target, progress]
    exact ⟨fun full => if_pos full, fun short => if_neg (Nat.not_le.mpr short)⟩
  · obtain ⟨passes, fails, goes⟩ := decideVerify_spec c st (pulseCounted c st s)
    rw [target, batch, progress] at fails goes
    rw [target, markBatch_pulseCounted] at passes
    rw [circuitPulse_verify at_step verify]
    exact ⟨passes, fails, goes⟩

end events

/-- Settles O50: the outputs, the circuit that rests, the events of the step it runs, and the supplies. -/
theorem circuitEvents : Obligations.CircuitEvents := by
  intro c s takes
  refine ⟨outputs_spec c takes, fun rests => ?_, fun st run at_step => ?_, fun level => ?_⟩
  · obtain ⟨pulse, reading, flow, timed⟩ := circuit_rests rests
    exact ⟨exec_event takes rfl pulse, fun x => exec_event takes rfl (reading x), exec_event takes rfl flow, exec_event takes rfl timed⟩
  · have running := (runningStep_of_runs run).trans at_step
    obtain ⟨soak, circulate, draws, verify⟩ := pulse_spec running
    have settle : ((pulseCounted c st s).circuit c).settle = _ := congrArg (·.settle) (State.circuit_setCircuit_self s c _)
    rw [settle] at verify
    obtain ⟨noFlow, idles⟩ := flowExpiry_step running
    obtain ⟨ends, untimed⟩ := timedExpiry_step running
    have pulse : ∀ {t}, circuitPulse c s = t → exec (.circuitMeterPulse c) s = .next (transmit t) := exec_event takes rfl
    have reading : ∀ {x t}, conductivity c x s = t → exec (.conductivityReading c x) s = .next (transmit t) := exec_event takes rfl
    refine ⟨fun hk => pulse (soak hk), fun hk => pulse (circulate hk), fun hk full => pulse ((draws hk).1 full),
      fun hk short => pulse ((draws hk).2 short), fun hk passes => ?_, fun hk short past => ?_, fun hk short within => ?_,
      reading (conductivity_none run), fun x outside => reading (conductivity_outside run outside), fun x low top => reading ?_,
      fun hk => exec_event takes rfl (noFlow hk), fun hk => exec_event takes rfl (idles hk), fun hk => exec_event takes rfl (ends hk),
      fun noSoak noLoop => exec_event takes rfl (untimed noSoak noLoop)⟩
    · obtain ⟨passed, -, -⟩ := verify hk
      exact pulse (passed passes)
    · obtain ⟨-, failed, -⟩ := verify hk
      exact pulse (failed short past)
    · obtain ⟨-, -, goes⟩ := verify hk
      exact pulse (goes short within)
    · rw [State.circuit_setCircuit_self, ← second_eq]
      exact conductivity_step run at_step low top
  · obtain ⟨waterFault, waterCalm⟩ := exec_supplyLow takes c .water level
    obtain ⟨solutionFault, solutionCalm⟩ := exec_supplyLow takes c .solution level
    rw [drawsFrom_water] at waterFault waterCalm
    rw [drawsFrom_solution] at solutionFault solutionCalm
    exact ⟨waterFault, waterCalm, solutionFault, solutionCalm⟩

end Sys2Proof.Machine
end

section
/-! ### Every step keeps the law of the notice list (O53)

The law reads the pending notices and the pace. A posting merges (R181), a free transmitter takes the oldest notice away (R182), NOTICE
PACE clamps the pace (R179), and a start sends its one notice at once (R185); everything else leaves both. -/

namespace Sys2Proof.Machine

open Sys2Proof Sys2Proof.Safety
open CoolLaw (decision_ite)

variable {s t : State}

/-! #### Postings -/

/-- A posting leaves one entry of each kind and subject (R181). -/
theorem mergeNotice_nodup (key : NoticeKey) (cause : NoticeCause) {l : List Notice} (h : (l.map (·.key)).Nodup) :
    ((mergeNotice key cause l).map (·.key)).Nodup := by
  rw [mergeNotice_keys]
  split
  · exact h
  · rename_i fresh
    exact List.nodup_append_comm.mp (List.nodup_cons.mpr ⟨fresh, h⟩ : ([key] ++ l.map (·.key)).Nodup)

theorem post_noticeLaw (key : NoticeKey) (cause : NoticeCause) (hs : NoticeLaw s) : NoticeLaw (post key cause s) :=
  ⟨mergeNotice_nodup key cause hs.1, hs.2⟩

/-- A record posts at most a JOURNAL notice. -/
theorem takeRecord_noticeLaw (b : RecordBody) (hs : NoticeLaw s) : NoticeLaw (takeRecord b s) := by
  have high : ∀ u, NoticeLaw u → NoticeLaw (noteHigh u) := fun u hu =>
    ite_closed (post_noticeLaw (s := { u with acct := { u.acct with highNoted := true } }) _ _ hu) hu
  have full : ∀ u, NoticeLaw u → NoticeLaw (noteFull u) := fun u hu =>
    ite_closed hu (post_noticeLaw (s := { u with acct := { u.acct with fullNoted := true } }) _ _ hu)
  exact ite_closed (high _ hs) (full _ hs)

/-- The rules of the plant reach the notices by postings alone. -/
theorem noticeLaw_plant : PlantClosed NoticeLaw where
  cellar _ _ hs := hs
  pour _ _ hs := hs
  bus _ _ hs := hs
  clean _ _ hs := hs
  watch _ _ _ hs := hs
  warm _ _ hs := hs
  post _ k c hs := post_noticeLaw k c hs
  record _ b hs := takeRecord_noticeLaw b hs

/-! #### Requests -/

/-- A pace brought into 1–50 keeps the law, and reading the pace changes nothing (R179). -/
theorem noticePace_noticeLaw (pace : Option Nat) (hs : NoticeLaw s) : NoticeLaw (decideNoticePace pace s).state := by
  cases pace with
  | none => exact hs
  | some n =>
    refine ⟨hs.1, ?_, ?_⟩
    · exact Nat.le_max_left 1 _
    · exact Nat.max_le.mpr ⟨by decide, Nat.min_le_left 50 n⟩

theorem lineHoldApply_noticeLaw (n : Nat) (stop : Bool) (hs : NoticeLaw s) : NoticeLaw (decideLineHoldApply n stop s).state := by
  have held := changeHolds_closed noticeLaw_plant.cleaning n { (s.line n).holds with host := true } s hs
  exact decision_ite hs (decision_ite hs (ite_closed (stopLine_closed noticeLaw_plant n _ held) held))

theorem chillerSet_noticeLaw (count points : Nat) (hs : NoticeLaw s) : NoticeLaw (decideChillerSet count points s).state := by
  have shared : ∀ c : Prop, [Decidable c] → ∀ u, NoticeLaw u → NoticeLaw (if c then u else allocate u) :=
    fun _ _ _ hu => ite_closed hu hu
  have set := shared (s.cool.points = points) { s with cool := { s.cool with
    count := count, points := points, startFaults := s.cool.startFaults.mapIdx fun i b => b && decide (i < count) } } hs
  exact decision_ite hs (decision_ite hs (ite_closed (post_noticeLaw _ _ set) set))

theorem calWrite_noticeLaw (k n g o : Nat) (r : Bool) (hs : NoticeLaw s) : NoticeLaw (decideCalWrite k n g o r s).state := by
  refine decision_ite hs ?_
  split
  · exact hs
  · refine decision_ite hs ?_
    split
    · exact hs
    · exact takeRecord_noticeLaw _ (applyCal_closed noticeLaw_plant _ g o r hs)

/-- The owner's decision of any request keeps the law. -/
theorem decision_noticeLaw {i : Instr} {f : State → Decision} (hd : decisionOf i = some f) (hs : NoticeLaw s) :
    NoticeLaw (f s).state := by
  have plant := noticeLaw_plant
  cases i <;> cases hd
  case noticePace p => exact noticePace_noticeLaw p hs
  case lineHoldApply n stop => exact lineHoldApply_noticeLaw n stop hs
  case chillerSet c p => exact chillerSet_noticeLaw c p hs
  case calWrite k n g o r => exact calWrite_noticeLaw k n g o r hs
  case trunkSet n p kp c a =>
    have set : NoticeLaw (s.modTrunk n fun t => t.settings p kp c a) := hs
    exact decision_ite hs (post_noticeLaw _ _ set)
  case lineSet n c => exact decision_ite hs (lineSetState_closed plant n c hs)
  case lineClear n => exact decision_ite hs (decision_ite hs (decision_ite hs (clearLine_closed plant n hs)))
  case lineHoldRelease n c => exact decision_ite hs (decision_ite hs (changeHolds_closed plant.cleaning n _ s hs))
  case kegAdd n id p v b =>
    exact decision_ite hs (decision_ite hs (decision_ite hs (decision_ite hs (addKeg_closed plant n _ s hs))))
  case kegRemove n id => exact decision_ite hs (decision_ite hs (decision_ite hs (removeKeg_closed plant n id hs)))
  case kegSwitch n => exact decision_ite hs (decision_ite hs (retireHead_closed plant n .switched s hs))
  case returnToService n =>
    exact decision_ite hs (decision_ite hs (moveLine_closed plant.cleaning n .priming _ (plant.cellar _ _ hs)))
  case tapSetAssign i b => exact decision_ite hs (assignTap_closed plant i b hs)
  case tapSetUnassign i b => exact decision_ite hs (decision_ite hs (unassignTap_closed plant i hs))
  case tapSetCloseOrphan i b =>
    exact decision_ite hs (decision_ite hs (recomputeThreshold_closed plant _ _ (closeLost_closed plant i s hs)))
  case cleanWithdraw n => exact decision_ite hs (decision_ite hs (withdrawLine_closed plant n hs))
  case journalRelease n =>
    have released : ∀ k, NoticeLaw (releaseRecords k s) := fun k => by
      rw [releaseRecords_frame]
      exact hs
    exact decision_ite hs (released _)
  case watchClear w => exact decision_ite hs (replaceWatch_closed plant w _ s hs)
  case watchSet w e =>
    refine decision_ite hs ?_
    split
    · exact hs
    · exact replaceWatch_closed plant w _ s hs
  case routeSwap =>
    refine decision_ite hs ?_
    split
    · exact hs
    · simp only [acceptWith_state]
      exact swapMaps_closed plant hs
  case cleanRequest n p =>
    unfold decideCleanRequest
    split
    · exact hs
    · exact queueLine_closed plant n p hs
  case cleanContinue c =>
    unfold decideCleanContinue
    split
    · exact hs
    · exact decision_ite hs (resumeCircuit_closed plant _ hs)
  case cleanAbort c =>
    unfold decideCleanAbort
    split
    · exact hs
    · exact decision_ite hs (finishBatch_closed plant.cleaning _ _ s hs)
  case routeWrite m first es =>
    unfold decideRouteWrite
    split
    · exact decision_ite hs (decision_ite hs hs)
    · exact hs
  case status | timeSet | timeGet | restart | freeLimitsRead | barStateSet | barStateClear | barStateToggle | journalRead =>
    exact hs
  case lineGet | kegList | tapGet | sizeSetWrite | sizeSetRead | freeLimitsWrite | routeCheck | surgeRemove | programRead
      | reconcile | totalsClear => exact decision_ite hs hs
  case factoryClear => exact decision_ite hs (decision_ite hs hs)
  case productRegister | surgeAdd =>
    exact decision_ite hs (decision_ite hs (decision_ite hs hs))
  -- the other requests look a record, a code or an operand up and leave the link
  all_goals
    simp only [decideProductRemove, decideProductRead, decideRouteRead, decideCoolingGet, decideProgramLoad,
      decideCleanStop, decideCircuitGet, decideTotalsRead, decideHistogramRead, decideWatchGet, decideCalOpen, decideCalRead]
    repeat' split
  all_goals exact hs

/-! #### The link (R173 to R183) -/

/-- The oldest notice leaves the list when it begins (R182). -/
theorem sendNotice_noticeLaw (hs : NoticeLaw s) : NoticeLaw (sendNotice s) := by
  unfold sendNotice
  split
  · exact hs
  · rename_i n rest pending
    have nodup : (n.key :: rest.map (·.key)).Nodup := by
      have all := hs.1
      rwa [pending] at all
    exact ite_closed (P := NoticeLaw) ⟨(List.nodup_cons.mp nodup).2, hs.2⟩ hs

theorem transmit_noticeLaw (hs : NoticeLaw s) : NoticeLaw (transmit s) :=
  ite_closed (ite_closed hs (ite_closed hs (sendNotice_noticeLaw hs))) hs

theorem event_noticeLaw {f : State → State} (hf : ∀ u, NoticeLaw u → NoticeLaw (f u)) (hs : NoticeLaw s) :
    NoticeLaw (event f s) :=
  ite_closed (transmit_noticeLaw (hf s hs)) hs

theorem receiveFrame_noticeLaw (kind tag : Byte) {f : State → Decision} (hf : ∀ u, NoticeLaw u → NoticeLaw (f u).state)
    (hs : NoticeLaw s) : NoticeLaw (receiveFrame kind tag f s) := by
  have decided : NoticeLaw (f (huntAgain s)).state := hf _ hs
  have counted : ∀ b st, NoticeLaw (countFurther b st (f (huntAgain s)).state) := fun _ _ => ite_closed decided decided
  exact ite_closed (ite_closed hs hs) (counted _ _)

theorem receiveWhole_noticeLaw (kind tag : Byte) (body : List Byte) (hs : NoticeLaw s) :
    NoticeLaw (receiveWhole kind tag body s) := by
  refine ite_closed hs (receiveFrame_noticeLaw kind tag (fun u hu => ?_) hs)
  unfold dispatchFrame
  repeat' split
  · exact hu
  · exact hu
  · exact hu
  · unfold decideSpelled
    split
    · exact decision_noticeLaw ‹_› hu
    · exact hu

theorem receiveByte_noticeLaw (b : Byte) (hs : NoticeLaw s) : NoticeLaw (receiveByte b s) := by
  unfold receiveByte
  split
  · exact ite_closed hs hs
  · exact hs
  · exact ite_closed hs hs
  · refine ite_closed hs ?_
    unfold frameRead
    split
    · exact ite_closed (receiveWhole_noticeLaw _ _ _ hs) hs
    · exact hs

theorem frameArrives_noticeLaw (bytes : List Byte) (e : Bool) (hs : NoticeLaw s) : NoticeLaw (frameArrives bytes e s) := by
  have read : NoticeLaw (receiveBytes bytes s) := foldl_closed (fun _ b hu => receiveByte_noticeLaw b hu) bytes s hs
  have broken : ∀ u, NoticeLaw u → NoticeLaw (breakFrame u) := fun _ hu => ite_closed hu hu
  exact ite_closed (broken _ read) read

/-! #### Stops and starts -/

/-- A restart keeps the pace and has no notice pending (R179, R185). -/
theorem restart_link (straps : Straps) (s : State) :
    (restart straps s).link = startLink s.link.pace straps .restart s.store.clock s.store.unset := by
  rw [restart_eq]

/-- A start begins its SYSTEM notice at once, so none is pending (R185). -/
theorem startLink_noticeLaw {u : State} {pace : Nat} (hp : 1 ≤ pace ∧ pace ≤ 50) {straps : Straps} {cause : StartCause} {clock : Nat}
    {unset : Bool} (h : u.link = startLink pace straps cause clock unset) : NoticeLaw u := by
  unfold NoticeLaw
  rw [h]
  exact ⟨List.nodup_nil, hp⟩

theorem beginStart_noticeLaw (cause : StartCause) (straps : Straps) (cut : Option StartCut) (hs : NoticeLaw s) :
    NoticeLaw (beginStart cause straps cut s) := by
  have cold : ∀ c, NoticeLaw (coldStart c straps s) := fun _ => startLink_noticeLaw (by decide) rfl
  cases cut with
  | some x => exact hs
  | none =>
    cases cause with
    | restart => exact startLink_noticeLaw hs.2 (restart_link straps s)
    | retentionLost => exact cold _
    | factoryClear => exact cold _

theorem replyEnds_noticeLaw (straps : Straps) (cut : Option StartCut) (hs : NoticeLaw s) : NoticeLaw (replyEnds straps cut s) := by
  unfold replyEnds
  split
  · exact ite_closed (beginStart_noticeLaw _ straps cut hs) hs
  · refine event_noticeLaw (fun u hu => ?_) hs
    unfold replySent
    split
    all_goals exact hu

/-! #### Cooling and the age check -/

theorem ageCheck_noticeLaw (hs : NoticeLaw s) : NoticeLaw (ageCheck s) := by
  have checked := foldl_closed (fun u n hu => checkDueAge_closed noticeLaw_plant n u hu) (List.range 48) s hs
  have noted : ∀ u, NoticeLaw u → NoticeLaw { u with store := { u.store with minuteReached := false } } := fun _ hu => hu
  exact ite_closed (noted _ checked) hs

theorem releaseExpiry_noticeLaw (n : Nat) (hs : NoticeLaw s) : NoticeLaw (releaseExpiry n s) := by
  have timer : NoticeLaw (s.modTrunk n fun t => { t with releaseTimer := 0 }) := hs
  exact ite_closed
    (foldl_closed (fun _ i hu => ite_closed (changeHolds_closed noticeLaw_plant.cleaning i _ _ hu) hu) _ _ timer) hs

theorem alarmExpiry_noticeLaw (n : Nat) (hs : NoticeLaw s) : NoticeLaw (alarmExpiry n s) :=
  ite_closed (post_noticeLaw (s := s.setTrunk n { s.trunk n with alarm := true }) _ _ hs) hs

theorem stageStep_noticeLaw (hs : NoticeLaw s) : NoticeLaw (stageStep s) := by
  unfold stageStep
  simp only []
  refine ite_closed ?_ (ite_closed ?_ hs)
  all_goals
    split
    · exact ite_closed hs hs
    · exact hs

theorem sampleTrunk_noticeLaw (n : Nat) (reading : Option Int) (hs : NoticeLaw s) : NoticeLaw (sampleTrunk n reading s) := by
  have set : ∀ r, NoticeLaw (s.setTrunk n r) := fun _ => hs
  unfold sampleTrunk
  simp only []
  split
  · exact ite_closed (set _) (post_noticeLaw _ _ (set _))
  · rename_i v _
    have restored := ite_closed (c := (s.trunk n).sensorFault = true) (post_noticeLaw (.trunk n) .trunkSensorRestored
      (set ((s.trunk n).sampled v))) (set ((s.trunk n).sampled v))
    exact ite_closed (post_noticeLaw _ _ restored) restored

theorem freezeGuard_noticeLaw (v : Int) (hs : NoticeLaw s) : NoticeLaw (freezeGuard v s) := by
  have held : ∀ b, NoticeLaw { s with cool := { s.cool with freezeHold := b } } := fun _ => hs
  have stopped : ∀ u, NoticeLaw u → NoticeLaw (allocate (stopStages u)) := fun _ hu => hu
  exact ite_closed (ite_closed (post_noticeLaw _ _ (held false)) hs) (ite_closed (post_noticeLaw _ _ (stopped _ (held true))) hs)

theorem sampleBath_noticeLaw (reading : Option Int) (hs : NoticeLaw s) : NoticeLaw (sampleBath reading s) := by
  have set : ∀ c : Cooling, NoticeLaw { s with cool := c } := fun _ => hs
  unfold sampleBath
  split
  · exact ite_closed hs (post_noticeLaw _ _ (set _))
  · exact freezeGuard_noticeLaw _ (ite_closed (post_noticeLaw _ _ (set _)) (set _))

theorem sampleAll_noticeLaw (returns : Vector (Option Int) 12) (bath : Option Int) (hs : NoticeLaw s) :
    NoticeLaw (sampleAll returns bath s) := by
  have second : NoticeLaw (coolingSecond s) := ite_closed (P := NoticeLaw) hs hs
  have read : ∀ u, NoticeLaw u → NoticeLaw { u with cool := { u.cool with startFaults := Vector.replicate 4 false } } :=
    fun _ hu => hu
  have first : NoticeLaw (firstFaultReading (coolingSecond s)) :=
    ite_closed (post_noticeLaw _ _ (read _ second)) (read _ second)
  exact sampleBath_noticeLaw bath (foldl_closed (fun _ n hu => sampleTrunk_noticeLaw n _ hu) _ _ first)

theorem stageFails_noticeLaw (i : Nat) (hs : NoticeLaw s) : NoticeLaw (stageFails i s) := by
  have switched : NoticeLaw (if (s.stage i).running then allocate (switchStage i false s) else s) := ite_closed hs hs
  exact ite_closed hs (post_noticeLaw _ _ switched)

theorem stageReturns_noticeLaw (i : Nat) (hs : NoticeLaw s) : NoticeLaw (stageReturns i s) := by
  have noted : NoticeLaw { s with cool := { s.cool with startFaults := s.cool.startFaults.setIfInBounds i false } } := hs
  exact ite_closed hs (post_noticeLaw _ _ noted)

/-! #### The step -/

/-- An event that leads to `t` leads to a state that has the law. -/
theorem exec_event_noticeLaw {i : Instr} (hd : decisionOf i = none) (ht : exec i s = .next t) (hs : NoticeLaw s) : NoticeLaw t := by
  have plant := noticeLaw_plant
  have pins : ∀ p, NoticeLaw { s with pins := p } := fun _ => hs
  cases i <;> cases hd
  case unknownRequest k g b => cases ht; exact event_noticeLaw (fun _ => receiveWhole_noticeLaw k g b) hs
  case busyReply k g b => cases ht; exact event_noticeLaw (fun _ => receiveWhole_noticeLaw k g b) hs
  case frameDiscarded f => cases ht; exact event_noticeLaw (fun _ => frameArrives_noticeLaw _ _) hs
  case interByteTimeout => cases ht; exact event_noticeLaw (fun _ hu => ite_closed hu hu) hs
  case startMarkerReceived => cases ht; exact event_noticeLaw (fun _ => receiveByte_noticeLaw _) hs
  case replyTransmitted x => cases ht; exact replyEnds_noticeLaw _ _ hs
  case noticeTransmitted =>
    cases ht
    refine event_noticeLaw (fun u hu => ?_) hs
    unfold noticeSent
    split
    all_goals exact hu
  case noticePaceWaitEnd => cases ht; exact event_noticeLaw (fun _ hu => hu) hs
  case clockSecond => cases ht; exact hs
  case cleaningDueAgeCheck => cases ht; exact event_noticeLaw (fun _ => ageCheck_noticeLaw) hs
  case mainPowerFail => cases ht; exact hs
  case backupSupplyBelowMinimum => cases ht; exact ite_closed hs hs
  case powerUp b x => cases ht; exact ite_closed hs (ite_closed hs (beginStart_noticeLaw _ _ _ hs))
  case resetAsserted => cases ht; exact hs
  case resetReleased x => cases ht; exact ite_closed hs (ite_closed (beginStart_noticeLaw _ _ _ hs) hs)
  case replyWindowExpiry => cases ht; exact event_noticeLaw (missExchange_closed plant) hs
  case replyByteGapTimeout => cases ht; exact event_noticeLaw (missExchange_closed plant) hs
  case replyFormatBroken => cases ht; exact event_noticeLaw (missExchange_closed plant) hs
  case replyReceived b => cases ht; exact event_noticeLaw (receiveReply_closed plant b) hs
  case emptyRoundExpiry => cases ht; exact event_noticeLaw (emptyRoundEnds_closed plant) hs
  case foamOnBeerTrip n => cases ht; exact event_noticeLaw (detectorTrip_closed plant n) (pins _)
  case detectorRearm n => cases ht; exact event_noticeLaw (detectorFull_closed plant n) (pins _)
  case cellarMeterPulse n => cases ht; exact event_noticeLaw (cellarPulse_closed plant n) hs
  case sensorSample r b => cases ht; exact event_noticeLaw (fun _ => sampleAll_noticeLaw r b) hs
  case alarmTimerExpiry n => cases ht; exact event_noticeLaw (fun _ => alarmExpiry_noticeLaw n) hs
  case releaseTimerExpiry n => cases ht; exact event_noticeLaw (fun _ => releaseExpiry_noticeLaw n) hs
  case controlPeriodExpiry => cases ht; exact event_noticeLaw (fun _ hu => stageStep_noticeLaw hu) hs
  case dutyWindowStart => cases ht; exact event_noticeLaw (fun _ hu => hu) hs
  case valveDutyExpiry n => cases ht; exact event_noticeLaw (fun _ hu => ite_closed hu hu) hs
  case stageFault i =>
    simp only [exec, execStageFault] at ht
    split at ht <;> cases ht
    · exact hs
    · exact event_noticeLaw (fun _ => stageFails_noticeLaw i) (pins _)
  case stageRestored i =>
    simp only [exec, execStageRestored] at ht
    split at ht <;> cases ht
    · exact event_noticeLaw (fun _ => stageReturns_noticeLaw i) (pins _)
    · exact hs
  case circuitMeterPulse c => cases ht; exact event_noticeLaw (circuitPulse_closed plant.cleaning c) hs
  case conductivityReading c r => cases ht; exact event_noticeLaw (conductivity_closed plant.cleaning c r) hs
  case supplyLow c u b =>
    cases ht
    exact event_noticeLaw (fun _ hu => ite_closed (supplyFault_closed plant.cleaning c u _ hu) hu)
      (by cases u <;> exact pins _)
  case flowTimerExpiry c => cases ht; exact event_noticeLaw (flowExpiry_closed plant.cleaning c) hs
  case timedStepExpiry c => cases ht; exact event_noticeLaw (timedExpiry_closed plant.cleaning c) hs
  case calSwitchOff b => cases ht; exact event_noticeLaw (fun _ hu => ite_closed hu hu) (pins _)
  case calWindowTimeout => cases ht; exact event_noticeLaw (fun _ hu => hu) hs

/-- A command that leads to `t` leads to a state that has the law. -/
theorem exec_noticeLaw (i : Instr) (ht : exec i s = .next t) (hs : NoticeLaw s) : NoticeLaw t := by
  cases hd : decisionOf i with
  | some f =>
    obtain ⟨k, hk⟩ := exec_of_decision hd s
    rw [hk] at ht
    cases ht
    exact event_noticeLaw (fun _ => receiveFrame_noticeLaw _ _ fun _ => decision_noticeLaw hd) hs
  | none => exact exec_event_noticeLaw hd ht hs

/-- Settles O53: postings merge, the transmitter takes away, NOTICE PACE clamps, and nothing else reaches the list or the pace. -/
theorem stepKeepsNotices : Obligations.StepKeepsNotices := by
  intro s t hs ht
  unfold step at ht
  split at ht
  · cases ht
    exact hs
  · exact exec_noticeLaw _ ht hs

end Sys2Proof.Machine
end

section
/-! ### NOTICE PACE (O9) -/

namespace Sys2Proof.Machine

open Sys2Proof Sys2Proof.Safety

/-- Settles O9: the request clamps or reads the pace, a restart starts its link with the old pace and a cold start with 20. -/
theorem noticePace : Obligations.NoticePace := by
  refine ⟨fun tag n s ready => ?_, fun tag s ready => ?_, fun straps s => ?_, fun cause straps s => rfl⟩
  · exact exec_accepted ready rfl (f := decideNoticePace (some n)) rfl rfl
  · exact exec_accepted ready rfl (f := decideNoticePace none) rfl rfl
  · rw [restart_link]
    rfl

end Sys2Proof.Machine
end

section
/-! ### The bodies of requests are read back (O5)

Each field is read back from the bytes that carry it, whatever follows; a body is its fields one behind another and its end. -/

namespace Sys2Proof.Machine

open Sys2Proof Sys2Proof.Safety Sys2Proof.Laws

/-! #### Fields (section 11.1) -/

/-- The bytes of a number are read back as its low bits. -/
theorem readField_bytesOf (w x : Nat) (rest : List Byte) : readField w (bytesOf w x ++ rest) = some (x % 256 ^ w, rest) := by
  induction w with
  | zero => simp [readField, bytesOf, Nat.mod_one]
  | succ k ih =>
    have digits : x / 256 ^ k % 256 * 256 ^ k + x % 256 ^ k = x % 256 ^ (k + 1) := by
      rw [Nat.mod_pow_succ, Nat.mul_comm, Nat.add_comm]
    simp [readField, bytesOf, ih, digits]

/-- A figure that fits its field is sent as it is. -/
theorem field_eq_bytesOf {w x : Nat} (h : x < 256 ^ w) : field w x = bytesOf w x := by
  rw [field, Nat.min_eq_left (Nat.le_sub_one_of_lt h)]

@[simp] theorem readField_field_append {w x : Nat} (h : x < 256 ^ w) (rest : List Byte) :
    readField w (field w x ++ rest) = some (x, rest) := by
  rw [field_eq_bytesOf h, readField_bytesOf, Nat.mod_eq_of_lt h]

@[simp] theorem readField_field {w x : Nat} (h : x < 256 ^ w) : readField w (field w x) = some (x, []) := by
  simpa using readField_field_append h []

@[simp] theorem readField_flagField_append (b : Bool) (rest : List Byte) :
    readField 1 (flagField b ++ rest) = some (b.toNat, rest) := by
  cases b <;> rfl

@[simp] theorem readField_flagField (b : Bool) : readField 1 (flagField b) = some (b.toNat, []) := by
  simpa using readField_flagField_append b []

@[simp] theorem flagOf_toNat (b : Bool) : flagOf b.toNat = b := by cases b <;> rfl

theorem fitsTemperature_iff {x : Int} : fitsTemperature x = true ↔ -32768 ≤ x ∧ x ≤ 32767 := by
  simp [fitsTemperature]

theorem signedField_two {x : Int} (h : fitsTemperature x = true) : signedField 2 x = bytesOf 2 (x % 65536).toNat := by
  obtain ⟨low, high⟩ := fitsTemperature_iff.mp h
  simp only [signedField]
  congr 2
  simp only [Nat.reducePow, Nat.reduceDiv]
  split <;> omega

@[simp] theorem readField_signedField_append {x : Int} (h : fitsTemperature x = true) (rest : List Byte) :
    readField 2 (signedField 2 x ++ rest) = some ((x % 65536).toNat, rest) := by
  rw [signedField_two h, readField_bytesOf, Nat.mod_eq_of_lt (by omega)]

@[simp] theorem readField_signedField {x : Int} (h : fitsTemperature x = true) :
    readField 2 (signedField 2 x) = some ((x % 65536).toNat, []) := by
  simpa using readField_signedField_append h []

@[simp] theorem signedValue_of_fits {x : Int} (h : fitsTemperature x = true) : signedValue 2 (x % 65536).toNat = x := by
  obtain ⟨low, high⟩ := fitsTemperature_iff.mp h
  simp only [signedValue, Nat.reducePow, Nat.reduceDiv]
  split <;> omega

theorem holdsByte_lt (h : HoldSet) : holdsByte h < 256 := by
  have bit : ∀ b : Bool, b.toNat ≤ 1 := Bool.toNat_le
  have := bit h.host
  have := bit h.keg
  have := bit h.temp
  have := bit h.watch
  have := bit h.overdue
  unfold holdsByte
  omega

@[simp] theorem holdsOf_holdsByte (h : HoldSet) : holdsOf (holdsByte h) = h := by
  obtain ⟨host, keg, temp, watch, overdue⟩ := h
  revert host keg temp watch overdue
  decide

theorem readLabel_append (l : Label) (rest : List Byte) : readLabel (l.toList ++ rest) = some (l, rest) := by
  have length : l.toList.length = 16 := l.length_toList
  simp only [readLabel, List.length_append, length]
  rw [if_neg (by omega), List.drop_left' length]
  congr 2
  refine Vector.ext fun i hi => ?_
  simp [List.getElem?_append_left (length ▸ hi), hi]

@[simp] theorem readLabel_toList (l : Label) : readLabel l.toList = some (l, []) := by
  simpa using readLabel_append l []

/-! A reader that goes on with what a field leaves. -/

section bind

variable {α : Type} (f : Nat × List Byte → Option α)

theorem bind_field_append {w x : Nat} (h : x < 256 ^ w) (rest : List Byte) :
    (readField w (field w x ++ rest) >>= f) = f (x, rest) := by
  rw [readField_field_append h]
  rfl

theorem bind_field {w x : Nat} (h : x < 256 ^ w) : (readField w (field w x) >>= f) = f (x, []) := by
  rw [readField_field h]
  rfl

theorem bind_flagField_append (b : Bool) (rest : List Byte) : (readField 1 (flagField b ++ rest) >>= f) = f (b.toNat, rest) := by
  rw [readField_flagField_append]
  rfl

theorem bind_signedField_append {x : Int} (h : fitsTemperature x = true) (rest : List Byte) :
    (readField 2 (signedField 2 x ++ rest) >>= f) = f ((x % 65536).toNat, rest) := by
  rw [readField_signedField_append h]
  rfl

end bind

/-! #### Records and runs of records -/

theorem readSize_append {z : Size} (h : z.wf = true) (rest : List Byte) : readSize (sizeField z ++ rest) = some (z, rest) := by
  have fits : z.target < 16777216 ∧ z.tolerance < 16777216 := by simpa [Size.wf, fits3] using h
  simp [readSize, sizeField, fits]

@[simp] theorem readSizes_sizesField {z : SizeSet} (h : z.toList.all Size.wf = true) : readSizes (sizesField z) = some (z, []) := by
  obtain ⟨⟨sizes⟩, four⟩ := z
  match sizes, four with
  | [a, b, c, d], _ =>
    simp only [Vector.toList_mk, List.all_cons, Bool.and_eq_true] at h
    obtain ⟨ha, hb, hc, hd, _⟩ := h
    have spelled : sizesField ⟨#[a, b, c, d], rfl⟩ = sizeField a ++ (sizeField b ++ (sizeField c ++ (sizeField d ++ []))) := rfl
    simp only [readSizes, spelled, Option.bind_eq_bind, Option.bind_some, readSize_append, ha, hb, hc, hd]
    rfl

/-- A run of route entries is read back (R36). -/
theorem readRoutes_flatMap {es : List RouteEntry} (h : es.all RouteEntry.wf = true) :
    readRoutes es.length (es.flatMap entryField) = some (es, []) := by
  induction es with
  | nil => rfl
  | cons e rest ih =>
    obtain ⟨first, others⟩ := Bool.and_eq_true_iff.mp h
    have fits : e.line < 256 ∧ e.sizeSet < 256 := by simpa [RouteEntry.wf, fits1] using first
    simp [readRoutes, entryField, fits, ih others]

/-- A run of program steps is read back (R149). -/
theorem readSteps_flatMap {es : List StepEntry} (h : es.all StepEntry.wf = true) :
    readSteps es.length (es.flatMap stepField) = some (es, []) := by
  induction es with
  | nil => rfl
  | cons e rest ih =>
    obtain ⟨first, others⟩ := Bool.and_eq_true_iff.mp h
    have fits : (e.kind < 256 ∧ e.amount < 4294967296) ∧ e.limit < 4294967296 := by
      simpa [StepEntry.wf, fits1, fits4] using first
    simp [readSteps, stepField, fits, ih others]

/-- The fields of a LINE SET are read back (R2). Thirteen fields: each is read (`↓`) before the reader behind it is looked at. -/
@[simp] theorem readConfig_configField {c : LineConfig} (h : c.wf = true) : readConfig (configField c) = some (c, []) := by
  simp only [LineConfig.wf, fits1, fits2, fits4, Bool.and_eq_true, decide_eq_true_eq] at h
  simp only [configField, limitsField, cleaningDueField, List.append_assoc]
  simp only [readConfig, ↓bind_field_append, ↓bind_signedField_append, ↓bind_flagField_append, ↓bind_field, Nat.reducePow, h,
    signedValue_of_fits, flagOf_toNat]
  rfl

/-! #### Whole bodies (R175) -/

@[simp] theorem atEnd_nil {α : Type} (x : α) : atEnd x [] = some x := rfl

theorem readOne_field {α : Type} {f : Nat → α} {n : Nat} (h : fits1 n = true) : readOne f (field 1 n) = some (f n) := by
  simp [readOne, show n < 256 by simpa [fits1] using h]

theorem readFour_field {f : Nat → Instr} {n : Nat} (h : fits4 n = true) : readFour f (field 4 n) = some (some (f n)) := by
  simp [readFour, show n < 4294967296 by simpa [fits4] using h]

/-- A bar mask fits its two bytes (R44). -/
@[simp] theorem readField_mask (m : BitVec 16) : readField 2 (field 2 m.toNat) = some (m.toNat, []) := readField_field m.isLt

@[simp] theorem readField_holdsByte (h : HoldSet) : readField 1 (field 1 (holdsByte h)) = some (holdsByte h, []) :=
  readField_field (holdsByte_lt h)

/-- The sizes a SIZE SET sends where it reads. -/
@[simp] theorem readSizes_blankSizes : readSizes (sizesField blankSizes) = some (blankSizes, []) := readSizes_sizesField (by decide)

/-- An optional field is read back with its presence byte (R192). -/
theorem readNoticePace_optionalField {tag : Byte} {pace : Option Nat} (h : pace.all fits2 = true) :
    readNoticePace tag (optionalField 2 pace) = some (some (.noticePace tag pace)) := by
  cases pace with
  | none => rfl
  | some n => simp [readNoticePace, optionalField, show n < 65536 by simpa [fits2] using h, show flagOf 1 = true from rfl]

theorem readWatchGet_optionalField {tag : Byte} {watch : Option Nat} (h : watch.all fits1 = true) :
    readWatchGet tag (optionalField 1 watch) = some (some (.watchGet tag watch)) := by
  cases watch with
  | none => rfl
  | some n => simp [readWatchGet, optionalField, show n < 256 by simpa [fits1] using h, show flagOf 1 = true from rfl]

/-- The body of a well-formed request is read back as that request. -/
theorem readRequest_of_encoded {c : Instr} {k : RequestKind} {b : List Byte} (wf : c.wf = true)
    (h : encodeRequest c = some (k, b)) : readRequest k (tagOf c) b = some (some c) := by
  cases c <;> cases h
  -- no field, one field, an optional field
  case status | timeGet | restart | factoryClear | routeSwap | totalsClear | calOpen => rfl
  case lineGet | lineClear | kegSwitch | kegList | tapGet | routeCheck | programRead | cleanWithdraw | cleanStop | cleanContinue
      | cleanAbort | circuitGet | returnToService | histogramRead | reconcile | watchClear =>
    simp only [readRequest]
    exact readOne_field wf
  case timeSet | surgeRemove | journalRead | journalRelease =>
    simp only [readRequest]
    exact readFour_field wf
  case noticePace p => exact readNoticePace_optionalField wf
  case watchGet w => exact readWatchGet_optionalField wf
  -- a count and that many records
  case routeWrite m first es =>
    simp only [Instr.wf, fits1, Bool.and_eq_true, decide_eq_true_eq] at wf
    obtain ⟨⟨⟨map, tap⟩, few⟩, entries⟩ := wf
    have count : es.length < 65536 := Nat.lt_of_le_of_lt few (by decide)
    simp [readRequest, tagOf, readRouteWrite, map, tap, count, readRoutes_flatMap entries]
  case programLoad p threshold es =>
    simp only [Instr.wf, fits1, fits2, Bool.and_eq_true, decide_eq_true_eq] at wf
    obtain ⟨⟨⟨program, rinse⟩, few⟩, steps⟩ := wf
    have count : es.length < 65536 := Nat.lt_of_le_of_lt few (by decide)
    simp [readRequest, tagOf, readProgramLoad, program, rinse, count, readSteps_flatMap steps]
  -- fields one behind another
  all_goals
    simp only [Instr.wf, WatchEntry.wf, fits1, fits2, fits3, fits4, Bool.and_eq_true, decide_eq_true_eq] at wf
  case productRegister | productRemove | productRead | lineSet | lineHoldApply | lineHoldRelease | kegAdd | kegRemove =>
    simp [readRequest, tagOf, readProductSet, readLineSet, readLineHold, readKegAdd, readKegRemove, wf]
  case tapSetAssign | tapSetUnassign | tapSetCloseOrphan | sizeSetWrite | sizeSetRead | freeLimitsWrite | freeLimitsRead | routeRead
      | barStateSet | barStateClear | barStateToggle =>
    simp [readRequest, tagOf, readTapSet, readSizeSet, readFreeLimits, readRouteRead, readBarState, wf]
  case trunkSet | chillerSet | surgeAdd | coolingGet | cleanRequest =>
    simp [readRequest, tagOf, readTrunkSet, readChillerSet, readSurgeAdd, readCoolingGet, readCleanRequest, wf]
  case totalsRead | watchSet | calWrite | calRead =>
    simp [readRequest, tagOf, readTotalsRead, readWatchSet, readCalWrite, readCalRead, wf]

/-- The body of a well-formed request has at most the 240 bytes of a frame. -/
theorem length_of_encoded {c : Instr} {k : RequestKind} {b : List Byte} (wf : c.wf = true)
    (h : encodeRequest c = some (k, b)) : b.length ≤ 240 := by
  cases c
  case routeWrite m first es => exact BodyFits.routeWrite _ _ _ _ wf _ _ h
  case programLoad p threshold es => exact BodyFits.programLoad _ _ _ _ wf _ _ h
  -- the length of every other body is fixed
  all_goals cases h
  all_goals simp

/-- Settles O5: each body is its fields one behind another, each read back, and its kind is found by its code. -/
theorem bodyRoundTrip : Obligations.BodyRoundTrip := by
  intro c k b wf h
  refine ⟨readRequest_of_encoded wf h, ?_, length_of_encoded wf h⟩
  cases k <;> rfl

end Sys2Proof.Machine
end

section
/-! ### Stops, and what begins a start (O11) -/

namespace Sys2Proof.Machine

open Sys2Proof Sys2Proof.Safety

/-! #### A stopped part (R187, R190) -/

/-- Without power or under reset every cellar output is off (R187). -/
theorem outputsOff_of_stopped {s : State} (h : s.takesEvents = false) : OutputsOff s := by
  refine ⟨fun n => ?_, fun n => ?_, fun i => ?_, fun c => ?_⟩
  · simp only [kegValves, h, Bool.false_and]
    rfl
  · simp only [trunkValve, h, Bool.false_and]
  · simp only [stageOutput, h, Bool.false_and]
  · simp only [circuitOutputs, h, Bool.false_and]
    rfl

/-- A stop leaves a trunk without allocation and its valve shut (R134, R187). -/
theorem stopCooling_trunk (s : State) {n : Nat} (hn : n < 12) :
    (stopCooling s).trunk n = { s.trunk n with allocation := 0, valveOpen := false } := by
  have shared := allocate_stopStages_trunk s hn
  simp only [State.trunk, Vector.getElem?_eq_getElem hn, Option.getD_some] at shared
  simp [stopCooling, State.trunk, hn, shared]

/-- A start abandoned in the middle leaves the part stopped: reset holds it, or main power is absent (R190). -/
theorem abandonStart_stopped (x : StartCut) (cold : Bool) (s : State) : (abandonStart x cold s).takesEvents = false := by
  cases x <;> rfl

/-! #### The requests (R180, R191) -/

/-- A request that its owner accepts and that calls for a start: the start waits in the slot (R180). -/
theorem exec_starts {s : State} (h : Ready s) {i : Instr} {k : RequestKind} {tag : Byte} {f : State → Decision} {cause : StartCause}
    (hx : exec i s = .next (request k tag f s))
    (hf : f (hunting s) = { state := hunting s, status := .ok, body := .none, start := some cause }) :
    exec i s = .next (withReply k tag .ok .none (some cause) (counted (hunting s))) := by
  have further : countFurther s.acct.window.isOpen .ok (hunting s) = counted (hunting s) := countFurther_eq_counted (by decide) rfl
  rw [hx, request_of_ready h, hf, further]

/-- LOCKED comes before STATE (R191). -/
theorem decideFactoryClear_locked {s : State} (off : s.pins.calSwitch = false) : decideFactoryClear s = refuse .locked s := by
  simp [decideFactoryClear, off]

theorem decideFactoryClear_busy {s : State} (on : s.pins.calSwitch = true)
    (busy : ¬ ((s.circuit .a).state = .idle ∧ (s.circuit .b).state = .idle)) : decideFactoryClear s = refuse .state s := by
  simp only [decideFactoryClear, on, Bool.not_true, Bool.false_eq_true, if_false]
  refine if_pos ?_
  rw [not_and_or] at busy
  simpa using busy

theorem decideFactoryClear_taken {s : State} (on : s.pins.calSwitch = true) (a : (s.circuit .a).state = .idle)
    (b : (s.circuit .b).state = .idle) :
    decideFactoryClear s = { state := s, status := .ok, body := .none, start := some .factoryClear } := by
  simp [decideFactoryClear, on, a, b]

/-! #### The supplies and the reset input (R188, R190) -/

section supplies

variable {s : State}

theorem backupLow_powered (on : s.store.mainPower = true) : backupLow s = s := if_pos on

theorem backupLow_unpowered (off : s.store.mainPower = false) :
    backupLow s = { s with store := { s.store with retentionLost := true } } := if_neg (by rw [off]; decide)

variable (ok : Bool) (straps : Straps) (cut : Option StartCut)

theorem powerUp_powered (on : s.store.mainPower = true) : powerUp ok straps cut s = s := if_pos on

theorem powerUp_held (off : s.store.mainPower = false) (held : s.store.resetHeld = true) : powerUp ok straps cut s
    = { s with store := { s.store with mainPower := true, heldColdStart := s.store.retentionLost || !ok } } := by
  simp [powerUp, off, held]

theorem powerUp_starts (off : s.store.mainPower = false) (free : s.store.resetHeld = false) :
    powerUp ok straps cut s = beginStart (causeAfter (s.store.retentionLost || !ok)) straps cut s := by
  simp [powerUp, off, free]

theorem releaseReset_free (free : s.store.resetHeld = false) : releaseReset straps cut s = s := by
  simp [releaseReset, free]

theorem releaseReset_unpowered (held : s.store.resetHeld = true) (off : s.store.mainPower = false) :
    releaseReset straps cut s = { s with store := { s.store with resetHeld := false } } := by
  simp [releaseReset, held, off]

theorem releaseReset_starts (held : s.store.resetHeld = true) (on : s.store.mainPower = true) : releaseReset straps cut s
    = beginStart (causeAfter (s.store.retentionLost || s.store.heldColdStart)) straps cut s := by
  simp [releaseReset, held, on]

end supplies

/-- Settles O11: the requests that call for a start, what the supplies and the reset input begin, and what a cut start leaves. -/
theorem startsBegin : Obligations.StartsBegin := by
  refine ⟨fun tag s ready => ⟨exec_starts ready rfl rfl, fun off => ?_, fun on busy => ?_, fun on a b => ?_⟩,
    fun s straps cut => ?_, fun x cold s => ?_⟩
  · exact exec_refused ready rfl (decideFactoryClear_locked (s := hunting s) off)
  · exact exec_refused ready rfl (decideFactoryClear_busy (s := hunting s) on busy)
  · exact exec_starts ready rfl (decideFactoryClear_taken (s := hunting s) on a b)
  · intro begun
    have starts : ∀ cold, beginStart (causeAfter cold) straps cut s = begun cold := fun cold => by
      cases cut <;> cases cold <;> rfl
    refine ⟨fun on => congrArg _ (backupLow_powered on), fun off => congrArg _ (backupLow_unpowered off),
      fun ok on => congrArg _ (powerUp_powered ok straps cut on), fun ok off free => ?_,
      fun ok off held => congrArg _ (powerUp_held ok straps cut off held), fun free => congrArg _ (releaseReset_free straps cut free),
      fun held off => congrArg _ (releaseReset_unpowered straps cut held off), fun held on => ?_⟩
    · rw [← starts, ← powerUp_starts ok straps cut off free]
      rfl
    · rw [← starts, ← releaseReset_starts straps cut held on]
      rfl
  · have stopped := abandonStart_stopped x cold s
    refine ⟨stopped, outputsOff_of_stopped stopped, rfl, rfl, rfl, rfl, rfl, rfl, rfl, rfl, rfl, rfl, fun n hn => ?_, ?_⟩
    · rw [show (abandonStart x cold s).trunk n = (stopCooling s).trunk n from rfl, stopCooling_trunk s hn]
      exact ⟨rfl, rfl, rfl, rfl⟩
    · rfl

end Sys2Proof.Machine
end

section
/-! ### The receiver (O7)

A frame is a start marker, the two bytes of its length, and what the length counts with the two bytes of the CRC. Each part of it moves
the receiver on; so bytes that come later are read as they would have been behind the bytes before them. -/

namespace Sys2Proof.Machine

open Sys2Proof Sys2Proof.Safety

/-! #### Bytes of 16 bits -/

/-- Two bytes carry a length most significant first. -/
theorem toNat_bytesOf_two {n : Nat} (h : n < 65536) :
    (BitVec.ofNat 8 (n / 256)).toNat * 256 + (BitVec.ofNat 8 n).toNat = n := by
  simp only [BitVec.toNat_ofNat]
  omega

/-- Different CRCs are spelled by different bytes. -/
theorem bytesOf_two_inj {x y : BitVec 16} : bytesOf 2 x.toNat = bytesOf 2 y.toNat ↔ x = y := by
  rw [bytesOf_two y.toNat, bytesOf_two_eq_iff, toNat_bytesOf_two y.isLt, BitVec.toNat_inj, eq_comm]

/-! #### The frame in progress (R173) -/

section receiver

variable {s : State}

theorem setReceiver_self {r : Receiver} (h : s.link.receiver = r) : s.setReceiver r = s := by
  subst h
  rfl

theorem receiveByte_marker (h : s.link.receiver = .hunting) : receiveByte startMarker s = s.setReceiver (.readingLength none) := by
  simp only [receiveByte, h, if_true]

theorem receiveByte_ignored (h : s.link.receiver = .hunting) {b : Byte} (hb : b ≠ startMarker) : receiveByte b s = s := by
  simp only [receiveByte, h, if_neg hb]

theorem receiveByte_first (h : s.link.receiver = .readingLength none) (b : Byte) :
    receiveByte b s = s.setReceiver (.readingLength (some b)) := by
  simp only [receiveByte, h]

/-- The second byte of the length: outside 2–242 the frame is discarded, otherwise its bytes follow. -/
theorem receiveByte_second {hi : Byte} (h : s.link.receiver = .readingLength (some hi)) (lo : Byte) : receiveByte lo s
    = if 2 ≤ hi.toNat * 256 + lo.toNat ∧ hi.toNat * 256 + lo.toNat ≤ 242 then
        s.setReceiver (.readingFrame (hi.toNat * 256 + lo.toNat) [])
      else discarding s := by
  simp only [receiveByte, h, discardFrame_eq_discarding, Bool.or_eq_true, decide_eq_true_eq]
  by_cases fits : 2 ≤ hi.toNat * 256 + lo.toNat ∧ hi.toNat * 256 + lo.toNat ≤ 242
  · rw [if_pos fits, if_neg (by simp only [maxBody]; omega)]
  · rw [if_neg fits, if_pos (by simp only [maxBody]; omega)]

/-- Marker and length, read by a hunting receiver. -/
theorem receiveBytes_head (h : s.link.receiver = .hunting) (hi lo : Byte) : receiveBytes [startMarker, hi, lo] s
    = if 2 ≤ hi.toNat * 256 + lo.toNat ∧ hi.toNat * 256 + lo.toNat ≤ 242 then
        s.setReceiver (.readingFrame (hi.toNat * 256 + lo.toNat) [])
      else discarding s := by
  have marked : receiveBytes [startMarker, hi, lo] s = receiveByte lo (receiveByte hi (s.setReceiver (.readingLength none))) := by
    rw [← receiveByte_marker h]
    rfl
  rw [marked, receiveByte_first (s := s.setReceiver (.readingLength none)) rfl, receiveByte_second (hi := hi) rfl]
  rfl

/-- A frame whose length is read and whose bytes are not yet complete. -/
theorem receiveBytes_begun (h : s.link.receiver = .hunting) {hi lo : Byte} {got : List Byte} (low : 2 ≤ hi.toNat * 256 + lo.toNat)
    (high : hi.toNat * 256 + lo.toNat ≤ 242) (short : got.length < hi.toNat * 256 + lo.toNat + 2) :
    receiveBytes (startMarker :: hi :: lo :: got) s = s.setReceiver (.readingFrame (hi.toNat * 256 + lo.toNat) got) := by
  rw [show startMarker :: hi :: lo :: got = [startMarker, hi, lo] ++ got from rfl, receiveBytes_append, receiveBytes_head h,
    if_pos ⟨low, high⟩, receiveBytes_short (hi.toNat * 256 + lo.toNat) got [] _ rfl (by simpa using short)]
  rfl

end receiver

/-! #### The frame complete (R173, R174) -/

/-- The CRC that a frame carries: over its length, kind, tag and body (section 11.2). -/
def frameCrc (kind tag : Byte) (body : List Byte) : BitVec 16 := crc16 (bytesOf 2 (body.length + 2) ++ kind :: tag :: body)

section complete

variable {s : State} {kind tag : Byte} {body : List Byte} (fits : body.length ≤ 240)
include fits

/-- The bytes that a whole frame's length counts, with the CRC behind them. -/
theorem frameRead_spelled (crc : BitVec 16) (s : State) :
    frameRead (body.length + 2) (kind :: tag :: body ++ bytesOf 2 crc.toNat) s
      = if crc = frameCrc kind tag body then receiveWhole kind tag body s else discarding s := by
  have length : (kind :: tag :: body).length = body.length + 2 := rfl
  have small : field 2 (body.length + 2) = bytesOf 2 (body.length + 2) := field_eq_bytesOf (by omega)
  unfold frameRead
  rw [List.take_left' length, List.drop_left' length, small]
  simp only [bytesOf_two_inj, discardFrame_eq_discarding]
  rfl

/-- The bytes that complete the frame in progress. -/
theorem receiveBytes_last {got bytes : List Byte} {crc : BitVec 16} (h : s.link.receiver = .readingFrame (body.length + 2) got)
    (hn : bytes ≠ []) (hb : got ++ bytes = kind :: tag :: body ++ bytesOf 2 crc.toNat) :
    receiveBytes bytes s = if crc = frameCrc kind tag body then receiveWhole kind tag body (hunting s) else discarding s := by
  have count : got.length + bytes.length = body.length + 2 + 2 := by
    rw [← List.length_append, hb, List.length_append, bytesOf_two]
    rfl
  obtain ⟨r, hr⟩ := receiveBytes_completes h hn count
  rw [hr, hb, frameRead_spelled fits, receiveWhole_setReceiver fits]
  have same : receiveWhole kind tag body (hunting s) = receiveWhole kind tag body s :=
    receiveWhole_setReceiver fits kind tag .hunting s
  rw [same]
  rfl

/-- A whole frame, its marker, its length, what the length counts and a CRC, read by a hunting receiver. -/
theorem receiveBytes_whole (h : s.link.receiver = .hunting) (crc : BitVec 16) :
    receiveBytes (startMarker :: bytesOf 2 (body.length + 2) ++ (kind :: tag :: body ++ bytesOf 2 crc.toNat)) s
      = if crc = frameCrc kind tag body then receiveWhole kind tag body s else discarding s := by
  have length := toNat_bytesOf_two (show body.length + 2 < 65536 by omega)
  have head := receiveBytes_head h (BitVec.ofNat 8 ((body.length + 2) / 256)) (BitVec.ofNat 8 (body.length + 2))
  rw [length, if_pos (by omega), ← bytesOf_two] at head
  have last := receiveBytes_last (s := s.setReceiver (.readingFrame (body.length + 2) [])) (got := []) (crc := crc) fits rfl
    (List.cons_ne_nil kind (tag :: body ++ bytesOf 2 crc.toNat)) rfl
  rw [show hunting (s.setReceiver (.readingFrame (body.length + 2) [])) = s from setReceiver_self h] at last
  rw [receiveBytes_append, head]
  exact last

/-- The frame of a body: marker, length, what the length counts, CRC (section 11.2). -/
theorem frameBytes_eq : frameBytes kind tag body
    = startMarker :: bytesOf 2 (body.length + 2) ++ (kind :: tag :: body ++ bytesOf 2 (frameCrc kind tag body).toNat) := by
  simp only [frameBytes, withCrc, frameCrc, field_eq_bytesOf (show body.length + 2 < 256 ^ 2 by omega), List.append_assoc,
    List.cons_append, List.nil_append, startMarker]

theorem receiveBytes_frameBytes (h : s.link.receiver = .hunting) :
    receiveBytes (frameBytes kind tag body) s = receiveWhole kind tag body s := by
  rw [frameBytes_eq fits, receiveBytes_whole fits h, if_pos rfl]

/-- Any part of a frame but the whole of it leaves the frame in progress. -/
theorem receiveBytes_front {front rest : List Byte} (whole : frameBytes kind tag body = front ++ rest) (hn : rest ≠ []) :
    ∃ r, ∀ u : State, u.link.receiver = .hunting → receiveBytes front u = u.setReceiver r := by
  rw [frameBytes_eq fits, bytesOf_two] at whole
  match front with
  | [] => exact ⟨.hunting, fun u hu => (setReceiver_self hu).symm⟩
  | [m] =>
    obtain ⟨rfl, _⟩ := List.cons_eq_cons.mp whole
    exact ⟨.readingLength none, fun u hu => receiveByte_marker hu⟩
  | [m, hi] =>
    obtain ⟨rfl, _⟩ := List.cons_eq_cons.mp whole
    refine ⟨.readingLength (some hi), fun u hu => ?_⟩
    have marked := receiveByte_marker hu
    exact (congrArg (receiveByte hi) marked).trans (receiveByte_first (by rfl) hi)
  | m :: hi :: lo :: got =>
    simp only [List.cons_append, List.nil_append, List.cons.injEq] at whole
    obtain ⟨rfl, rfl, rfl, content⟩ := whole
    have length := toNat_bytesOf_two (show body.length + 2 < 65536 by omega)
    have count := congrArg List.length content
    have more := List.length_pos_of_ne_nil hn
    simp only [List.length_cons, List.length_append, Laws.length_bytesOf] at count
    exact ⟨_, fun u hu => receiveBytes_begun hu (by omega) (by omega) (by omega)⟩

/-- The rest of a frame whose front has left the receiver where it stands. -/
theorem receiveBytes_rest {front rest : List Byte} (whole : frameBytes kind tag body = front ++ rest)
    (stands : receiveBytes front (hunting s) = s) : receiveBytes rest s = receiveWhole kind tag body (hunting s) := by
  rw [← receiveBytes_frameBytes fits (s := hunting s) rfl, whole, receiveBytes_append, stands]

end complete

/-- The transmitter leaves the receiver. -/
theorem transmit_receiver (s : State) : (transmit s).link.receiver = s.link.receiver := by
  unfold transmit sendNotice
  repeat' split
  all_goals rfl

/-! #### The commands of the receiver (R173, R174) -/

/-- A framing error or a pause in the middle of a frame. -/
theorem breakFrame_of_begun {s : State} (h : s.link.receiver ≠ .hunting) : breakFrame s = discarding s := if_neg h

theorem breakFrame_of_hunting {s : State} (h : s.link.receiver = .hunting) : breakFrame s = s := if_pos h

section commands

variable {s : State} (takes : s.takesEvents = true)
include takes

theorem exec_bytes {bytes : List Byte} {t : State} (h : receiveBytes bytes s = t) :
    exec (.frameDiscarded ⟨bytes, false⟩) s = .next (transmit t) := exec_event takes rfl h

theorem exec_brokenBytes {bytes : List Byte} {t : State} (h : breakFrame (receiveBytes bytes s) = t) :
    exec (.frameDiscarded ⟨bytes, true⟩) s = .next (transmit t) := exec_event takes rfl h

/-- Bytes that leave the receiver as a whole frame does. -/
theorem exec_bytes_whole {u : State} (later : u.takesEvents = true) {bytes body : List Byte} {kind tag : Byte}
    (h : receiveBytes bytes s = receiveWhole kind tag body u) :
    exec (.frameDiscarded ⟨bytes, false⟩) s = exec (.unknownRequest kind tag body) u :=
  (exec_bytes takes h).trans (exec_event later rfl rfl).symm

/-- Bytes that do not complete a frame: it is in progress, and a framing error behind them discards it. -/
theorem exec_unfinished {bytes got : List Byte} {length : Nat}
    (h : receiveBytes bytes s = s.setReceiver (.readingFrame length got)) :
    exec (.frameDiscarded ⟨bytes, false⟩) s
        = .next (transmit { s with link := { s.link with receiver := .readingFrame length got } })
      ∧ exec (.frameDiscarded ⟨bytes, true⟩) s = .next (transmit (discarding s)) := by
  refine ⟨exec_bytes takes h, exec_brokenBytes takes ?_⟩
  rw [h]
  exact breakFrame_of_begun (s := s.setReceiver (.readingFrame length got)) Receiver.noConfusion

/-- A frame whose bytes come in two parts is received with the second as it is whole (R173, R174). -/
theorem exec_twoParts (hunts : s.link.receiver = .hunting) {kind tag : Byte} {body front rest : List Byte} (fits : body.length ≤ 240)
    (whole : frameBytes kind tag body = front ++ rest) (hn : rest ≠ []) :
    ∃ t, exec (.frameDiscarded ⟨front, false⟩) s = .next t
      ∧ t = transmit { s with link := { s.link with receiver := t.link.receiver } }
      ∧ exec (.frameDiscarded ⟨rest, false⟩) t = exec (.unknownRequest kind tag body) (hunting t) := by
  obtain ⟨r, stands⟩ := receiveBytes_front fits whole hn
  have receiver : (transmit (s.setReceiver r)).link.receiver = r := transmit_receiver _
  have later : (transmit (s.setReceiver r)).takesEvents = true := (transmit_takesEvents _).trans takes
  refine ⟨transmit (s.setReceiver r), ?_, ?_, ?_⟩
  · exact exec_bytes takes (stands s hunts)
  · rw [receiver]
    rfl
  · exact exec_bytes_whole (u := hunting _) later later (receiveBytes_rest fits whole ((stands _ rfl).trans (setReceiver_self receiver)))

/-- The bytes up to the last of the CRC receive the frame in progress, or discard it. -/
theorem exec_lastPart {kind tag : Byte} {body got bytes : List Byte} {crc : BitVec 16} (fits : body.length ≤ 240)
    (h : s.link.receiver = .readingFrame (body.length + 2) got) (hn : bytes ≠ [])
    (hb : got ++ bytes = kind :: tag :: body ++ bytesOf 2 crc.toNat) :
    (crc = frameCrc kind tag body →
        exec (.frameDiscarded ⟨bytes, false⟩) s = exec (.unknownRequest kind tag body) (hunting s))
      ∧ (crc ≠ frameCrc kind tag body → exec (.frameDiscarded ⟨bytes, false⟩) s = .next (transmit (discarding s))) := by
  have last := receiveBytes_last fits h hn hb
  refine ⟨fun good => ?_, fun bad => ?_⟩
  · exact exec_bytes_whole (u := hunting s) takes takes (last.trans (if_pos good))
  · exact exec_bytes takes (last.trans (if_neg bad))

end commands

/-! #### The ends of transmissions (R174, R177, R180) -/

section ends

variable {s : State} (takes : s.takesEvents = true) (straps : Straps) (cut : Option StartCut)
include takes

theorem exec_replySent {x : Slot} (tx : s.link.tx = .reply) (slot : s.link.slot = some x) (plain : x.start = none) :
    exec (.replyTransmitted ⟨straps, cut⟩) s = .next (transmit { s with link := { s.link with slot := none, tx := .idle } }) := by
  have called : startCalledFor s = none := by simp [startCalledFor, tx, slot, plain]
  have sent : replySent s = { s with link := { s.link with slot := none, tx := .idle } } := by
    simp only [replySent, tx]
    rfl
  rw [← sent, ← event_of_takes takes]
  simp only [exec, execReplyTransmitted, replyEnds, called]

theorem exec_replyStarts {x : Slot} {cause : StartCause} (tx : s.link.tx = .reply) (slot : s.link.slot = some x)
    (start : x.start = some cause) : exec (.replyTransmitted ⟨straps, cut⟩) s = .next (beginStart cause straps cut s) := by
  have called : startCalledFor s = some cause := by simp [startCalledFor, tx, slot, start]
  simp only [exec, execReplyTransmitted, replyEnds, called, takes, if_true]

theorem exec_busyReplySent (tx : s.link.tx = .busyReply) :
    exec (.replyTransmitted ⟨straps, cut⟩) s = .next (transmit { s with link := { s.link with busy := none, tx := .idle } }) := by
  have called : startCalledFor s = none := by simp [startCalledFor, tx]
  have sent : replySent s = { s with link := { s.link with busy := none, tx := .idle } } := by
    simp only [replySent, tx]
    rfl
  rw [← sent, ← event_of_takes takes]
  simp only [exec, execReplyTransmitted, replyEnds, called]

theorem exec_noticeSent {n : SentNotice} (tx : s.link.tx = .notice n) :
    exec .noticeTransmitted s = .next (transmit { s with link := { s.link with tx := .idle } }) := by
  refine exec_event takes rfl ?_
  simp only [noticeSent, tx]
  rfl

end ends

/-- Settles O7: each part of a frame moves the receiver on, and each end of a transmission frees its place. -/
theorem linkEvents : Obligations.LinkEvents := by
  refine ⟨fun s takes => ⟨fun hunts => ?_, fun hunts kind tag body front rest fits => exec_twoParts takes hunts fits,
    fun b first => ?_, fun hi lo second => ?_, fun length got bytes reading => ?_, fun begun => ?_, ?_⟩,
    fun s straps cut takes => ⟨fun x => exec_replySent takes straps cut, fun x cause tx slot start => ?_,
      exec_busyReplySent takes straps cut, fun n => exec_noticeSent takes, exec_event takes rfl rfl⟩⟩
  · refine ⟨fun b other => ?_, fun hi lo bad => ?_, fun hi lo got low high short => ?_, fun kind tag body fits => ?_,
      fun kind tag body crc fits => ?_, ?_, ?_, ?_⟩
    · exact exec_bytes takes (receiveByte_ignored hunts other)
    · exact exec_bytes takes ((receiveBytes_head hunts hi lo).trans (if_neg bad))
    · exact exec_unfinished takes (receiveBytes_begun hunts low high short)
    · exact exec_bytes_whole takes takes (receiveBytes_frameBytes fits hunts)
    · intro front bad
      refine exec_bytes takes (Eq.trans ?_ ((receiveBytes_whole fits hunts (kind := kind) (tag := tag) crc).trans (if_neg bad)))
      simp only [front, List.cons_append, List.append_assoc, startMarker]
    · exact exec_brokenBytes takes (breakFrame_of_hunting hunts)
    · exact exec_event takes rfl (breakFrame_of_hunting hunts)
    · exact exec_event takes rfl (receiveByte_marker hunts)
  · exact exec_bytes takes (receiveByte_first first b)
  · have read := receiveByte_second second lo
    refine ⟨fun low high => exec_bytes takes (read.trans (if_pos ⟨low, high⟩)), fun bad => ?_⟩
    exact exec_bytes takes (read.trans (if_neg (by omega)))
  · refine ⟨fun short => exec_unfinished takes (receiveBytes_short length bytes got s reading short),
      fun kind tag body crc nonempty fits count hb => ?_⟩
    subst count
    exact exec_lastPart takes fits reading nonempty hb
  · exact ⟨exec_brokenBytes takes (breakFrame_of_begun begun), exec_event takes rfl (breakFrame_of_begun begun)⟩
  · rfl
  · have starts := fun cut => exec_replyStarts takes straps cut tx slot start
    exact ⟨starts none, fun y => starts (some y)⟩

end Sys2Proof.Machine
end
